-- ==== Sys2Proof/Word.lean ====
section
/-! DEFINITION. The words of the ED740: what the manual treats as bits. Counts, times, distances and
engineering values are numbers (`Nat`, `Int`), not words. -/

namespace Sys2Proof

/-- A byte of a payload, of a stored record or of the configuration image. -/
abbrev Byte := BitVec 8

/-- A 7-bit character code of the readout (R76). -/
abbrev CharCode := BitVec 7

/-- The first 16 bits of a frame: urgency (3 bits), topic (7 bits), sender station (6 bits) (R170). -/
abbrev Key := BitVec 16

end Sys2Proof
end

