-- ==== Sys2Proof/Syntax.lean ====
section
/-! DEFINITION. The commands of the ED740: one constructor of `Instr` for each row of
spec/opcode_table.json, each an event that reaches the part whole and indivisible
(95_what_each_step_holds.md). The table gives its rows no operands; the operands here are what the
event brings with it: a pin's new level, the bytes a peer or the memory sent, the number of the
timer's owner. -/

namespace Sys2Proof

/-- The three push-buttons (5.7). -/
inductive Button where
  | ack | page | trip
  deriving DecidableEq, Repr

/-- The kinds of fault a lamp output driver reports (R65). -/
inductive LoadKind where
  | openLoad | shortLoad
  deriving DecidableEq, Repr

/-- The four outcomes of a transmission of the part (R144). -/
inductive TxOutcome where
  | sent | lostArbitration | corrupted | unheard
  deriving DecidableEq, Repr

/-- The marks of the time shown of a SHOWING pop-up (Table 5-2). -/
inductive PopupMark where
  | ms1000 | ms5000 | ms10000
  deriving DecidableEq, Repr

/-- A frame as the part reads it from the line after its start mark (Table 12-1). -/
structure Frame where
  key : Key
  length : BitVec 4
  payload : List Byte
  check : BitVec 16
  deriving DecidableEq, Repr

/-- The levels of the five inputs at power-on (R159, R89): `true` is ignition on, supply low, button
closed. -/
structure InputLevels where
  ignition : Bool
  supplyLow : Bool
  ack : Bool
  page : Bool
  trip : Bool
  deriving DecidableEq, Repr

/-- The commands. The rule named at each constructor is the one its table row names. -/
inductive Instr where
  /-- R159. Power is applied, with the inputs at these levels. -/
  | powerOn (levels : InputLevels)
  /-- R159. The memory port has given the configuration area (`area`, from address 1024 up). -/
  | configImageRead (area : List Byte)
  /-- R125. The memory port has given the 36 bytes of the next store slot of the restore. -/
  | restoreSlotRead (bytes : List Byte)
  /-- R125. The memory does not answer a LOADING read within 20 ms. -/
  | memoryReadTimeout
  /-- R159. The raw ignition input changes to `level`. -/
  | ignitionInputChange (level : Bool)
  /-- R161. The 50 ms ignition debounce timer expires. -/
  | ignitionDebounceExpiry
  /-- R162. The 30 s after-run timer expires. -/
  | afterRunExpiry
  /-- R164. The supply-low input goes low. -/
  | supplyLow
  /-- R149. A start mark on the line in SLEEP. -/
  | lineWake
  /-- R149. The oscillator has settled after a wake. -/
  | oscillatorSettled
  /-- R142. Ten recessive bit times have passed: the line is quiet. -/
  | quietLine
  /-- R147. A frame of another station has been read. -/
  | frameReceived (frame : Frame)
  /-- R108. A good TIME MARK frame of station `sender`. -/
  | timeMark (sender : BitVec 6) (payload : List Byte)
  /-- R136. A good PRESENCE frame of station `sender`. -/
  | presence (sender : BitVec 6) (payload : List Byte)
  /-- R136. The presence reply delay ends. -/
  | presenceReplyDelayEnd
  /-- R168. A good SERVICE REQUEST addressed to the part, code 1; `args` are the payload bytes after
  the code. The same operands serve the requests below. -/
  | readState (sender : BitVec 6) (args : List Byte)
  /-- R168. SERVICE REQUEST, code 2. -/
  | readSlot (sender : BitVec 6) (args : List Byte)
  /-- R139. SERVICE REQUEST, code 3. -/
  | readRoster (sender : BitVec 6) (args : List Byte)
  /-- R158. SERVICE REQUEST, code 4. -/
  | readHealth (sender : BitVec 6) (args : List Byte)
  /-- R157. SERVICE REQUEST, code 5. -/
  | clearHealth (sender : BitVec 6) (args : List Byte)
  /-- R168. SERVICE REQUEST, code 6. -/
  | readDistance (sender : BitVec 6) (args : List Byte)
  /-- R169. SERVICE REQUEST, code 7. -/
  | testOverride (sender : BitVec 6) (args : List Byte)
  /-- R169. SERVICE REQUEST, code 8. -/
  | endOverride (sender : BitVec 6) (args : List Byte)
  /-- R165. SERVICE REQUEST, code 9. -/
  | ackErrorIndication (sender : BitVec 6) (args : List Byte)
  /-- R169. The 60 s override timer expires. -/
  | overrideExpiry
  /-- R144. The transmission in progress ends with this outcome. -/
  | transmissionEnd (outcome : TxOutcome)
  /-- R145. The 1000 ms muting timer expires. -/
  | mutingExpiry
  /-- R149. The 10 s peer silence timer expires. -/
  | peerSilenceExpiry
  /-- R166. The cluster status timer expires. -/
  | clusterStatusTimer
  /-- R166. The distance report timer expires. -/
  | distanceReportTimer
  /-- R17. The stale timer of a slot of the Signal Table expires. -/
  | staleExpiry (slot : Fin 64)
  /-- R23. The 10 ms motion period of a channel expires. -/
  | motionPeriod (gauge : Fin 6)
  /-- R36. The coil driver of a channel reports a stall. -/
  | stall (gauge : Fin 6)
  /-- R34. The hold timer of a channel expires. -/
  | holdExpiry (gauge : Fin 6)
  /-- R26. The 2000 ms standstill timer of a gauge expires. -/
  | standstillExpiry (gauge : Fin 6)
  /-- R40. The 2000 ms never-grace timer expires. -/
  | neverGraceExpiry
  /-- R44. The persistence timer of a band expires. -/
  | persistenceExpiry (gauge : Fin 6) (band : Fin 2)
  /-- R62. The 3000 ms proving timer expires. -/
  | provingExpiry
  /-- R58. A phase of the pattern of a lamp output ends. -/
  | lampPhaseExpiry (output : Fin 32)
  /-- R65. The driver of a lamp output reports a load fault. -/
  | lampLoadFault (output : Fin 32) (kind : LoadKind)
  /-- R68. The chime pattern timer marks the end of a beep or a gap. -/
  | chimePatternTimer
  /-- R85. The time shown of the SHOWING pop-up reaches a mark of Table 5-2. -/
  | popupTimeMark (mark : PopupMark)
  /-- R76. The screen write in flight completes. -/
  | displayWriteComplete
  /-- R89. The raw level of a button changes to `pressed`. -/
  | buttonInputChange (button : Button) (pressed : Bool)
  /-- R89. The 20 ms debounce timer of a button expires. -/
  | buttonDebounceExpiry (button : Button)
  /-- R89. The 2000 ms long-press timer of a button expires. -/
  | longPressExpiry (button : Button)
  /-- R78. The 30 s listening window expires. -/
  | listeningWindowExpiry
  /-- R98. The 90 s stale timer of a driver record expires (`driver` 0 is driver 1). -/
  | driverStaleExpiry (driver : Fin 2)
  /-- R99. A second mark of a driver record. -/
  | secondMark (driver : Fin 2)
  /-- R102. The 1000 ms speed sampling timer of the Driver Time Unit expires. -/
  | driverSpeedSample
  /-- R109. The 100 ms slew timer expires. -/
  | slewStep
  /-- R110. The 10 s holdover timer expires. -/
  | holdoverExpiry
  /-- R111. The wall clock passes a whole second. -/
  | clockSecond
  /-- R113. The 100 ms speed sampling timer of the Distance Unit expires. -/
  | distanceSample
  /-- R121. The memory status reports programming of a write attempt complete. `attempt` is the attempt the
  report is of, the attempts counted from 1 since power-on; 0 names none. -/
  | programmingComplete (attempt : Nat := 0)
  /-- R121. The read-back of a write attempt, named in the same way, has given these bytes of the target
  slot. -/
  | readBackComplete (bytes : List Byte) (attempt : Nat := 0)
  /-- R121. The attempt timer expires, or the read-back is not answered. -/
  | writeAttemptTimeout
  /-- R130. The quiet timer of a roster entry reaches one silence limit. -/
  | silenceMark (entry : Fin 24)
  /-- R130. The quiet timer of a roster entry reaches three silence limits. -/
  | lossMark (entry : Fin 24)
  /-- R132. The 1500 ms census window closes. -/
  | censusClose
  /-- R149. A start mark of another station while the part is awake. -/
  | peerStartMark
  /-- R167. A SERVICE REQUEST addressed to the part whose code is not in Table 11-3. -/
  | unknownRequest (sender : BitVec 6) (code : Byte) (args : List Byte)
  deriving DecidableEq, Repr

end Sys2Proof
end

