-- ==== Sys2Proof/Decode.lean ====
section
/-! DEFINITION. The command that a word spells. No row of spec/opcode_table.json gives bits: the ED740
takes events, not encoded instructions, so no word spells a command. (The bit layouts of its frames,
records and configuration image, R170 to R172, are read in Sys2Proof/Machine/Operands.lean and
Sys2Proof/Machine/Image.lean.) -/

namespace Sys2Proof

/-- No word spells a command: the table gives no row any bits. -/
def decodeTableWord (_nbits _w : Nat) : Option Instr := none

end Sys2Proof
end

