-- ==== Sys2Proof/Config.lean ====
section
/-! DEFINITION. What is fixed for the machine once LOADING has ended: the tables of the configuration
image (Tables 1-3, 1-4, 2-2, 2-10, 3-4, 3-5, 3-6, 8-1, 12-8) as structures, the built-in tables of the
fallback (R21, R160), and the durations the rules state. The spec leaves no value of the machine open
that a program could read, so there is no free value here (notes/assumptions/25.md). -/

namespace Sys2Proof

/-- Standing of a chime entry, a pop-up or a recorder notice: URGENT highest, NOTICE lowest. -/
inductive Grade where
  | urgent | caution | notice
  deriving DecidableEq, Repr

/-- Height of a grade: a higher number is a higher group or class. -/
def Grade.rank : Grade → Nat
  | .urgent => 2
  | .caution => 1
  | .notice => 0

/-- Rank of a descriptor (Table 1-4). -/
inductive Rank where
  | primary | backup
  deriving DecidableEq, Repr

/-- Where an intake entry's result goes (Table 1-3). -/
inductive Sink where
  | signals | driverStatus1 | driverStatus2 | recorderNotice | recorderDistance
  deriving DecidableEq, Repr

/-- A field descriptor (R2, Table 1-4). `big` is byte order BIG. -/
structure Descriptor where
  start : Nat
  length : Nat
  big : Bool
  signed : Bool
  reserve : Bool
  numerator : Int
  divisor : Nat
  offset : Int
  target : Fin 64
  rank : Rank
  deriving DecidableEq, Repr

/-- An intake entry (R1, Table 1-3). `sender = none` is ANY. -/
structure IntakeEntry where
  topic : Nat
  sender : Option Nat
  sink : Sink
  staleLimit : Nat
  descriptors : List Descriptor
  deriving DecidableEq, Repr

/-- Direction of a band (Table 2-10). -/
inductive BandDirection where
  | high | low
  deriving DecidableEq, Repr

/-- A band record (Table 2-10). -/
structure BandRecord where
  direction : BandDirection
  setLevel : Int
  clearLevel : Int
  persistence : Nat
  deriving DecidableEq, Repr

/-- A breakpoint of a characteristic: engineering value and position (R24). -/
structure Breakpoint where
  value : Int
  position : Nat
  deriving DecidableEq, Repr

/-- The standstill items of a gauge record, present together (Table 2-2). -/
structure StandstillConfig where
  slot : Fin 64
  threshold : Int
  kFast : Nat
  deriving DecidableEq, Repr

/-- A gauge record (R20, Table 2-2). The source slot is absent only under fallback (R21). -/
structure GaugeRecord where
  enabled : Bool
  source : Option (Fin 64)
  breakpoints : List Breakpoint
  fullScale : Nat
  k : Nat
  standstill : Option StandstillConfig
  speedLimit : Nat
  acceleration : Nat
  homingSpeed : Nat
  holdTime : Nat
  rest : Nat
  bands : List BandRecord
  deriving DecidableEq, Repr

/-- Lamp class (Table 3-4). -/
inductive LampClass where
  | red | amber | green | blue
  deriving DecidableEq, Repr

/-- Lamp pattern (Table 3-9). -/
inductive Pattern where
  | flicker | blink | flash (n : Nat) | steady
  deriving DecidableEq, Repr

/-- The four warnings of a driver (R101, R102). -/
inductive WarningKind where
  | breakSoon | breakOverdue | dailySoon | recorderLost
  deriving DecidableEq, Repr

/-- Source reference of a demand (Table 3-6). `health none` is ANY; driver 0 is driver 1. -/
inductive SourceRef where
  | slotTest (slot : Fin 64) (mask : BitVec 32) (invert : Bool) (unknown : Bool)
  | band (gauge : Fin 6) (band : Fin 2)
  | gaugeFault (gauge : Fin 6)
  | station (entry : Nat)
  | health (attr : Option (Fin 10))
  | driverTime (driver : Fin 2) (kind : WarningKind)
  deriving DecidableEq, Repr

/-- A demand record (R47, Table 3-5). -/
structure DemandRecord where
  source : SourceRef
  pattern : Pattern
  latching : Bool
  chime : Option Grade
  message : Option Nat
  deriving DecidableEq, Repr

/-- A lamp record (R46, Table 3-4). -/
structure LampRecord where
  output : Fin 32
  cls : LampClass
  proved : Bool
  afterRun : Bool
  demands : List DemandRecord
  deriving DecidableEq, Repr

/-- Role of a station (Table 8-1). -/
inductive Role where
  | other | engine | brake | gearbox | recorder | trailer1 | trailer2 | trailer3 | body
  deriving DecidableEq, Repr

/-- The coupling slot and mask of a trailer entry, present together (Table 8-1). -/
structure CouplingConfig where
  slot : Fin 64
  mask : BitVec 32
  deriving DecidableEq, Repr

/-- A roster entry of the image (R127, Table 8-1). -/
structure RosterRecord where
  station : Nat
  role : Role
  required : Bool
  silenceLimit : Nat
  coupling : Option CouplingConfig
  deriving DecidableEq, Repr

/-- Weight and threshold of a health attribute (R152). -/
structure HealthConfig where
  weight : Nat
  threshold : Nat
  deriving DecidableEq, Repr

/-- The pages the image enables; DISTANCE is always enabled (R79). -/
structure PageEnables where
  driver1 : Bool
  driver2 : Bool
  tripB : Bool
  clock : Bool
  deriving DecidableEq, Repr

/-- A configured text (Table 12-8). -/
structure ConfigText where
  message : Nat
  codes : List CharCode
  deriving DecidableEq, Repr

/-- The tables each block works from after LOADING: those of the image, or the fallback's. -/
structure Tables where
  ownStation : Nat
  roadSlot : Fin 64
  timeSource : Option Nat
  warningLead : Nat
  pages : PageEnables
  health : Vector HealthConfig 10
  gauges : Vector GaugeRecord 6
  intake : List IntakeEntry
  lamps : List LampRecord
  roster : List RosterRecord
  texts : List ConfigText
  deriving DecidableEq, Repr

/-- The fallback's channel parameters (R21, Table 2-3): no source slot, no standstill slot, no band. The table gives no
hold time and no breakpoints; the hold time of 0 and the empty list are the model's (DESIGN CHOICE,
notes/assumptions/53.md), and nothing shows them, as a channel with no source slot neither tracks nor holds. -/
def fallbackGauge : GaugeRecord :=
  { enabled := true, source := none, breakpoints := [], fullScale := 8000, k := 0,
    standstill := none, speedLimit := 16, acceleration := 2, homingSpeed := 32, holdTime := 0,
    rest := 0, bands := [] }

/-- The minutes that the warning lead DEFAULT stands for (R94). -/
def defaultLead : Nat := 15

/-- The built-in settings of the fallback (R160). The spec gives the fallback no warning lead; DEFAULT is the model's
(DESIGN CHOICE, notes/assumptions/50.md), and nothing shows it, as no driver bulletin is taken then. -/
def fallbackTables : Tables :=
  { ownStation := 63, roadSlot := 0, timeSource := none, warningLead := defaultLead,
    pages := { driver1 := false, driver2 := false, tripB := false, clock := false },
    health := Vector.replicate 10 { weight := 16, threshold := 0 },
    gauges := Vector.replicate 6 fallbackGauge,
    intake := [], lamps := [], roster := [], texts := [] }

/-- Durations in milliseconds. -/
abbrev motionMs : Nat := 10
abbrev standstillMs : Nat := 2000
abbrev graceMs : Nat := 2000
abbrev provingMs : Nat := 3000
abbrev ignitionDebounceMs : Nat := 50
abbrev memoryAnswerMs : Nat := 20
abbrev afterRunMs : Nat := 30000
abbrev statusFastMs : Nat := 100
abbrev statusSlowMs : Nat := 1000
abbrev distanceReportMs : Nat := 1000
abbrev peerSilenceMs : Nat := 10000
abbrev mutingMs : Nat := 1000
abbrev overrideMs : Nat := 60000
abbrev listeningWindowMs : Nat := 30000
abbrev buttonDebounceMs : Nat := 20
abbrev longPressMs : Nat := 2000
abbrev driverStaleMs : Nat := 90000
abbrev speedSampleMs : Nat := 1000
abbrev slewMs : Nat := 100
abbrev holdoverMs : Nat := 10000
abbrev distanceSampleMs : Nat := 100
abbrev attemptMs : Nat := 20
abbrev censusMs : Nat := 1500
abbrev noticeGapMs : Nat := 500

/-- Tops of the distances (Table 7-1). -/
abbrev totalMax : Nat := 999999999
abbrev tripMax : Nat := 9999999
/-- One 10 m unit in the accumulator's units of 1/3600 m (R113). -/
abbrev unitSize : Nat := 36000

end Sys2Proof
end

