-- ==== Sys2Proof/Machine/State.lean ====
section
/-! DEFINITION. The state of the ED740: for each block of Table 1-1 the items the manual gives it, the
part's millisecond time base, and the queue of commands that wait. Plain data. A timer is held as the
moment of the time base at which it is due (`none`: stopped), unless the comment says otherwise. -/

namespace Sys2Proof.Machine

open Sys2Proof

/-! ## Intake Unit: the Signal Table -/

/-- Quality of a slot (Table 1-10). -/
inductive Quality where
  | never | fresh | stale | absent | faulted
  deriving DecidableEq, Repr

/-- The writer fields of a slot record, present from the first applied arrival (Table 1-10). -/
structure Writer where
  rank : Rank
  staleLimit : Nat
  station : Nat
  time : Nat
  deriving DecidableEq, Repr

/-- A slot record (R13, Table 1-10). The stale timer of a FRESH slot is due at `time + staleLimit`. -/
structure Slot where
  value : Int
  quality : Quality
  writer : Option Writer
  deriving DecidableEq, Repr

/-- A slot at power-on (R13). -/
def Slot.initial : Slot := { value := 0, quality := .never, writer := none }

/-! ## Gauge Engine -/

/-- Channel states (Table 2-5). -/
inductive ChannelState where
  | unhomed | homing | sweeping | tracking | holding | resting | overridden | parking | parked | failed
  deriving DecidableEq, Repr

/-- Rest reasons (R35). -/
inductive RestReason where
  | stale | absent | faulted | never | disabled
  deriving DecidableEq, Repr

/-- Sweep leg (Table 2-4). -/
inductive SweepLeg where
  | up | down
  deriving DecidableEq, Repr

/-- Why the present homing run was begun: by START entry (R30), by a stall during the sweep (R32), or
by another stall (R36). It decides what the end of the run does. -/
inductive HomingRun where
  | first | afterSweepStall | rehoming
  deriving DecidableEq, Repr

/-- A band (R43). `running start` is due at `start + persistence`; its elapsed time is `now - start`. -/
inductive BandState where
  | inactive
  | running (start : Nat)
  | paused (elapsed : Nat)
  | active
  deriving DecidableEq, Repr

/-- A channel record (R22, Table 2-4) with its bands, the GAUGE-FAULT condition last evaluated (R40),
the microsteps its coils are driven by in the present period (`drive`, R28, negative downward) and
whether the last expiry changed C (`stepping`, R36). -/
structure Channel where
  state : ChannelState
  rest : Option RestReason
  position : Option Nat
  speed : Nat
  upward : Bool
  damped : Nat
  leg : Option SweepLeg
  progress : Nat
  run : HomingRun
  stalls : Nat
  holdDue : Option Nat
  holdSpent : Bool
  standDue : Option Nat
  standMode : Bool
  periodDue : Option Nat
  drive : Int
  stepping : Bool
  fault : Bool
  bands : Vector BandState 2
  deriving DecidableEq, Repr

/-- A channel at power-on (R22). -/
def Channel.initial : Channel :=
  { state := .unhomed, rest := none, position := none, speed := 0, upward := true, damped := 0,
    leg := none, progress := 0, run := .first, stalls := 0, holdDue := none, holdSpent := false,
    standDue := none, standMode := false, periodDue := none, drive := 0, stepping := false,
    fault := false, bands := Vector.replicate 2 .inactive }

/-- The never-grace timer (R40). -/
inductive Grace where
  | stopped
  | running (due : Nat)
  | expired
  deriving DecidableEq, Repr

/-- The Gauge Engine. -/
structure Gauges where
  channels : Vector Channel 6
  grace : Grace
  deriving DecidableEq, Repr

/-! ## Telltale Unit -/

/-- Demand states (R53). -/
inductive DemandState where
  | inactive | active | latched
  deriving DecidableEq, Repr

/-- A demand: its record, the condition held for it and its state (3.2, R53). -/
structure Demand where
  record : DemandRecord
  condition : Bool
  state : DemandState
  deriving DecidableEq, Repr

/-- Lamp states (Table 3-10). -/
inductive LampState where
  | off | proving | showing | overridden | afterRun
  deriving DecidableEq, Repr

/-- A lamp: the fields of its record, its demands, its state, the pattern its output follows (`none`:
dark) and the phase of that pattern with the moment the phase ends (R58 to R60). -/
structure Lamp where
  output : Fin 32
  cls : LampClass
  proved : Bool
  showAfterRun : Bool
  demands : List Demand
  state : LampState
  shown : Option Pattern
  phase : Nat
  phaseDue : Option Nat
  deriving DecidableEq, Repr

/-- Load-fault record of an output (R65). -/
structure LoadRecord where
  openSeen : Bool
  shortSeen : Bool
  deriving DecidableEq, Repr

/-- The Telltale Unit. Lamps are held in ascending order of output. `evaluating` is set from the end of
LOADING (R52); `health` are the ten exceedances as last reported (R51); `red` and `amber` are the flags of
R57. -/
structure Telltale where
  lamps : List Lamp
  evaluating : Bool
  provingDue : Option Nat
  loads : Vector LoadRecord 32
  health : Vector Bool 10
  red : Bool
  amber : Bool
  deriving DecidableEq, Repr

/-! ## Chime Unit -/

/-- Identity of a chime entry (R67). -/
inductive ChimeId where
  | demand (output : Fin 32) (index : Nat)
  | test
  deriving DecidableEq, Repr

/-- Chime entry states (Table 4-2). -/
inductive ChimeState where
  | waiting | sounding | preempted | silenced | finished
  deriving DecidableEq, Repr

/-- A chime entry (Table 4-1). -/
structure ChimeEntry where
  id : ChimeId
  group : Grade
  state : ChimeState
  bursts : Nat
  order : Nat
  deriving DecidableEq, Repr

/-- The Chime Unit: the list, the last arrival order given, whether it accepts postings (R75), and the
phase of the SOUNDING entry's pattern with the moment it ends (R68). -/
structure Chime where
  entries : List ChimeEntry
  lastOrder : Nat
  accepting : Bool
  phase : Nat
  phaseDue : Option Nat
  deriving DecidableEq, Repr

/-! ## Readout Unit -/

/-- State of a pop-up entry; SHOWING carries the time shown in ms (Table 5-1). -/
inductive PopupState where
  | queued
  | showing (time : Nat)
  deriving DecidableEq, Repr

/-- A pop-up entry (Table 5-1). -/
structure PopupEntry where
  message : Nat
  cls : Grade
  nonLatched : Bool
  order : Nat
  state : PopupState
  deriving DecidableEq, Repr

/-- The page ring (R79). -/
inductive Page where
  | driver1 | driver2 | distance | tripB | clock
  deriving DecidableEq, Repr

/-- A button input (R89): raw level, debounced state, its two timers and the held mark. -/
structure ButtonInput where
  raw : Bool
  pressed : Bool
  debounceDue : Option Nat
  longDue : Option Nat
  held : Bool
  deriving DecidableEq, Repr

/-- Driver activity (Table 6-1). -/
inductive Activity where
  | rest | available | work | drive | unknown
  deriving DecidableEq, Repr

/-- What a character position shows: a character of the module's set or the block symbol (R76). -/
inductive Glyph where
  | char (code : CharCode)
  | block
  deriving DecidableEq, Repr

/-- The five icons (R77). -/
structure Icons where
  activity1 : Option Activity
  activity2 : Option Activity
  card1 : Bool
  card2 : Bool
  clock : Bool
  deriving DecidableEq, Repr

/-- A screen: two lines of 20 positions, the icons and the lit flag (R76). -/
structure Screen where
  line1 : List Glyph
  line2 : List Glyph
  icons : Icons
  lit : Bool
  deriving DecidableEq, Repr

/-- A dark screen (R76). -/
def Screen.dark : Screen :=
  { line1 := List.replicate 20 (.char 0x20), line2 := List.replicate 20 (.char 0x20),
    icons := { activity1 := none, activity2 := none, card1 := false, card2 := false, clock := false },
    lit := false }

/-- The Readout Unit: pop-up queue, current page, listening window, buttons, ACK count (R90), the
composed contents, the screen write in flight, whether a change was merged behind it, and the contents
the module last took (`none` before the first write) (R76). -/
structure Readout where
  queue : List PopupEntry
  lastOrder : Nat
  page : Page
  windowDue : Option Nat
  ackButton : ButtonInput
  pageButton : ButtonInput
  tripButton : ButtonInput
  ackCount : Nat
  composed : Screen
  writing : Option Screen
  again : Bool
  moduleScreen : Option Screen
  deriving DecidableEq, Repr

/-! ## Driver Time Unit -/

/-- Driver record states (Table 6-2). -/
inductive RecordState where
  | none | current | stale
  deriving DecidableEq, Repr

/-- Driver card (Table 6-1). -/
inductive Card where
  | none | inserted | fault
  deriving DecidableEq, Repr

/-- The latest snapshot: time figures in seconds, or not available (Table 6-2). -/
structure Snapshot where
  activity : Activity
  card : Card
  sequence : Nat
  continuous : Option Nat
  toBreak : Option Nat
  daily : Option Nat
  toDaily : Option Nat
  arrival : Nat
  deriving DecidableEq, Repr

/-- The four warnings of a driver (R101, R102). -/
structure Warnings where
  breakSoon : Bool
  breakOverdue : Bool
  dailySoon : Bool
  recorderLost : Bool
  deriving DecidableEq, Repr

/-- A driver record (Table 6-2) with its warnings. While CURRENT the stale timer is due at
`arrival + 90000` and the next second mark at `arrival + 1000 * (e + 1)`. -/
structure DriverRecord where
  state : RecordState
  snapshot : Option Snapshot
  elapsed : Nat
  warnings : Warnings
  deriving DecidableEq, Repr

/-- A driver record at power-on (R97, R101). -/
def DriverRecord.initial : DriverRecord :=
  { state := .none, snapshot := Option.none, elapsed := 0,
    warnings := { breakSoon := false, breakOverdue := false, dailySoon := false, recorderLost := false } }

/-- A stored notice part: its index and its six characters (Table 6-4). -/
structure NoticePart where
  index : Nat
  codes : List CharCode
  deriving DecidableEq, Repr

/-- An assembly (Table 6-5). `last` is the index of the last part with the notice's class, once known. -/
structure Assembly where
  id : Nat
  parts : List NoticePart
  last : Option (Nat × Grade)
  time : Nat
  deriving DecidableEq, Repr

/-- The notice mailbox (Table 6-5). -/
inductive Mailbox where
  | empty
  | assembling (a : Assembly)
  | full (id : Nat) (cls : Grade) (text : List CharCode)
  deriving DecidableEq, Repr

/-- Clock states (Table 6-8). -/
inductive ClockState where
  | unset | locked | slewing | holdover
  deriving DecidableEq, Repr

/-- The wall clock (Table 6-7), with the whole second last reported to the Readout Unit (R111). -/
structure Clock where
  state : ClockState
  seconds : Nat
  ms : Nat
  offset : Int
  slew : Option Int
  slewDue : Option Nat
  holdoverDue : Option Nat
  reported : Option Nat
  deriving DecidableEq, Repr

/-- The Driver Time Unit: both driver records, the speed sampling timer and what its latest sample
found (R102), the mailbox, the last consumed notice id, and the wall clock. -/
structure DriverUnit where
  records : Vector DriverRecord 2
  sampleDue : Option Nat
  moving : Bool
  mailbox : Mailbox
  lastConsumed : Nat
  clock : Clock
  deriving DecidableEq, Repr

/-! ## Distance Unit and Record Store -/

/-- The Distance Unit (Table 7-1). -/
structure Distance where
  total : Nat
  tripA : Nat
  tripB : Nat
  accumulator : Nat
  reference : Nat
  sampleDue : Option Nat
  deriving DecidableEq, Repr

/-- A stored record (Table 7-4). Bit i of `retired` marks store slot i. -/
structure StoredRecord where
  sequence : Nat
  total : Nat
  tripA : Nat
  tripB : Nat
  retired : BitVec 20
  stamp : Option Nat
  health : Option (Vector Nat 10)
  deriving DecidableEq, Repr

/-- Store states (R124). -/
inductive StoreState where
  | good | degraded | failed
  deriving DecidableEq, Repr

/-- The phase of a write attempt (R121). -/
inductive WritePhase where
  | programming | verifying
  deriving DecidableEq, Repr

/-- The write in flight (Table 7-5): the record and the bytes sent for it, its target slot, the attempt
(`second`: attempt 2), the phase, the end of the 20 ms the phase may take, the number that tells this attempt
from every other (notes/assumptions/23.md), and the ten worst values as they stood when the write started
(R122). -/
structure Write where
  record : StoredRecord
  sent : List Byte
  target : Fin 20
  second : Bool
  phase : WritePhase
  due : Nat
  number : Nat
  worst : Vector Nat 10
  deriving DecidableEq, Repr

/-- The health reference (Table 7-5). -/
structure HealthReference where
  worst : Vector Nat 10
  slot : Option (Fin 20)
  deriving DecidableEq, Repr

/-- The Record Store (Table 7-5). Bit i of `retired` is set when slot i is RETIRED; `attempts` is the number
of write attempts begun since power-on (the model's own, notes/assumptions/23.md); `found` holds the valid
records the restore has read so far. -/
structure Store where
  retired : BitVec 20
  newest : Option (Fin 20)
  newestSequence : Nat
  health : Option HealthReference
  state : StoreState
  write : Option Write
  attempts : Nat
  requestPending : Bool
  restoreNext : Nat
  found : List (Fin 20 × StoredRecord)
  deriving DecidableEq, Repr

/-! ## Roster Unit -/

/-- Entry states (Table 8-3). -/
inductive EntryState where
  | unknown | present | silent | lost | absent | released
  deriving DecidableEq, Repr

/-- A roster entry: its record and the items of Table 8-2. `quietStart` is the start time of the quiet
timer (`none`: stopped); `uncoupled` is the coupling reading UNCOUPLED. -/
structure RosterEntry where
  record : RosterRecord
  state : EntryState
  acknowledged : Bool
  lastHeard : Option Nat
  quietStart : Option Nat
  uncoupled : Bool
  deriving DecidableEq, Repr

/-- The reply state (R136). -/
inductive ReplyState where
  | none
  | delaying (due : Nat)
  | queued
  deriving DecidableEq, Repr

/-- A record of the unlisted list (R138). -/
structure UnlistedRecord where
  station : Nat
  time : Nat
  deriving DecidableEq, Repr

/-- The Roster Unit. -/
structure Roster where
  entries : List RosterEntry
  censusComplete : Bool
  censusDue : Option Nat
  reply : ReplyState
  unlisted : List UnlistedRecord
  deriving DecidableEq, Repr

/-! ## Line Controller -/

/-- Line states (Table 9-2). -/
inductive LineState where
  | active | muted | listenOnly
  deriving DecidableEq, Repr

/-- The kinds of frame the part sends (Table 9-4). -/
inductive TxKind where
  | presence | clusterStatus | distanceReport | serviceReply
  deriving DecidableEq, Repr

/-- The blocks that place frames (Table 9-4). -/
inductive Placer where
  | rosterUnit | stateController | serviceResponder
  deriving DecidableEq, Repr

/-- State of a queue entry (R150). -/
inductive TxState where
  | waiting | inTransmission
  deriving DecidableEq, Repr

/-- An entry of the transmit queue (R150). The length field is the number of words of the payload. -/
structure TxEntry where
  key : Key
  payload : List Byte
  kind : TxKind
  placer : Placer
  order : Nat
  state : TxState
  deriving DecidableEq, Repr

/-- The Line Controller. `settling`: the oscillator has not settled since a wake (R149). `quiet`: the
line is quiet (R142). `listening`: the first quiet line since the end of LOADING or the last wake has
passed, so that frames are judged (R140, R149). `receiving`: a frame of another station is on the line.
`acknowledged`: the acknowledge slot of the latest frame received was driven dominant (R143).
`sleepPending`: SLEEP was entered during a transmission, whose end the sleep work awaits (R149).
`peersQuiet`: what was last reported to the State Controller (R149). -/
structure Line where
  state : LineState
  queue : List TxEntry
  lastOrder : Nat
  failures : Nat
  mutingDue : Option Nat
  silenceDue : Option Nat
  peersQuiet : Bool
  settling : Bool
  quiet : Bool
  listening : Bool
  receiving : Bool
  acknowledged : Bool
  sleepPending : Bool
  deriving DecidableEq, Repr

/-! ## Condition Monitor, State Controller, Service Responder -/

/-- A health attribute (Table 10-2); weight and threshold are in the tables. -/
structure Attribute where
  raw : Nat
  normalized : Nat
  worst : Nat
  exceeded : Bool
  deriving DecidableEq, Repr

/-- An attribute at power-on (R152). The restore sets the worst value; that it stands at 100 until then is
the model's choice (DESIGN CHOICE, notes/assumptions/17.md). -/
def Attribute.initial : Attribute := { raw := 0, normalized := 100, worst := 100, exceeded := false }

/-- Part states (Table 11-1). -/
inductive PartState where
  | loading | start | run | afterRun | listening | sleep
  deriving DecidableEq, Repr

/-- How far LOADING has come (R159, R125). -/
inductive LoadPhase where
  | readingImage | restoring | restored
  deriving DecidableEq, Repr

/-- The State Controller. `readDue` is the end of the 20 ms a LOADING read may take; `debounced`
records that the first ignition debounce expiry has been taken; `provingEnded` and `startDone` are the
reports collected in START (R161). -/
structure Control where
  part : PartState
  errorIndication : Bool
  fallback : Bool
  ready : Bool
  afterRunDue : Option Nat
  ignitionRaw : Bool
  ignition : Bool
  ignitionDue : Option Nat
  supplyLow : Bool
  load : LoadPhase
  readDue : Option Nat
  debounced : Bool
  provingEnded : Bool
  startDone : Vector Bool 6
  statusDue : Option Nat
  statusPeriod : Nat
  distanceDue : Option Nat
  deriving DecidableEq, Repr

/-- The override record (R169). -/
structure Override where
  inForce : Bool
  pattern : Pattern
  fraction : Nat
  beep : Bool
  due : Option Nat
  red : Bool
  deriving DecidableEq, Repr

/-- The Service Responder: whether the request mailbox is PENDING (R167), and the override record. -/
structure Service where
  pendingReply : Bool
  override : Override
  deriving DecidableEq, Repr

/-- What a demand can be told of (Table 3-6), slots apart. -/
inductive Source where
  | band (gauge : Fin 6) (band : Fin 2)
  | gaugeFault (gauge : Fin 6)
  | station (entry : Nat)
  | health (attr : Fin 10)
  | driverTime (driver : Fin 2) (kind : WarningKind)
  deriving DecidableEq, Repr

/-- A report on its way to the Telltale Unit inside one command (1.2): a source's condition (R50, R51).
Reports to the other blocks are taken where they are made. -/
structure Report where
  source : Source
  on : Bool
  deriving DecidableEq, Repr

/-- Why the machine stops with a fault. No command does: the spec gives every command an effect in
every state, and no constructor below is raised. -/
inductive Fault where
  /-- Raised by no definition: the spec names no event that stops the part. Safe. -/
  | stopped
  deriving DecidableEq, Repr

/-- Why the machine refuses a command. -/
inductive Refusal where
  /-- Raised by `exec` for a command without a meaning in this model; no arm does any more. Safe. -/
  | notModelled (mnemonic : String)
  deriving DecidableEq, Repr

/-- The state of the machine. `now` is the part's time base in ms (R4). `reports` are the reports to the
Telltale Unit that the command being taken has still to deliver, empty between commands; `scan` is the place
in the fixed order of the timers from which the present millisecond is still to be looked through
(notes/assumptions/2.md); both are the model's own fields. `pending` is the queue of commands, first in,
first out. -/
structure State where
  now : Nat
  tables : Tables
  control : Control
  line : Line
  slots : Vector Slot 64
  gauges : Gauges
  telltale : Telltale
  chime : Chime
  readout : Readout
  driver : DriverUnit
  distance : Distance
  store : Store
  roster : Roster
  monitor : Vector Attribute 10
  service : Service
  reports : List Report
  scan : Nat
  pending : List Instr
  deriving DecidableEq, Repr

/-! ## Named updates, one per block -/

def State.setNow (s : State) (x : Nat) : State := { s with now := x }
def State.setTables (s : State) (x : Tables) : State := { s with tables := x }
def State.setControl (s : State) (x : Control) : State := { s with control := x }
def State.setLine (s : State) (x : Line) : State := { s with line := x }
def State.setSlots (s : State) (x : Vector Slot 64) : State := { s with slots := x }
def State.setGauges (s : State) (x : Gauges) : State := { s with gauges := x }
def State.setTelltale (s : State) (x : Telltale) : State := { s with telltale := x }
def State.setChime (s : State) (x : Chime) : State := { s with chime := x }
def State.setReadout (s : State) (x : Readout) : State := { s with readout := x }
def State.setDriver (s : State) (x : DriverUnit) : State := { s with driver := x }
def State.setDistance (s : State) (x : Distance) : State := { s with distance := x }
def State.setStore (s : State) (x : Store) : State := { s with store := x }
def State.setRoster (s : State) (x : Roster) : State := { s with roster := x }
def State.setMonitor (s : State) (x : Vector Attribute 10) : State := { s with monitor := x }
def State.setService (s : State) (x : Service) : State := { s with service := x }
def State.setReports (s : State) (x : List Report) : State := { s with reports := x }
def State.setScan (s : State) (x : Nat) : State := { s with scan := x }
def State.setPending (s : State) (x : List Instr) : State := { s with pending := x }

/-! ## Reset -/

/-- A button input at power-on: RELEASED, its timers stopped, its raw level taken through the debounce
timer (R89), which is started for a raw level that differs from RELEASED. -/
def ButtonInput.initial (raw : Bool) : ButtonInput :=
  { raw := raw, pressed := false, debounceDue := if raw then some buttonDebounceMs else none,
    longDue := none, held := false }

/-- The part at power-on with its inputs at the levels given, and no command waiting: every block holds
the power-on values stated with its items (R159). The time base starts at 0. -/
def State.powerOn (l : InputLevels) : State where
  now := 0
  tables := fallbackTables
  control :=
    { part := .loading, errorIndication := false, fallback := false, ready := false,
      afterRunDue := none, ignitionRaw := l.ignition, ignition := false,
      ignitionDue := some ignitionDebounceMs, supplyLow := l.supplyLow, load := .readingImage,
      readDue := some memoryAnswerMs, debounced := false, provingEnded := false,
      startDone := Vector.replicate 6 false, statusDue := none, statusPeriod := statusSlowMs,
      distanceDue := none }
  line :=
    { state := .listenOnly, queue := [], lastOrder := 0, failures := 0, mutingDue := none,
      silenceDue := none, peersQuiet := false, settling := false, quiet := false, listening := false,
      receiving := false, acknowledged := false, sleepPending := false }
  slots := Vector.replicate 64 Slot.initial
  gauges := { channels := Vector.replicate 6 Channel.initial, grace := .stopped }
  telltale :=
    { lamps := [], evaluating := false, provingDue := none,
      loads := Vector.replicate 32 { openSeen := false, shortSeen := false },
      health := Vector.replicate 10 false, red := false, amber := false }
  chime := { entries := [], lastOrder := 0, accepting := false, phase := 0, phaseDue := none }
  readout :=
    { queue := [], lastOrder := 0, page := .distance, windowDue := none,
      ackButton := ButtonInput.initial l.ack, pageButton := ButtonInput.initial l.page,
      tripButton := ButtonInput.initial l.trip, ackCount := 0, composed := Screen.dark,
      writing := none, again := false, moduleScreen := none }
  driver :=
    { records := Vector.replicate 2 DriverRecord.initial, sampleDue := none, moving := false,
      mailbox := .empty, lastConsumed := 0,
      clock :=
        { state := .unset, seconds := 0, ms := 0, offset := 0, slew := none, slewDue := none,
          holdoverDue := none, reported := none } }
  distance :=
    { total := 0, tripA := 0, tripB := 0, accumulator := 0, reference := 0, sampleDue := none }
  store :=
    { retired := 0, newest := none, newestSequence := 0, health := none, state := .good,
      write := none, attempts := 0, requestPending := false, restoreNext := 0, found := [] }
  roster :=
    { entries := [], censusComplete := false, censusDue := none, reply := .none, unlisted := [] }
  monitor := Vector.replicate 10 Attribute.initial
  service :=
    { pendingReply := false,
      override :=
        { inForce := false, pattern := .steady, fraction := 0, beep := false, due := none,
          red := false } }
  reports := []
  scan := 0
  pending := []

/-- The machine right after reset: power-on with the ignition off, the supply not low and no button
pressed. -/
def State.reset : State :=
  State.powerOn { ignition := false, supplyLow := false, ack := false, page := false, trip := false }

end Sys2Proof.Machine
end

