-- ==== Sys2Proof/Machine/Operands.lean ====
section
/-! DEFINITION. Reading and writing the bit layouts of Chapter 12: payload fields (R7, R8, R170), the
CRC of the vehicle line (R170, R171), keys (Table 12-2), the payloads the part sends (Tables 12-3 and
12-5), the recorder bulletins (Table 12-4) and the stored record (Table 12-6); and the arithmetic of
1.4 that every extracted value passes through. -/

namespace Sys2Proof.Machine

open Sys2Proof

/-! ## Bytes and fields -/

/-- The number that bytes carried least significant first stand for. -/
def leNat : List Byte → Nat
  | [] => 0
  | b :: bs => b.toNat + 256 * leNat bs

/-- The `n` bytes of a number, least significant first. -/
def leBytes : Nat → Nat → List Byte
  | 0, _ => []
  | n + 1, x => BitVec.ofNat 8 x :: leBytes n (x / 256)

/-- A payload over all eight byte positions, missing bytes zero (R7). -/
def padEight (payload : List Byte) : List Byte :=
  (payload ++ List.replicate 8 0).take 8

/-- `length` bits from bit `start` of an array of bytes, bit b being bit (b mod 8) of byte
floor(b / 8) (R7). -/
def bitField (bytes : List Byte) (start length : Nat) : Nat :=
  leNat bytes / 2 ^ start % 2 ^ length

/-- One bit of an array of bytes. -/
def bitFlag (bytes : List Byte) (bit : Nat) : Bool :=
  bitField bytes bit 1 == 1

/-- Two's complement reading of a field of `length` bits (R10). -/
def signExtend (length r : Nat) : Int :=
  if r < 2 ^ (length - 1) then (r : Int) else (r : Int) - 2 ^ length

/-- The `length`-bit two's complement pattern of a number. -/
def wrapBits (length : Nat) (x : Int) : Nat :=
  (x % 2 ^ length).toNat

/-- A flag as a bit. -/
def flagBit (b : Bool) : Nat := if b then 1 else 0

/-! ## The CRC of the vehicle line -/

/-- One bit through the register: x^16 + x^12 + x^5 + 1 (R170). -/
def crcBit (register : Nat) (bit : Bool) : Nat :=
  let out := (register / 32768 + flagBit bit) % 2
  let shifted := register * 2 % 65536
  if out = 1 then Nat.xor shifted 0x1021 else shifted

/-- The `n` low bits of a number, most significant first. -/
def msbFirst : Nat → Nat → List Bool
  | 0, _ => []
  | n + 1, x => x.testBit n :: msbFirst n x

/-- The register after a run of bits. -/
def crcBits (register : Nat) (bits : List Bool) : Nat :=
  bits.foldl crcBit register

/-- The register after bytes in order, each bit 7 first. -/
def crcBytes (register : Nat) (bytes : List Byte) : Nat :=
  bytes.foldl (fun r b => crcBits r (msbFirst 8 b.toNat)) register

/-- The register at the start: all ones. -/
def crcStart : Nat := 0xFFFF

/-- The check of a frame, over key, length field and payload (R170). -/
def frameCheck (key : Key) (length : Nat) (payload : List Byte) : Nat :=
  crcBytes (crcBits (crcBits crcStart (msbFirst 16 key.toNat)) (msbFirst 4 length)) payload

/-- The check of a record or of the image bytes (R171). -/
def memoryCheck (bytes : List Byte) : Nat := crcBytes crcStart bytes

/-! ## Keys -/

def keyUrgency (key : Key) : Nat := key.toNat / 8192
def keyTopic (key : Key) : Nat := key.toNat / 64 % 128
def keySender (key : Key) : Nat := key.toNat % 64

/-- The key of an urgency, a topic and a sender (R170). -/
def makeKey (urgency topic sender : Nat) : Key :=
  BitVec.ofNat 16 (urgency * 8192 + topic * 64 + sender)

/-- Key of each kind of frame the part sends (Tables 9-4 and 12-2). -/
def txKey (kind : TxKind) (own : Nat) : Key :=
  match kind with
  | .presence => makeKey 1 2 own
  | .clusterStatus => makeKey 2 40 own
  | .distanceReport => makeKey 5 41 own
  | .serviceReply => makeKey 6 127 own

/-- The block that places each kind (Table 9-4). -/
def txPlacer : TxKind → Placer
  | .presence => .rosterUnit
  | .clusterStatus => .stateController
  | .distanceReport => .stateController
  | .serviceReply => .serviceResponder

/-- CLUSTER STATUS and DISTANCE REPORT are periodic (Table 9-4). -/
def TxKind.periodic : TxKind → Bool
  | .clusterStatus => true
  | .distanceReport => true
  | .presence => false
  | .serviceReply => false

/-- A payload the part sends is the shortest whole number of words that holds its fields (R170). -/
def wholeWords (bytes : List Byte) : List Byte :=
  if bytes.length % 2 = 0 then bytes else bytes ++ [0]

/-- The frame of a queue entry as the part sends it (R170). -/
def TxEntry.frame (e : TxEntry) : Frame :=
  { key := e.key, length := BitVec.ofNat 4 (e.payload.length / 2), payload := e.payload,
    check := BitVec.ofNat 16 (frameCheck e.key (e.payload.length / 2) e.payload) }

/-! ## Codes -/

def partCode : PartState → Nat
  | .loading => 0
  | .start => 1
  | .run => 2
  | .afterRun => 3
  | .listening => 4
  | .sleep => 5

def lineCode : LineState → Nat
  | .active => 0
  | .muted => 1
  | .listenOnly => 2

def clockCode : ClockState → Nat
  | .unset => 0
  | .locked => 1
  | .slewing => 2
  | .holdover => 3

def storeCode : StoreState → Nat
  | .good => 0
  | .degraded => 1
  | .failed => 2

def channelCode : ChannelState → Nat
  | .unhomed => 0
  | .homing => 1
  | .sweeping => 2
  | .tracking => 3
  | .holding => 4
  | .resting => 5
  | .overridden => 6
  | .parking => 7
  | .parked => 8
  | .failed => 9

def restCode : Option RestReason → Nat
  | some .stale => 0
  | some .absent => 1
  | some .faulted => 2
  | some .never => 3
  | some .disabled => 4
  | none => 255

def qualityCode : Quality → Nat
  | .never => 0
  | .fresh => 1
  | .stale => 2
  | .absent => 3
  | .faulted => 4

def rankCode : Rank → Nat
  | .primary => 0
  | .backup => 1

/-- Role codes (Table 8-4). -/
def roleCode : Role → Nat
  | .other => 0
  | .engine => 1
  | .brake => 2
  | .gearbox => 3
  | .recorder => 4
  | .trailer1 => 5
  | .trailer2 => 6
  | .trailer3 => 7
  | .body => 8

/-- Role code CLUSTER, the part's own (Table 8-4). -/
def clusterRole : Nat := 9

def entryCode : EntryState → Nat
  | .unknown => 0
  | .present => 1
  | .silent => 2
  | .lost => 3
  | .absent => 4
  | .released => 5

/-- The pattern codes of TEST-OVERRIDE (Table 11-3), also those of the image (Table 12-11). -/
def decodePattern (code : Nat) : Option Pattern :=
  if code = 0 then some .flicker
  else if code = 1 then some .blink
  else if code ≤ 13 then some (.flash (code - 1))
  else if code = 14 then some .steady
  else none

/-! ## Recorder bulletins -/

/-- A time field in seconds, its all-ones code not available (R95). -/
def timeFigure (allOnes raw : Nat) : Option Nat :=
  if raw = allOnes then none else some (raw * 60)

/-- Activity codes; a code that names none is UNKNOWN (R95, Table 12-4). -/
def decodeActivity (code : Nat) : Activity :=
  if code = 0 then .rest
  else if code = 1 then .available
  else if code = 2 then .work
  else if code = 3 then .drive
  else .unknown

/-- Card codes; a code that names none is FAULT (R95, Table 12-4). -/
def decodeCard (code : Nat) : Card :=
  if code = 0 then .none else if code = 1 then .inserted else .fault

/-- An 8-byte driver status payload (Table 12-4). -/
def decodeDriverStatus (payload : List Byte) (arrival : Nat) : Snapshot :=
  { activity := decodeActivity (bitField payload 0 3)
    card := decodeCard (bitField payload 3 2)
    sequence := bitField payload 8 8
    continuous := timeFigure 1023 (bitField payload 16 10)
    toBreak := timeFigure 1023 (bitField payload 26 10)
    daily := timeFigure 2047 (bitField payload 36 11)
    toDaily := timeFigure 2047 (bitField payload 47 11)
    arrival := arrival }

/-- Class codes of a notice part; a code that names none is NOTICE (R103). -/
def decodeGrade (code : Nat) : Grade :=
  if code = 0 then .urgent else if code = 1 then .caution else .notice

/-- A decoded notice part (Table 6-4). -/
structure NoticeFields where
  id : Nat
  index : Nat
  last : Bool
  cls : Grade
  codes : List CharCode
  deriving DecidableEq, Repr

/-- An 8-byte notice part payload (Table 12-4). -/
def decodeNotice (payload : List Byte) : NoticeFields :=
  { id := bitField payload 0 8
    index := bitField payload 8 2
    last := bitFlag payload 10
    cls := decodeGrade (bitField payload 11 2)
    codes := ((payload.drop 2).take 6).map (fun b => BitVec.ofNat 7 b.toNat) }

/-- The fields of a TIME MARK (Table 12-3). -/
structure TimeFields where
  seconds : Nat
  ms : Nat
  offset : Int
  deriving DecidableEq, Repr

def decodeTimeMark (payload : List Byte) : TimeFields :=
  { seconds := bitField payload 0 32
    ms := bitField payload 32 10
    offset := signExtend 7 (bitField payload 42 7) }

/-! ## Payloads the part sends -/

/-- PRESENCE (Table 12-3). -/
def presencePayload (starting : Bool) : List Byte :=
  leBytes 2 (flagBit starting + clusterRole * 2)

/-- The fields of CLUSTER STATUS (R166). -/
structure StatusFields where
  part : PartState
  ready : Bool
  error : Bool
  noticeBusy : Bool
  red : Bool
  consumed : Nat
  amber : Bool
  gaugeFault : Bool
  override : Bool
  census : Bool
  health : Bool
  store : StoreState
  ackCount : Nat
  deriving DecidableEq, Repr

/-- CLUSTER STATUS (Table 12-3). -/
def statusPayload (f : StatusFields) : List Byte :=
  [ BitVec.ofNat 8 (partCode f.part + 16 * flagBit f.ready + 32 * flagBit f.error
      + 64 * flagBit f.noticeBusy + 128 * flagBit f.red),
    BitVec.ofNat 8 f.consumed,
    BitVec.ofNat 8 (flagBit f.amber + 2 * flagBit f.gaugeFault + 4 * flagBit f.override
      + 8 * flagBit f.census + 16 * flagBit f.health + 32 * storeCode f.store),
    BitVec.ofNat 8 (f.ackCount % 16) ]

/-- DISTANCE REPORT (Table 12-3). -/
def distancePayload (total tripA : Nat) : List Byte :=
  leBytes 4 total ++ leBytes 4 tripA

/-- SERVICE REPLY (R167, Table 12-3). -/
def replyPayload (requester code reply : Nat) (data : List Byte) : List Byte :=
  wholeWords ([BitVec.ofNat 8 requester, BitVec.ofNat 8 code, BitVec.ofNat 8 reply] ++ data)

/-! ## The stored record -/

/-- Address of a store slot in the serial memory (R171). -/
def slotAddress (slot : Fin 20) : Nat := 36 * slot.val

/-- Bytes 0..33 of a record (Table 12-6). -/
def recordBody (r : StoredRecord) : List Byte :=
  leBytes 4 r.sequence ++ leBytes 4 r.total ++ leBytes 4 r.tripA ++ leBytes 4 r.tripB
    ++ leBytes 3 r.retired.toNat
    ++ [BitVec.ofNat 8 (flagBit r.stamp.isSome + 2 * flagBit r.health.isSome)]
    ++ leBytes 4 (r.stamp.getD 0)
    ++ (match r.health with
        | some h => h.toList.map (fun w => BitVec.ofNat 8 w)
        | none => List.replicate 10 0)

/-- The 36 bytes of a record, its check last (R171). -/
def encodeRecord (r : StoredRecord) : List Byte :=
  recordBody r ++ leBytes 2 (memoryCheck (recordBody r))

/-- Ten values from a list. -/
def tenValues (l : List Nat) : Vector Nat 10 :=
  #v[l.getD 0 0, l.getD 1 0, l.getD 2 0, l.getD 3 0, l.getD 4 0, l.getD 5 0, l.getD 6 0, l.getD 7 0,
    l.getD 8 0, l.getD 9 0]

/-- The record 36 bytes hold, whether or not it is valid (Table 12-6). -/
def decodeRecord (bytes : List Byte) : StoredRecord :=
  { sequence := leNat (bytes.take 4)
    total := leNat ((bytes.drop 4).take 4)
    tripA := leNat ((bytes.drop 8).take 4)
    tripB := leNat ((bytes.drop 12).take 4)
    retired := BitVec.ofNat 20 (leNat ((bytes.drop 16).take 3))
    stamp := if bitFlag (bytes.drop 19) 0 then some (leNat ((bytes.drop 20).take 4)) else none
    health :=
      if bitFlag (bytes.drop 19) 1 then
        some (tenValues (((bytes.drop 24).take 10).map BitVec.toNat))
      else none }

/-- A worst value lies in 1..100 (R125). -/
def worstInRange (w : Nat) : Bool := decide (1 ≤ w) && decide (w ≤ 100)

/-- The record of a store slot read at the restore, when it is valid (R125). -/
def validRecord (bytes : List Byte) : Option StoredRecord :=
  let r := decodeRecord bytes
  if bytes.length = 36 ∧ leNat (bytes.drop 34) = memoryCheck (bytes.take 34) ∧ 1 ≤ r.sequence
      ∧ r.total ≤ totalMax ∧ r.tripA ≤ tripMax ∧ r.tripB ≤ tripMax
      ∧ (match r.health with
          | some h => h.toList.all worstInRange
          | none => true) = true
  then some r else none

/-! ## Extraction and scaling -/

/-- A descriptor is short for a payload of n bytes (R9). -/
def isShort (d : Descriptor) (n : Nat) : Bool := decide (8 * n < d.start + d.length)

/-- The raw bits of a descriptor's field (R7, R8). -/
def extractField (d : Descriptor) (payload : List Byte) : Nat :=
  let bytes := padEight payload
  bitField (if d.big then bytes.reverse else bytes) d.start d.length

/-- What a descriptor that is not short yields (R10). -/
inductive Arrival where
  | value (e : Int)
  | absent
  | faulted
  deriving DecidableEq, Repr

/-- Division rounded half away from zero (R11). -/
def divRound (p : Int) (divisor : Nat) : Int :=
  let q0 := p.tdiv divisor
  let rem := p - q0 * divisor
  if 2 * rem.natAbs ≥ divisor then (if p ≥ 0 then q0 + 1 else q0 - 1) else q0

/-- Saturation to the signed 32-bit range (R12). -/
def saturate32 (x : Int) : Int :=
  if x > 2147483647 then 2147483647 else if x < -2147483648 then -2147483648 else x

/-- The engineering value of a raw value (R11, R12). -/
def scaleValue (d : Descriptor) (r : Int) : Int :=
  saturate32 (d.offset + divRound (r * d.numerator) d.divisor)

/-- The arrival a descriptor yields from raw bits (R10). -/
def interpretField (d : Descriptor) (raw : Nat) : Arrival :=
  if d.signed then .value (scaleValue d (signExtend d.length raw))
  else if d.reserve ∧ raw = 2 ^ d.length - 1 then .absent
  else if d.reserve ∧ raw = 2 ^ d.length - 2 then .faulted
  else .value (scaleValue d raw)

/-- A value as a 32-bit two's complement pattern (R49, R133). -/
def pattern32 (e : Int) : BitVec 32 := BitVec.ofInt 32 e

/-- The bitwise AND of a value's pattern and a mask is non-zero (R49, R133). -/
def maskedSet (e : Int) (mask : BitVec 32) : Bool := (pattern32 e &&& mask) != 0

end Sys2Proof.Machine
end

