-- ==== Sys2Proof/Machine/Flags.lean ====
section
/-! DEFINITION. The conditions and flags the rules form from the state: part-state conditions, pattern
ranks and phases (R58), slot tests (R49), band levels (R44), the GAUGE-FAULT condition (R40), health
values (R154), the lit flag (R78), and the flags of the cluster status bulletin (R166). -/

namespace Sys2Proof.Machine

open Sys2Proof

/-! ## Part state -/

/-- START, RUN, AFTER-RUN and LISTENING: the states in which the Line Controller receives (R140). -/
def PartState.awake : PartState → Bool
  | .start => true
  | .run => true
  | .afterRun => true
  | .listening => true
  | .loading => false
  | .sleep => false

/-- Ignition off since the last START entry: AFTER-RUN, LISTENING or SLEEP (Table 2-11). -/
def PartState.ignitionOff : PartState → Bool
  | .afterRun => true
  | .listening => true
  | .sleep => true
  | .loading => false
  | .start => false
  | .run => false

/-- START, RUN and AFTER-RUN: the readout is lit (R78) and output 0 under fallback too (R48). -/
def PartState.driving : PartState → Bool
  | .start => true
  | .run => true
  | .afterRun => true
  | .loading => false
  | .listening => false
  | .sleep => false

/-- R55: postings are made in START after proving has expired and in RUN. -/
def postingAllowed (s : State) : Bool :=
  match s.control.part with
  | .run => true
  | .start => s.telltale.provingDue.isNone
  | .loading => false
  | .afterRun => false
  | .listening => false
  | .sleep => false

/-! ## Patterns -/

/-- Rank of a pattern, a higher number the higher rank (Table 3-9). -/
def patternRank : Pattern → Nat
  | .flicker => 1000001
  | .blink => 1000000
  | .flash n => n
  | .steady => 0

/-- Number of phases in a pattern's cycle; STEADY has no phases to time (R58). -/
def patternPhases : Pattern → Nat
  | .flicker => 2
  | .blink => 2
  | .flash n => 2 * n
  | .steady => 0

/-- Length of a phase in ms (R58): the last dark phase of FLASH-n takes in the 1600 ms pause. -/
def patternPhaseMs (p : Pattern) (phase : Nat) : Nat :=
  match p with
  | .flicker => 125
  | .blink => 500
  | .flash n => if phase + 1 = 2 * n then 1800 else 200
  | .steady => 0

/-- Whether the output is on in a phase: the even phases of a timed pattern (R58). -/
def patternOn (p : Pattern) (phase : Nat) : Bool :=
  match p with
  | .steady => true
  | .flicker => phase % 2 == 0
  | .blink => phase % 2 == 0
  | .flash _ => phase % 2 == 0

/-- Whether a lamp's output is lit now. -/
def Lamp.lit (l : Lamp) : Bool :=
  match l.shown with
  | some p => patternOn p l.phase
  | none => false

/-- Whether an output is lit (R46, R48, R60): by its lamp, or output 0 under fallback. -/
def outputLit (s : State) (output : Fin 32) : Bool :=
  s.telltale.lamps.any (fun l => l.output == output && l.lit)
    || (s.control.fallback && output == 0 && s.control.part.driving)

/-- The pattern of the highest rank among the ACTIVE and LATCHED demands (R59). -/
def topPattern : List Demand → Option Pattern
  | [] => none
  | d :: ds =>
    if d.state = .inactive then topPattern ds
    else
      match topPattern ds with
      | some p => if patternRank d.record.pattern < patternRank p then some p else some d.record.pattern
      | none => some d.record.pattern

/-- At least one demand of a class is ACTIVE (R57). -/
def classActive (cls : LampClass) (lamps : List Lamp) : Bool :=
  lamps.any (fun l => l.cls == cls && l.demands.any (fun d => d.state == .active))

/-! ## Demand conditions -/

/-- The condition of a SLOT-TEST demand (R49). -/
def slotTestCondition (e : Int) (q : Quality) (mask : BitVec 32) (invert unknown : Bool) : Bool :=
  if q = .fresh then (if invert then !maskedSet e mask else maskedSet e mask) else unknown

/-- The power-on state of a source gives this condition (R51). -/
def initialCondition : SourceRef → Bool
  | .slotTest _ _ _ unknown => unknown
  | .band _ _ => false
  | .gaugeFault _ => false
  | .station _ => false
  | .health _ => false
  | .driverTime _ _ => false

/-! ## Gauges -/

/-- Set condition of a band (R44). -/
def bandSet (b : BandRecord) (e : Int) : Bool :=
  match b.direction with
  | .high => decide (e ≥ b.setLevel)
  | .low => decide (e ≤ b.setLevel)

/-- Clear condition of a band (R44). -/
def bandClear (b : BandRecord) (e : Int) : Bool :=
  match b.direction with
  | .high => decide (e < b.clearLevel)
  | .low => decide (e > b.clearLevel)

/-- The GAUGE-FAULT condition of an enabled gauge (R40). -/
def faultCondition (grace : Grace) (state : ChannelState) (rest : Option RestReason) : Bool :=
  match state with
  | .failed => true
  | .resting =>
    match rest with
    | some .stale => true
    | some .absent => true
    | some .faulted => true
    | some .never => decide (grace = .expired)
    | some .disabled => false
    | none => false
  | .unhomed => false
  | .homing => false
  | .sweeping => false
  | .tracking => false
  | .holding => false
  | .overridden => false
  | .parking => false
  | .parked => false

/-- Channel states whose period timer runs (R23). -/
def ChannelState.moving : ChannelState → Bool
  | .homing => true
  | .sweeping => true
  | .tracking => true
  | .holding => true
  | .resting => true
  | .overridden => true
  | .parking => true
  | .unhomed => false
  | .parked => false
  | .failed => false

/-- Channel states in which a stall is sensed (R36). -/
def ChannelState.stallSensed : ChannelState → Bool
  | .sweeping => true
  | .tracking => true
  | .holding => true
  | .resting => true
  | .overridden => true
  | .parking => true
  | .homing => false
  | .unhomed => false
  | .parked => false
  | .failed => false

/-- The position a fraction asks of a gauge (R41). -/
def overridePosition (fullScale fraction : Nat) : Nat := fullScale * fraction / 255

/-- The gauge fault flag: any enabled gauge has a fault (R166). A disabled gauge has none (R40). -/
def anyGaugeFault (s : State) : Bool := s.gauges.channels.toList.any (fun c => c.fault)

/-! ## Health -/

/-- Normalized value (R154). -/
def normalizedValue (raw weight : Nat) : Nat := max 1 (100 - raw * weight / 16)

/-- Exceedance (R154). -/
def exceedsThreshold (threshold normalized : Nat) : Bool :=
  decide (1 ≤ threshold) && decide (normalized ≤ threshold)

/-- The health exceeded flag (R154). -/
def healthExceeded (s : State) : Bool := s.monitor.toList.any (fun a => a.exceeded)

/-! ## Readout -/

/-- The lit flag (R78). -/
def readoutLit (s : State) : Bool :=
  s.control.part.driving || (s.control.part == .listening && s.readout.windowDue.isSome)

/-- The SHOWING entry. -/
def PopupEntry.isShowing (e : PopupEntry) : Bool :=
  match e.state with
  | .showing _ => true
  | .queued => false

/-- The lines show a pop-up or the test display (R91). -/
def pageCovered (s : State) : Bool :=
  s.readout.queue.any PopupEntry.isShowing || s.service.override.inForce

/-- Whether the configuration enables a page (R79). -/
def pageEnabled (p : PageEnables) : Page → Bool
  | .driver1 => p.driver1
  | .driver2 => p.driver2
  | .distance => true
  | .tripB => p.tripB
  | .clock => p.clock

/-- The home page (R79). -/
def homePage (t : Tables) : Page :=
  if t.intake.any (fun e => e.sink == .driverStatus1 || e.sink == .driverStatus2) && t.pages.driver1
  then .driver1 else .distance

/-- The page after one in ring order. -/
def Page.succ : Page → Page
  | .driver1 => .driver2
  | .driver2 => .distance
  | .distance => .tripB
  | .tripB => .clock
  | .clock => .driver1

/-- The next enabled page, looking at up to `n` pages of the ring (R79). -/
def nextPageWithin : Nat → PageEnables → Page → Page → Page
  | 0, _, _, home => home
  | n + 1, en, p, home =>
    if pageEnabled en p.succ then p.succ else nextPageWithin n en p.succ home

/-- The next enabled page after the current one (R79). -/
def nextPage (en : PageEnables) (p : Page) : Page := nextPageWithin 5 en p p

/-! ## Driver time -/

/-- The notice-busy flag (R105). -/
def noticeBusy (s : State) : Bool :=
  match s.driver.mailbox with
  | .full _ _ _ => true
  | .empty => false
  | .assembling _ => false

/-- The four time figures of a driver: seconds when extrapolated, minutes when displayed. -/
structure Figures where
  continuous : Option Nat
  toBreak : Option Nat
  daily : Option Nat
  toDaily : Option Nat
  deriving DecidableEq, Repr

/-- No figure available. -/
def Figures.none : Figures :=
  { continuous := Option.none, toBreak := Option.none, daily := Option.none, toDaily := Option.none }

/-- The extrapolated figures in seconds (R99): for activity DRIVE the driving times grow by e and the
remaining times shrink by it, not below 0. -/
def extrapolated (r : DriverRecord) : Figures :=
  match r.snapshot with
  | Option.none => Figures.none
  | some p =>
    if p.activity = .drive then
      { continuous := p.continuous.map (fun v => v + r.elapsed)
        toBreak := p.toBreak.map (fun v => v - r.elapsed)
        daily := p.daily.map (fun v => v + r.elapsed)
        toDaily := p.toDaily.map (fun v => v - r.elapsed) }
    else
      { continuous := p.continuous, toBreak := p.toBreak, daily := p.daily, toDaily := p.toDaily }

/-- Whole minutes, rounded up (R100). -/
def minutesUp (v : Nat) : Nat := (v + 59) / 60

/-- The displayed figures in minutes (R100): none of a STALE or NONE record. -/
def displayed (r : DriverRecord) : Figures :=
  if r.state = .current then
    { continuous := (extrapolated r).continuous.map (fun v => v / 60)
      toBreak := (extrapolated r).toBreak.map minutesUp
      daily := (extrapolated r).daily.map (fun v => v / 60)
      toDaily := (extrapolated r).toDaily.map minutesUp }
  else Figures.none

/-- A remaining figure is available and at most `limit` seconds. -/
def figureWithin (limit : Nat) : Option Nat → Bool
  | some v => decide (v ≤ limit)
  | Option.none => false

/-- Card INSERTED in the latest snapshot. -/
def cardInserted (r : DriverRecord) : Bool :=
  match r.snapshot with
  | some p => decide (p.card = .inserted)
  | Option.none => false

/-- The first three warnings (R101) with a lead in minutes; RECORDER-LOST is kept. -/
def timeWarnings (leadMinutes : Nat) (r : DriverRecord) : Warnings :=
  let base := decide (r.state = .current) && cardInserted r
  { breakSoon := base && figureWithin (leadMinutes * 60) (extrapolated r).toBreak
    breakOverdue := base && figureWithin 0 (extrapolated r).toBreak
    dailySoon := base && figureWithin (leadMinutes * 60) (extrapolated r).toDaily
    recorderLost := r.warnings.recorderLost }

/-- RECORDER-LOST (R102), `moving` being what the latest speed sample found. -/
def lostWarning (moving : Bool) (r : DriverRecord) : Bool :=
  decide (r.state = .stale) && cardInserted r && moving

/-- Local time of day in seconds (R111). -/
def timeOfDay (c : Clock) : Nat := (((c.seconds : Int) + c.offset * 900) % 86400).toNat

/-! ## Store -/

/-- A store slot is LIVE. -/
def slotLive (retired : BitVec 20) (slot : Nat) : Bool := !retired.getLsbD slot

/-- The number of LIVE store slots. -/
def liveCount (retired : BitVec 20) : Nat :=
  ((List.range 20).filter (slotLive retired)).length

/-- Store state by the count of LIVE slots (R124). -/
def storeStateOf (retired : BitVec 20) : StoreState :=
  if 5 ≤ liveCount retired then .good else if 2 ≤ liveCount retired then .degraded else .failed

/-- No write is in flight (R121). -/
def storeIdle (s : State) : Bool := s.store.write.isNone

/-! ## Cluster status -/

/-- The values a CLUSTER STATUS bulletin carries when it is formed (R166). -/
def statusFields (s : State) : StatusFields :=
  { part := s.control.part
    ready := s.control.ready
    error := s.control.errorIndication
    noticeBusy := noticeBusy s
    red := s.telltale.red
    consumed := s.driver.lastConsumed
    amber := s.telltale.amber
    gaugeFault := anyGaugeFault s
    override := s.service.override.inForce
    census := s.roster.censusComplete
    health := healthExceeded s
    store := s.store.state
    ackCount := s.readout.ackCount }

end Sys2Proof.Machine
end

