-- ==== Sys2Proof/Machine/Ops.lean ====
section
/-! DEFINITION. The operations several blocks share: the passing of time and taking a timer's expiry
(4.4), the taking of a report by the Condition Monitor (R153), the transmit queue (R142, R150, R151), the collection
of the reports that end START (R161), and the notice consumption (R106). -/

namespace Sys2Proof.Machine

open Sys2Proof

/-! ## Reports -/

/-- Hands a source's condition on to the Telltale Unit (R50, R51); the command delivers these reports in the
order they were handed on (notes/assumptions/7.md). -/
def tellSource (src : Source) (on : Bool) (s : State) : State :=
  s.setReports (s.reports ++ [{ source := src, on := on }])

/-- An attribute after one more report (R153 to R155). -/
def Attribute.counted (a : Attribute) (c : HealthConfig) : Attribute :=
  let raw := min 65535 (a.raw + 1)
  let norm := normalizedValue raw c.weight
  { raw := raw, normalized := norm, worst := min a.worst norm,
    exceeded := exceedsThreshold c.threshold norm }

/-- The Condition Monitor takes one report of attribute `h` (Table 10-1, R153), at once; a change of
exceedance is told to the Telltale Unit (R154). -/
def count (h : Fin 10) (s : State) : State :=
  let a := s.monitor[h].counted s.tables.health[h]
  let s1 := s.setMonitor (s.monitor.set h a)
  if a.exceeded = s.monitor[h].exceeded then s1 else tellSource (.health h) a.exceeded s1

/-! ## Time -/

/-- The ordinary advance of the wall clock by a time in ms; seconds wrap (Table 6-7). -/
def Clock.addMs (c : Clock) (d : Nat) : Clock :=
  if c.state = .unset then c
  else
    let t := (c.seconds * 1000 + c.ms + d) % 4294967296000
    { c with seconds := t / 1000, ms := t % 1000 }

/-- How many of the slew steps that a negative slew remaining still calls for are due by a moment (R109). -/
def Clock.stepsDue (moment : Nat) (c : Clock) : Nat :=
  match c.slew, c.slewDue with
  | some r, some due => if r < 0 ∧ due ≤ moment then min r.natAbs ((moment - due) / slewMs + 1) else 0
  | some _, none => 0
  | none, _ => 0

/-- The ms of its ordinary advance that the wall clock gives up in the `d` ms after `now`: one for each slew step
of a negative slew remaining that is due in them, the ms that ends at the moment of the step, so that the clock
stands in it and never runs backward (R109; DEDUCED, notes/assumptions/27.md). -/
def Clock.givenUp (now d : Nat) (c : Clock) : Nat := c.stepsDue (now + d) - c.stepsDue now

/-- The wall clock `d` ms after `now`. -/
def Clock.pass (now d : Nat) (c : Clock) : Clock := c.addMs (d - c.givenUp now d)

/-- The time in which the wall clock advances by `n` ms, at most 1000; more than `n` where it gives up some of
them. -/
def Clock.timeFor (now n : Nat) (c : Clock) : Nat := n + c.givenUp now (n + c.givenUp now n)

/-- The time shown of a SHOWING entry advances (R85). -/
def PopupEntry.age (d : Nat) (e : PopupEntry) : PopupEntry :=
  match e.state with
  | .showing t => { e with state := .showing (t + d) }
  | .queued => e

/-- The time base moves on by `d` ms: the wall clock advances, and the time shown of the SHOWING pop-up
while the readout is lit (R85). Every other timer is held as the moment it is due. -/
def advance (d : Nat) (s : State) : State :=
  let s1 := (s.setNow (s.now + d)).setDriver { s.driver with clock := s.driver.clock.pass s.now d }
  if readoutLit s then
    s1.setReadout { s1.readout with queue := s1.readout.queue.map (PopupEntry.age d) }
  else s1

/-- The time base stands at `due` or later. -/
def reach (due : Nat) (s : State) : State :=
  if s.now < due then advance (due - s.now) s else s

/-- Takes a timer's expiry: a stopped timer does not expire; a running one is taken at its due moment
or, where that has passed, now (notes/assumptions/3.md). `f` is told the due moment, from which a
periodic timer runs on. -/
def onExpiry (due : Option Nat) (f : Nat → State → State) (s : State) : State :=
  match due with
  | some d => f d (reach d s)
  | none => s

/-! ## Transmit queue -/

/-- `a` stands before `b` in queue order: lower key first, then older (R150). -/
def TxEntry.before (a b : TxEntry) : Bool :=
  decide (a.key.toNat < b.key.toNat) || (decide (a.key = b.key) && decide (a.order < b.order))

/-- The first WAITING entry in queue order (R142). -/
def firstWaiting : List TxEntry → Option TxEntry
  | [] => none
  | e :: es =>
    if e.state = .waiting then
      match firstWaiting es with
      | some m => if m.before e then some m else some e
      | none => some e
    else firstWaiting es

/-- An entry is IN-TRANSMISSION (R150). -/
def transmitting (q : List TxEntry) : Bool := q.any (fun e => e.state == .inTransmission)

/-- The queue with one entry IN-TRANSMISSION. -/
def startEntry (e : TxEntry) : List TxEntry → List TxEntry
  | [] => []
  | x :: xs => if x = e then { x with state := .inTransmission } :: xs else x :: startEntry e xs

/-- Starts a transmission when the conditions of R142 hold. The start mark ends the quiet. -/
def tryTransmit (s : State) : State :=
  if s.line.state = .active ∧ s.line.quiet ∧ ¬ transmitting s.line.queue then
    match firstWaiting s.line.queue with
    | some e =>
      s.setLine { s.line with
        quiet := false
        queue := startEntry e s.line.queue }
    | none => s
  else s

/-- What becomes of an entry that leaves the queue (R151). -/
inductive Leaving where
  | sent | dropped | superseded | discarded
  deriving DecidableEq, Repr

/-- The report to the placing block (R151): a PRESENCE reply, the one with the starting flag clear,
returns the reply state to NONE (R136); a SERVICE REPLY returns the mailbox to EMPTY (R167). -/
def reportLeaving (kind : TxKind) (payload : List Byte) (_how : Leaving) (s : State) : State :=
  match kind with
  | .presence =>
    if bitFlag payload 0 = false ∧ s.roster.reply = .queued then
      s.setRoster { s.roster with reply := .none }
    else s
  | .serviceReply => s.setService { s.service with pendingReply := false }
  | .clusterStatus => s
  | .distanceReport => s

/-- A WAITING entry of a kind. -/
def waitingOfKind (kind : TxKind) (e : TxEntry) : Bool := e.kind == kind && e.state == .waiting

/-- Places a frame in the transmit queue (R151). -/
def placeFrame (kind : TxKind) (payload : List Byte) (s : State) : State :=
  let q := s.line.queue
  if s.line.state = .listenOnly then reportLeaving kind payload .discarded s
  else if kind.periodic ∧ q.any (waitingOfKind kind) then
    s.setLine { s.line with
      queue := q.map (fun e => if waitingOfKind kind e then { e with payload := payload } else e) }
  else if q.length < 8 then
    tryTransmit (s.setLine { s.line with
      lastOrder := s.line.lastOrder + 1
      queue := q ++ [{ key := txKey kind s.tables.ownStation, payload := payload, kind := kind,
                       placer := txPlacer kind, order := s.line.lastOrder + 1, state := .waiting }] })
  else count 9 (reportLeaving kind payload .dropped s)

/-- Forms a CLUSTER STATUS bulletin and places it (R166). -/
def placeStatus (s : State) : State := placeFrame .clusterStatus (statusPayload (statusFields s)) s

/-- Forms a DISTANCE REPORT and places it (R166). -/
def placeDistanceReport (s : State) : State :=
  placeFrame .distanceReport (distancePayload s.distance.total s.distance.tripA) s

/-- Starts the cluster status timer with a period and places a bulletin at once (R159, R161, R162). -/
def restartStatus (period : Nat) (s : State) : State :=
  placeStatus (s.setControl { s.control with statusDue := some (s.now + period), statusPeriod := period })

/-- Starts the distance report timer and places a bulletin (R166). -/
def restartDistanceReport (s : State) : State :=
  placeDistanceReport (s.setControl { s.control with distanceDue := some (s.now + distanceReportMs) })

/-! ## The reports that end START -/

/-- The six gauges in order. -/
def allGauges : List (Fin 6) := [0, 1, 2, 3, 4, 5]

/-- Enters RUN once the end of proving and a start-sequence report of every enabled channel have been
taken in START (R161). -/
def checkRun (s : State) : State :=
  if s.control.part = .start ∧ s.control.provingEnded
      ∧ allGauges.all (fun g => !s.tables.gauges[g].enabled || s.control.startDone[g]) then
    s.setControl { s.control with part := .run, ready := true }
  else s

/-- The start-sequence report of a channel (R32); the State Controller disregards it outside START. -/
def reportStartDone (g : Fin 6) (s : State) : State :=
  if s.control.part = .start then
    checkRun (s.setControl { s.control with startDone := s.control.startDone.set g true })
  else s

/-- The end of proving (R62). -/
def reportProvingEnd (s : State) : State :=
  if s.control.part = .start then checkRun (s.setControl { s.control with provingEnded := true })
  else s

/-- A cause event of the error indication (R165). -/
def setErrorIndication (s : State) : State :=
  s.setControl { s.control with errorIndication := true }

/-! ## Notice consumption -/

/-- A consumption of a FULL mailbox (R106). -/
def consumeNotice (s : State) : State :=
  match s.driver.mailbox with
  | .full id _ _ => s.setDriver { s.driver with mailbox := .empty, lastConsumed := id }
  | .empty => s
  | .assembling _ => s

end Sys2Proof.Machine
end

