-- ==== Sys2Proof/Machine/Monitor.lean ====
section
/-! DEFINITION. The Condition Monitor (Chapter 10), but for the taking of a report (`count`, Ops.lean). -/

namespace Sys2Proof.Machine

open Sys2Proof

/-- The ten attributes in order. -/
def allAttributes : List (Fin 10) := [0, 1, 2, 3, 4, 5, 6, 7, 8, 9]

/-- Tells the Telltale Unit of an attribute that was exceeded and is so no more (R157). -/
def reportCleared (before : Vector Attribute 10) (s : State) (h : Fin 10) : State :=
  if before[h].exceeded then tellSource (.health h) false s else s

/-- CLEAR-HEALTH at the monitor (R157). The attributes that were exceeded are reported in the order H0 to H9: the
rule gives none (DESIGN CHOICE, notes/assumptions/47.md). -/
def clearMonitor (s : State) : State :=
  allAttributes.foldl (reportCleared s.monitor)
    (s.setMonitor (Vector.replicate 10 Attribute.initial))

/-- The ten worst values as they stand (R156). -/
def worstValues (s : State) : Vector Nat 10 :=
  #v[s.monitor[0].worst, s.monitor[1].worst, s.monitor[2].worst, s.monitor[3].worst,
    s.monitor[4].worst, s.monitor[5].worst, s.monitor[6].worst, s.monitor[7].worst,
    s.monitor[8].worst, s.monitor[9].worst]

/-- An attribute at the end of the restore (R126, R152). -/
def restoredAttribute (worst : Nat) : Attribute := { Attribute.initial with worst := worst }

/-- The attributes at the end of the restore, from the health reference's worst values (R126). -/
def restoredMonitor (w : Vector Nat 10) : Vector Attribute 10 :=
  #v[restoredAttribute w[0], restoredAttribute w[1], restoredAttribute w[2], restoredAttribute w[3],
    restoredAttribute w[4], restoredAttribute w[5], restoredAttribute w[6], restoredAttribute w[7],
    restoredAttribute w[8], restoredAttribute w[9]]

end Sys2Proof.Machine
end

