-- ==== Sys2Proof/Machine/Readout.lean ====
section
/-! DEFINITION. The Readout Unit (Chapter 5): the pop-up queue, the composition of the screen and the
writes to the display module. The buttons are in Controls.lean. -/

namespace Sys2Proof.Machine

open Sys2Proof

/-! ## The pop-up queue -/

/-- The message number of the recorder notice. -/
abbrev noticeMessage : Nat := 64

/-- The SHOWING entry. -/
def showingPopup (q : List PopupEntry) : Option PopupEntry := q.find? PopupEntry.isShowing

/-- Time shown; 0 for an entry that is not SHOWING. -/
def PopupEntry.timeShown (e : PopupEntry) : Nat :=
  match e.state with
  | .showing t => t
  | .queued => 0

/-- `a` is selected ahead of `b`: higher class, then older (R84). -/
def PopupEntry.ahead (a b : PopupEntry) : Bool :=
  decide (b.cls.rank < a.cls.rank) || (decide (a.cls = b.cls) && decide (a.order < b.order))

/-- The oldest QUEUED entry of the highest class among the QUEUED (R84). -/
def chosenPopup : List PopupEntry → Option PopupEntry
  | [] => none
  | e :: es =>
    if e.state = .queued then
      match chosenPopup es with
      | some m => if m.ahead e then some m else some e
      | none => some e
    else chosenPopup es

/-- The queue with the entry of one message SHOWING from time shown 0 and every other QUEUED. -/
def showPopup (message : Nat) (q : List PopupEntry) : List PopupEntry :=
  q.map (fun e => { e with state := if e.message = message then .showing 0 else .queued })

/-- Preemption and selection (R84). -/
def settlePopups (q : List PopupEntry) : List PopupEntry :=
  match showingPopup q, chosenPopup q with
  | some e, some m => if e.cls.rank < m.cls.rank then showPopup m.message q else q
  | some _, none => q
  | none, some m => showPopup m.message q
  | none, none => q

/-- The higher of two classes (R83). -/
def higherGrade (a b : Grade) : Grade := if a.rank < b.rank then b else a

/-- The lowest height of a class in the queue. -/
def lowestClass : List PopupEntry → Nat
  | [] => 2
  | e :: es => min e.cls.rank (lowestClass es)

/-- The greatest arrival order among the entries of a height. -/
def newestOfClass (rank : Nat) : List PopupEntry → Nat
  | [] => 0
  | e :: es => if e.cls.rank = rank then max e.order (newestOfClass rank es) else newestOfClass rank es

/-- The queue without the newest entry of a height (R87). -/
def dropNewestPopup (rank : Nat) (q : List PopupEntry) : List PopupEntry :=
  q.filter (fun e => !(decide (e.cls.rank = rank) && decide (e.order = newestOfClass rank q)))

/-- Admits a new entry into the entries given, then preemption and selection (R83). -/
def admitPopup (message : Nat) (cls : Grade) (nonLatched : Bool) (q : List PopupEntry) (r : Readout) :
    Readout :=
  { r with
    lastOrder := r.lastOrder + 1
    queue := settlePopups (q ++ [{ message := message, cls := cls, nonLatched := nonLatched,
                                   order := r.lastOrder + 1, state := .queued }]) }

/-- A posting for a message already in the queue (R83). -/
def raisePopup (message : Nat) (cls : Grade) (nonLatched : Bool) (r : Readout) : Readout :=
  { r with
    queue := settlePopups (r.queue.map (fun e =>
      if e.message = message then
        { e with cls := higherGrade e.cls cls, nonLatched := e.nonLatched && nonLatched }
      else e)) }

/-- A posting (R83, overflow R87). -/
def postPopup (message : Nat) (cls : Grade) (nonLatched : Bool) (s : State) : State :=
  let r := s.readout
  if r.queue.any (fun e => e.message == message) then s.setReadout (raisePopup message cls nonLatched r)
  else if r.queue.length < 8 then s.setReadout (admitPopup message cls nonLatched r.queue r)
  else if cls = .notice then count 9 s
  else if r.queue.any (fun e => e.cls == .notice) then
    count 9 (s.setReadout (admitPopup message cls nonLatched (dropNewestPopup 0 r.queue) r))
  else if cls.rank ≤ lowestClass r.queue then count 9 s
  else
    count 9 (s.setReadout
      (admitPopup message cls nonLatched (dropNewestPopup (lowestClass r.queue) r.queue) r))

/-- Removes the entry of a message; the selection follows (R84). -/
def removePopup (message : Nat) (s : State) : State :=
  s.setReadout { s.readout with
    queue := settlePopups (s.readout.queue.filter (fun e => e.message != message)) }

/-- Removal by the end of an entry's life or by ACK: that of entry 64 is a consumption (R88). -/
def retirePopup (message : Nat) (s : State) : State :=
  if message = noticeMessage then consumeNotice (removePopup message s) else removePopup message s

/-- A cause-cleared report (R86). -/
def causeCleared (message : Nat) (s : State) : State :=
  if s.readout.queue.any (fun e => e.message == message && e.nonLatched) then removePopup message s else s

/-- An ACK event at the queue (R86). -/
def ackPopup (s : State) : State :=
  match showingPopup s.readout.queue with
  | some e => if 1000 ≤ e.timeShown then retirePopup e.message s else s
  | none => s

/-- The time of a mark (Table 5-2). -/
def popupMarkMs : PopupMark → Nat
  | .ms1000 => 1000
  | .ms5000 => 5000
  | .ms10000 => 10000

/-- The entries a mark applies to (Table 5-2). -/
def markApplies (m : PopupMark) (e : PopupEntry) : Bool :=
  match m with
  | .ms1000 => true
  | .ms5000 => e.cls == .notice && e.message != noticeMessage
  | .ms10000 => e.message == noticeMessage

/-- A mark ends the life of an entry (Table 5-2). -/
def markEnds : PopupMark → Bool
  | .ms1000 => false
  | .ms5000 => true
  | .ms10000 => true

/-- The time shown of the SHOWING entry reaches a mark (R85). It stands still while the readout is
dark, and a mark that does not apply to the entry is not reached. -/
def popupMark (m : PopupMark) (s : State) : State :=
  match showingPopup s.readout.queue with
  | some e =>
    if readoutLit s = true ∧ markApplies m e = true then
      let s1 := advance (popupMarkMs m - e.timeShown) s
      if markEnds m then retirePopup e.message s1 else s1
    else s
  | none => s

/-- Clears the queue at START entry, without consumption or drop, and posts what R82 posts then. -/
def startPopups (s : State) : State :=
  let s0 := s.setReadout { s.readout with queue := [], lastOrder := 0 }
  let s1 := if s.control.fallback then postPopup 56 .urgent false s0 else s0
  let s2 := if s.store.state ≠ .good then postPopup 61 .caution false s1 else s1
  match s.driver.mailbox with
  | .full _ cls _ => postPopup noticeMessage cls false s2
  | .empty => s2
  | .assembling _ => s2

/-! ## Texts -/

/-- Character codes of characters. -/
def codesOf (cs : List Char) : List CharCode := cs.map (fun c => BitVec.ofNat 7 c.toNat)

/-- A text over 20 columns, completed with spaces (R85). -/
def padTwenty (codes : List CharCode) : List CharCode :=
  (codes ++ List.replicate 20 (0x20 : CharCode)).take 20

/-- The built-in texts (Table 5-3). -/
def builtInText (message : Nat) : List CharCode :=
  match message with
  | 56 => codesOf ['C','L','U','S','T','E','R',' ','C','O','N','F','I','G',' ','F','A','U','L','T']
  | 57 => codesOf ['W','A','R','N','I','N','G',' ','L','A','M','P',' ','F','A','U','L','T']
  | 58 => codesOf ['R','E','C','O','R','D','E','R',' ','D','A','T','A',' ','L','O','S','T']
  | 59 => codesOf ['G','A','U','G','E',' ','F','A','U','L','T']
  | 60 => codesOf ['T','R','A','I','L','E','R',' ','L','I','N','K',' ','L','O','S','T']
  | 61 => codesOf ['O','D','O','M','E','T','E','R',' ','S','T','O','R','E',' ','F','A','U','L','T']
  | 62 => codesOf ['C','H','E','C','K',' ','C','L','U','S','T','E','R']
  | 63 => codesOf ['B','R','E','A','K',' ','D','U','E',' ','N','O','W']
  | _ => []

/-- The text the mailbox holds. -/
def mailboxText : Mailbox → List CharCode
  | .full _ _ text => text
  | .empty => []
  | .assembling _ => []

/-- The text of a message number (R85); of two configured texts the later stands (R172). -/
def popupText (s : State) (message : Nat) : List CharCode :=
  if message = noticeMessage then mailboxText s.driver.mailbox
  else if 56 ≤ message then builtInText message
  else
    match (s.tables.texts.filter (fun t => t.message == message)).getLast? with
    | some t => t.codes
    | none => []

/-! ## Composition -/

/-- What a position shows for a code (R76). -/
def glyphOf (c : CharCode) : Glyph := if 0x20 ≤ c.toNat ∧ c.toNat ≤ 0x7E then .char c else .block

/-- A line of spaces. -/
def blankLine : List CharCode := List.replicate 20 0x20

/-- A text written over a line from a column, columns counted from 1. -/
def writeAt (column : Nat) (text line : List CharCode) : List CharCode :=
  line.take (column - 1) ++ text ++ line.drop (column - 1 + text.length)

/-- The character of a digit. -/
def digitCode (d : Nat) : CharCode := BitVec.ofNat 7 (48 + d % 10)

/-- Two digits with a leading zero. -/
def twoDigits (n : Nat) : List CharCode := [digitCode (n / 10), digitCode n]

/-- A decimal number without leading zeros, of up to `n` digits. -/
def decimalCodes : Nat → Nat → List CharCode
  | 0, _ => []
  | n + 1, x => if x < 10 then [digitCode x] else decimalCodes n (x / 10) ++ [digitCode x]

/-- A figure as hh:mm, or "--:--" (R80). -/
def figureCodes : Option Nat → List CharCode
  | some m => twoDigits (m / 60) ++ codesOf [':'] ++ twoDigits (m % 60)
  | none => codesOf ['-','-',':','-','-']

/-- A distance in units of 10 m as kilometres to one decimal (R81). -/
def distanceCodes (d : Nat) : List CharCode :=
  decimalCodes 10 (d / 100) ++ codesOf ['.'] ++ [digitCode (d / 10)]

/-- A distance line: name, distance ending in column 17, "km" (R81). -/
def distanceLine (name : List Char) (d : Nat) : List CharCode :=
  writeAt 19 (codesOf ['k','m'])
    (writeAt (18 - (distanceCodes d).length) (distanceCodes d) (writeAt 1 (codesOf name) blankLine))

/-- The two lines of the DRIVER-n page (R80). -/
def driverLines (digit : Char) (r : DriverRecord) : List CharCode × List CharCode :=
  let f := displayed r
  let mark : List Char :=
    match r.snapshot with
    | some p => if r.state = .current ∧ p.card = .fault then ['!'] else [' ']
    | Option.none => [' ']
  ( writeAt 16 (figureCodes f.toBreak) (writeAt 13 (codesOf ['R','B'])
      (writeAt 7 (figureCodes f.continuous) (writeAt 4 (codesOf ['C','D'])
        (writeAt 3 (codesOf mark) (writeAt 1 (codesOf ['D', digit]) blankLine))))),
    writeAt 16 (figureCodes f.toDaily) (writeAt 13 (codesOf ['R','D'])
      (writeAt 7 (figureCodes f.daily) (writeAt 4 (codesOf ['D','D']) blankLine))) )

/-- The time of day as hh:mm:ss, dashes while UNSET (R81, R111). -/
def timeCodes (c : Clock) : List CharCode :=
  if c.state = .unset then codesOf ['-','-',':','-','-',':','-','-']
  else
    let t := timeOfDay c
    twoDigits (t / 3600) ++ codesOf [':'] ++ twoDigits (t % 3600 / 60) ++ codesOf [':']
      ++ twoDigits (t % 60)

/-- The two lines of a page (R80, R81). -/
def pageLines (s : State) : Page → List CharCode × List CharCode
  | .driver1 => driverLines '1' s.driver.records[0]
  | .driver2 => driverLines '2' s.driver.records[1]
  | .distance =>
    (distanceLine ['O','D','O'] s.distance.total, distanceLine ['T','R','I','P',' ','A'] s.distance.tripA)
  | .tripB => (distanceLine ['T','R','I','P',' ','B'] s.distance.tripB, blankLine)
  | .clock =>
    ( writeAt 20 (codesOf [if s.driver.clock.state = .holdover then '?' else ' '])
        (writeAt 11 (timeCodes s.driver.clock) (writeAt 1 (codesOf ['T','I','M','E']) blankLine)),
      blankLine )

/-- The number of QUEUED entries. -/
def queuedCount (q : List PopupEntry) : Nat := (q.filter (fun e => e.state == .queued)).length

/-- The two lines of the pop-up screen (R85). -/
def popupLines (s : State) (e : PopupEntry) : List CharCode × List CharCode :=
  let queued := queuedCount s.readout.queue
  ( padTwenty (popupText s e.message),
    writeAt 19 (if queued = 0 then codesOf [' ', ' '] else codesOf ['+'] ++ [digitCode queued])
      (writeAt 1
        (if 1000 ≤ e.timeShown then codesOf ['P','R','E','S','S',' ','A','C','K'] else []) blankLine) )

/-- The test display of the override (R76). -/
def testLines : List CharCode × List CharCode :=
  (writeAt 9 (codesOf ['T','E','S','T']) blankLine, blankLine)

/-- The activity icon of a driver (R77). -/
def activityIcon (r : DriverRecord) : Option Activity :=
  match r.snapshot with
  | some p => if r.state = .current ∧ p.activity ≠ .unknown then some p.activity else Option.none
  | Option.none => Option.none

/-- The card icon of a driver (R77). -/
def cardIcon (r : DriverRecord) : Bool := decide (r.state = .current) && cardInserted r

/-- The icons (R77). -/
def composeIcons (s : State) : Icons :=
  { activity1 := activityIcon s.driver.records[0]
    activity2 := activityIcon s.driver.records[1]
    card1 := cardIcon s.driver.records[0]
    card2 := cardIcon s.driver.records[1]
    clock := decide (s.driver.clock.state ≠ .unset) }

/-- The lines shown: pop-up, else test display, else page (R76). -/
def composeLines (s : State) : List CharCode × List CharCode :=
  match showingPopup s.readout.queue with
  | some e => popupLines s e
  | none => if s.service.override.inForce then testLines else pageLines s s.readout.page

/-- The composed contents (R76). -/
def composeScreen (s : State) : Screen :=
  if readoutLit s then
    { line1 := (composeLines s).1.map glyphOf, line2 := (composeLines s).2.map glyphOf,
      icons := composeIcons s, lit := true }
  else Screen.dark

/-- Composes anew; a change starts a write, or is merged behind the write in flight (R76). -/
def refreshScreen (s : State) : State :=
  let c := composeScreen s
  if c = s.readout.composed then s
  else
    s.setReadout
      (if s.readout.writing.isSome then { s.readout with composed := c, again := true }
       else { s.readout with composed := c, writing := some c })

/-- The first write, at the end of LOADING, carries a dark screen (R76). -/
def firstWrite (s : State) : State :=
  s.setReadout { s.readout with writing := some Screen.dark, again := false }

/-- The write in flight completes; one further write follows a merged change (R76). -/
def screenWritten (s : State) : State :=
  match s.readout.writing with
  | none => s
  | some w =>
    if s.readout.again then
      s.setReadout { s.readout with moduleScreen := some w, writing := some s.readout.composed, again := false }
    else s.setReadout { s.readout with moduleScreen := some w, writing := none }

end Sys2Proof.Machine
end

