-- ==== Sys2Proof/Machine/Store.lean ====
section
/-! DEFINITION. The Record Store (7.4 to 7.6) and what it takes from and gives to the Distance Unit,
the wall clock and the Condition Monitor. The serial memory stands outside the part: what is sent to it
is held in the write in flight, and what it answers comes as a command's operand. -/

namespace Sys2Proof.Machine

open Sys2Proof

/-! ## Choosing the target, forming the record -/

/-- The store slots in the order R120 looks at them: after the newest slot, the newest itself excluded;
from slot 0 upward when there is none. -/
def slotsAfter (newest : Option (Fin 20)) : List (Fin 20) :=
  match newest with
  | some n => (List.range 19).map (fun j => ⟨(n.val + 1 + j) % 20, Nat.mod_lt _ (by decide)⟩)
  | none => List.finRange 20

/-- The target of a write that starts now (R120). -/
def writeTarget (st : Store) : Option (Fin 20) :=
  (slotsAfter st.newest).find? (fun i => slotLive st.retired i.val)

/-- The health block is present in a record (R119). -/
def blockPresent (reference : Option HealthReference) (worst : Vector Nat 10) (target : Fin 20) : Bool :=
  match reference with
  | none => true
  | some h => h.slot.isNone || decide (worst ≠ h.worst) || decide (h.slot = some target)

/-- The clock stamp of a record formed now (R118). -/
def clockStamp (s : State) : Option Nat :=
  if s.driver.clock.state = .unset then none else some s.driver.clock.seconds

/-- The record formed at the start of a write to `target` (R118). -/
def formRecord (s : State) (target : Fin 20) : StoredRecord :=
  { sequence := s.store.newestSequence + 1
    total := s.distance.total
    tripA := s.distance.tripA
    tripB := s.distance.tripB
    retired := s.store.retired
    stamp := clockStamp s
    health :=
      if blockPresent s.store.health (worstValues s) target then some (worstValues s) else none }

/-- The first attempt to write a record, under an attempt number; its 20 ms run from now (R121). -/
def firstAttempt (now number : Nat) (r : StoredRecord) (target : Fin 20) (worst : Vector Nat 10) : Write :=
  { record := r, sent := encodeRecord r, target := target, second := false, phase := .programming,
    due := now + attemptMs, number := number, worst := worst }

/-- The second attempt of a write (R122). -/
def Write.repeated (now number : Nat) (w : Write) : Write :=
  { w with second := true, phase := .programming, due := now + attemptMs, number := number }

/-- The number of the attempt that begins next (notes/assumptions/23.md). -/
def nextAttempt (s : State) : Nat := s.store.attempts + 1

/-- An attempt begins. -/
def beginAttempt (w : Write) (s : State) : State :=
  s.setStore { s.store with write := some w, attempts := w.number }

/-! ## Store state and requests -/

/-- The store state becomes `st` after LOADING: a change into DEGRADED or FAILED posts pop-up 61, and
one into FAILED sets the error indication (R124, R165). -/
def changeStoreState (st : StoreState) (s : State) : State :=
  if st = s.store.state then s
  else
    let s1 := s.setStore { s.store with state := st }
    let s2 := if st = .failed then setErrorIndication s1 else s1
    if st = .good then s2 else postPopup 61 .caution false s2

/-- A write starts (R118). With the newest sequence at its top the store becomes FAILED instead. -/
def startWrite (s : State) : State :=
  if 4294967295 ≤ s.store.newestSequence then changeStoreState .failed s
  else
    match writeTarget s.store with
    | some t =>
      beginAttempt (firstAttempt s.now (nextAttempt s) (formRecord s t) t (worstValues s))
        (s.setDistance { s.distance with reference := s.distance.total })
    | none => s

/-- A write request (R123). -/
def requestWrite (s : State) : State :=
  if s.store.state = .failed then s
  else if s.store.write.isSome then s.setStore { s.store with requestPending := true }
  else startWrite s

/-- A write has ended, verified or abandoned: a pending request starts one further write (R123). -/
def endWrite (s : State) : State :=
  let s1 := s.setStore { s.store with write := none, requestPending := false }
  if s.store.requestPending ∧ s.store.state ≠ .failed then startWrite s1 else s1

/-! ## The write transaction -/

/-- The status reports programming of an attempt complete: the read-back is asked for; a report on an attempt
that has ended is disregarded (R121). -/
def programmingDone (attempt : Nat) (s : State) : State :=
  match s.store.write with
  | some w =>
    if w.phase = .programming ∧ w.number = attempt then
      s.setStore { s.store with
        write := some { w with phase := .verifying, due := s.now + memoryAnswerMs } }
    else s
  | none => s

/-- The health reference after a record is verified in a slot (R119). -/
def verifiedReference (old : Option HealthReference) (r : StoredRecord) (target : Fin 20) :
    Option HealthReference :=
  match r.health with
  | some h => some { worst := h, slot := some target }
  | none => old

/-- The write is verified (R121). -/
def verifyWrite (w : Write) (s : State) : State :=
  endWrite (s.setStore { s.store with
    newest := some w.target
    newestSequence := w.record.sequence
    health := verifiedReference s.store.health w.record w.target })

/-- The slot map with one slot RETIRED (R122). -/
def retireIn (retired : BitVec 20) (slot : Fin 20) : BitVec 20 := retired ||| BitVec.twoPow 20 slot.val

/-- The health reference after a slot is retired (R122). -/
def retiredReference (old : Option HealthReference) (slot : Fin 20) : Option HealthReference :=
  old.map (fun h => if h.slot = some slot then { h with slot := none } else h)

/-- The record of a rewrite (R122): the new slot map, and its health block decided anew. -/
def rewriteRecord (st : Store) (w : Write) (target : Fin 20) : StoredRecord :=
  { w.record with
    retired := st.retired
    health := if blockPresent st.health w.worst target then some w.worst else none }

/-- The record in flight is rewritten after a retirement (R122). -/
def rewrite (w : Write) (s : State) : State :=
  match writeTarget s.store with
  | some t =>
    beginAttempt (firstAttempt s.now (nextAttempt s) (rewriteRecord s.store w t) t w.worst) s
  | none => endWrite s

/-- The second attempt has failed: the slot is retired (R122). -/
def retireSlot (w : Write) (s : State) : State :=
  let s1 := count 6 (s.setStore { s.store with
    retired := retireIn s.store.retired w.target
    health := retiredReference s.store.health w.target })
  let s2 := changeStoreState (storeStateOf s1.store.retired) s1
  if s2.store.state = .failed then endWrite s2 else rewrite w s2

/-- An attempt has failed (R122). -/
def failAttempt (w : Write) (s : State) : State :=
  if w.second then retireSlot w s else beginAttempt (w.repeated s.now (nextAttempt s)) s

/-- The read-back of an attempt has given the bytes of the target slot; that of an attempt that has ended is
disregarded (R121). -/
def readBack (attempt : Nat) (bytes : List Byte) (s : State) : State :=
  match s.store.write with
  | some w =>
    if w.phase = .verifying ∧ w.number = attempt then
      if bytes = w.sent then verifyWrite w s else failAttempt w s
    else s
  | none => s

/-- The 20 ms of the phase of an attempt have passed (R121). -/
def attemptTimedOut (s : State) : State :=
  match s.store.write with
  | some w => failAttempt w s
  | none => s

/-- The moment the phase of the attempt in flight times out. -/
def attemptDue (s : State) : Option Nat := s.store.write.map (fun w => w.due)

/-! ## The restore -/

/-- A record's mask marks a slot retired. -/
def marksRetired (r : StoredRecord) (slot : Fin 20) : Bool := r.retired.getLsbD slot.val

/-- Of two valid records, `best` in the lower slot, the one the restore selects (R125). Of two with one sequence
whose masks mark neither slot, or each the other's, it is the one in the lower slot (DESIGN CHOICE,
notes/assumptions/15.md). -/
def betterRecord (best r : Fin 20 × StoredRecord) : Fin 20 × StoredRecord :=
  if best.2.sequence < r.2.sequence then r
  else if best.2.sequence = r.2.sequence ∧ marksRetired r.2 best.1 = true
      ∧ marksRetired best.2 r.1 = false then r
  else best

/-- The selected record (R125). -/
def selectRecord : List (Fin 20 × StoredRecord) → Option (Fin 20 × StoredRecord)
  | [] => none
  | x :: xs => some (xs.foldl betterRecord x)

/-- The newer of a reference found so far and a record with a health block. -/
def newerReference (best : Option (Nat × HealthReference)) (slot : Fin 20) (r : StoredRecord) :
    Option (Nat × HealthReference) :=
  match r.health with
  | none => best
  | some h =>
    match best with
    | some (n, old) =>
      if n < r.sequence then some (r.sequence, { worst := h, slot := some slot }) else some (n, old)
    | none => some (r.sequence, { worst := h, slot := some slot })

/-- The newest health block among the valid records that are not disregarded (R126). -/
def restoredReference (retired : BitVec 20) (found : List (Fin 20 × StoredRecord)) :
    Option HealthReference :=
  ((found.filter (fun x => slotLive retired x.1.val)).foldl
    (fun best x => newerReference best x.1 x.2) none).map (fun p => p.2)

/-- The worst values a health reference restores (R126). -/
def restoredWorst (reference : Option HealthReference) : Vector Nat 10 :=
  match reference with
  | some h => h.worst
  | none => Vector.replicate 10 100

/-- The restore sets the store, the distances and the worst values (R126). `readable` is false when the
memory did not answer. -/
def restore (readable : Bool) (s : State) : State :=
  match selectRecord (if readable then s.store.found else []) with
  | some (slot, r) =>
    let reference := restoredReference r.retired s.store.found
    ((s.setStore { s.store with
        retired := r.retired, newest := some slot, newestSequence := r.sequence, health := reference,
        state := storeStateOf r.retired, write := none, requestPending := false, restoreNext := 20,
        found := [] }).setDistance
      { s.distance with
        total := r.total, tripA := r.tripA, tripB := r.tripB, accumulator := 0,
        reference := r.total }).setMonitor (restoredMonitor (restoredWorst reference))
  | none =>
    ((s.setStore { s.store with
        retired := 0, newest := none, newestSequence := 0, health := none,
        state := if readable then .good else .failed, write := none, requestPending := false,
        restoreNext := 20, found := [] }).setDistance
      { s.distance with total := 0, tripA := 0, tripB := 0, accumulator := 0, reference := 0 }).setMonitor
        (restoredMonitor (Vector.replicate 10 100))

/-- The slot just read joins the valid records found (R125). -/
def foundWith (next : Nat) (bytes : List Byte) (found : List (Fin 20 × StoredRecord)) :
    List (Fin 20 × StoredRecord) :=
  if h : next < 20 then
    match validRecord bytes with
    | some r => found ++ [(⟨next, h⟩, r)]
    | none => found
  else found

end Sys2Proof.Machine
end

