-- ==== Sys2Proof/Machine/Distance.lean ====
section
/-! DEFINITION. The Distance Unit (7.1 to 7.3). -/

namespace Sys2Proof.Machine

open Sys2Proof

/-- The road speed slot (R3). -/
def roadSlot (s : State) : Slot := s.slots[s.tables.roadSlot]

/-- A trip advanced by a number of units; trips wrap (R114). -/
def advanceTrip (trip units : Nat) : Nat := (trip + units) % (tripMax + 1)

/-- Units counted into the total, which saturates, and into both trips (R113, R114). -/
def countUnits (units : Nat) (d : Distance) : Distance :=
  { d with
    total := min totalMax (d.total + units)
    tripA := advanceTrip d.tripA units
    tripB := advanceTrip d.tripB units }

/-- The store trigger (R117). -/
def storeTrigger (s : State) : State :=
  if s.distance.reference + 100 ≤ s.distance.total then requestWrite s else s

/-- The Distance Unit's items become `d`, which the Readout Unit is told first; a change of the total then
applies the store trigger (R112, R113, R117). -/
def putDistance (d : Distance) (s : State) : State :=
  let s1 := refreshScreen (s.setDistance d)
  if d.total = s.distance.total then s1 else storeTrigger s1

/-- The speed a sample counts with (R113). -/
def sampleSpeed (e : Int) : Nat := min 25000 e.toNat

/-- The distances after a sample of a FRESH road speed slot (R113). -/
def integrate (e : Int) (d : Distance) : Distance :=
  let sum := d.accumulator + sampleSpeed e
  countUnits (sum / unitSize) { d with accumulator := sum % unitSize }

/-- A speed sample of the Distance Unit due at `due` (R113). -/
def distanceSampleAt (due : Nat) (s : State) : State :=
  let s1 := s.setDistance { s.distance with sampleDue := some (due + distanceSampleMs) }
  if (roadSlot s).quality = .fresh then putDistance (integrate (roadSlot s).value s1.distance) s1 else s1

/-- The recorder's distance against the live total (R115). Where the total jumps by more than 5000 units the
mismatch is counted before the store trigger acts: the rule gives no order (DESIGN CHOICE,
notes/assumptions/44.md). -/
def reconcile (r : Nat) (s : State) : State :=
  let d := s.distance
  if d.total < r then
    if r - d.total ≤ 5000 then
      putDistance { d with
        total := r
        tripA := advanceTrip d.tripA (r - d.total)
        tripB := advanceTrip d.tripB (r - d.total) } s
    else putDistance { d with total := r } (count 7 s)
  else if d.total ≤ r + 100 then s
  else count 7 s

/-- A frame passed to RECORDER-DISTANCE (R115). -/
def recorderDistance (payload : List Byte) (s : State) : State :=
  if payload.length < 4 then count 4 s else reconcile (leNat (payload.take 4) / 10) s

/-- A reset of trip A (R116). -/
def resetTripA (s : State) : State := s.setDistance { s.distance with tripA := 0 }

/-- A reset of trip B (R116). -/
def resetTripB (s : State) : State := s.setDistance { s.distance with tripB := 0 }

end Sys2Proof.Machine
end

