-- ==== Sys2Proof/Machine/DriverTime.lean ====
section
/-! DEFINITION. The Driver Time Unit (Chapter 6): driver records and warnings, the notice mailbox and the
wall clock. -/

namespace Sys2Proof.Machine

open Sys2Proof

/-! ## Driver records -/

/-- A driver's record. -/
def driverRecord (s : State) (d : Fin 2) : DriverRecord := s.driver.records[d]

/-- A driver's record becomes `r`. -/
def putRecord (d : Fin 2) (r : DriverRecord) (s : State) : State :=
  s.setDriver { s.driver with records := s.driver.records.set d r }

/-- Reports a change of one warning to the Telltale Unit (R101). -/
def tellWarning (d : Fin 2) (k : WarningKind) (old new : Bool) (s : State) : State :=
  if old = new then s else tellSource (.driverTime d k) new s

/-- A driver's warnings become `w`; each change is reported (R101), in the order BREAK-SOON, BREAK-OVERDUE,
DAILY-SOON, RECORDER-LOST (DESIGN CHOICE, notes/assumptions/40.md). -/
def putWarnings (d : Fin 2) (w : Warnings) (s : State) : State :=
  let old := (driverRecord s d).warnings
  tellWarning d .recorderLost old.recorderLost w.recorderLost
    (tellWarning d .dailySoon old.dailySoon w.dailySoon
      (tellWarning d .breakOverdue old.breakOverdue w.breakOverdue
        (tellWarning d .breakSoon old.breakSoon w.breakSoon
          (putRecord d { driverRecord s d with warnings := w } s))))

/-- The first three warnings of a driver are formed anew (R101). -/
def reformTimeWarnings (d : Fin 2) (s : State) : State :=
  putWarnings d (timeWarnings s.tables.warningLead (driverRecord s d)) s

/-- RECORDER-LOST of a driver is formed anew (R102). -/
def reformLost (d : Fin 2) (s : State) : State :=
  putWarnings d
    { (driverRecord s d).warnings with recorderLost := lostWarning s.driver.moving (driverRecord s d) } s

/-- All four warnings of a driver are formed anew, at a snapshot and at the stale expiry. -/
def reformWarnings (d : Fin 2) (s : State) : State := reformLost d (reformTimeWarnings d s)

/-- The acceptance test of a decoded bulletin (R96). -/
def acceptsSnapshot (r : DriverRecord) (sequence : Nat) : Bool :=
  match r.state, r.snapshot with
  | .current, some p =>
    decide (1 ≤ (sequence + 256 - p.sequence) % 256) && decide ((sequence + 256 - p.sequence) % 256 ≤ 127)
  | _, _ => true

/-- An accepted snapshot in the record (R97). -/
def DriverRecord.accept (p : Snapshot) (r : DriverRecord) : DriverRecord :=
  { r with state := .current, snapshot := some p, elapsed := 0 }

/-- A frame passed to DRIVER-STATUS-1 or DRIVER-STATUS-2 (R95 to R97): the Readout Unit takes an accepted
snapshot before the warnings are reported. -/
def driverStatus (d : Fin 2) (payload : List Byte) (s : State) : State :=
  if payload.length < 8 then count 4 s
  else
    let p := decodeDriverStatus payload s.now
    if acceptsSnapshot (driverRecord s d) p.sequence then
      reformWarnings d (refreshScreen (putRecord d ((driverRecord s d).accept p) s))
    else s

/-- The moment the stale timer of a driver record is due (R98). -/
def driverStaleDue (s : State) (d : Fin 2) : Option Nat :=
  match (driverRecord s d).state with
  | .current => (driverRecord s d).snapshot.map (fun p => p.arrival + driverStaleMs)
  | .none => none
  | .stale => none

/-- The stale expiry of a driver record (R98): the Readout Unit is told, then the warnings are re-formed. -/
def staleDriver (d : Fin 2) (s : State) : State :=
  reformWarnings d (refreshScreen (putRecord d { driverRecord s d with state := .stale } s))

/-- The moment of the next second mark of a driver record (R99). The 90 s stale time ends the marks at
e = 89. -/
def secondMarkDue (s : State) (d : Fin 2) : Option Nat :=
  if (driverRecord s d).elapsed < 89 then
    match (driverRecord s d).state with
    | .current => (driverRecord s d).snapshot.map (fun p => p.arrival + 1000 * ((driverRecord s d).elapsed + 1))
    | .none => none
    | .stale => none
  else none

/-- The latest snapshot's activity is DRIVE. -/
def isDriving (r : DriverRecord) : Bool :=
  match r.snapshot with
  | some p => decide (p.activity = .drive)
  | none => false

/-- A second mark of a driver record (R99): the Readout Unit is told, then the Telltale Unit. -/
def takeSecondMark (d : Fin 2) (s : State) : State :=
  let s1 := putRecord d { driverRecord s d with elapsed := (driverRecord s d).elapsed + 1 } s
  if isDriving (driverRecord s d) then reformTimeWarnings d (refreshScreen s1) else s1

/-- A speed sample of the Driver Time Unit due at `due` (R102). RECORDER-LOST of driver 1 is formed before that
of driver 2 (DESIGN CHOICE, notes/assumptions/40.md). -/
def driverSampleAt (due : Nat) (s : State) : State :=
  let slot := roadSlot s
  reformLost 1 (reformLost 0 (s.setDriver { s.driver with
    sampleDue := some (due + speedSampleMs)
    moving := decide (slot.quality = .fresh) && decide (500 < slot.value) }))

/-! ## The notice mailbox -/

/-- The parts of indexes 0 to `last` are stored (R105). -/
def partsStored (parts : List NoticePart) (last : Nat) : Bool :=
  (List.range (last + 1)).all (fun i => parts.any (fun p => p.index == i))

/-- The characters of the parts of indexes 0 to `last`, in index order. -/
def partsText (parts : List NoticePart) (last : Nat) : List CharCode :=
  (List.range (last + 1)).flatMap (fun i => (parts.filter (fun p => p.index == i)).flatMap (fun p => p.codes))

/-- The text of a notice: it ends before the first code 0 and is cut to 20 characters (R105). -/
def noticeText (codes : List CharCode) : List CharCode :=
  (codes.takeWhile (fun c => c != 0)).take 20

/-- The completion test on an assembly (R105). -/
def settleAssembly (a : Assembly) (s : State) : State :=
  match a.last with
  | some (l, cls) =>
    if partsStored a.parts l then
      postPopup noticeMessage cls false
        (s.setDriver { s.driver with mailbox := .full a.id cls (noticeText (partsText a.parts l)) })
    else s.setDriver { s.driver with mailbox := .assembling a }
  | none => s.setDriver { s.driver with mailbox := .assembling a }

/-- The assembly a part starts (R104). -/
def startAssembly (f : NoticeFields) (arrival : Nat) : Assembly :=
  { id := f.id, parts := [{ index := f.index, codes := f.codes }],
    last := if f.last then some (f.index, f.cls) else none, time := arrival }

/-- A part of the assembly's id, taken within 500 ms, is ignored (R104). -/
def partIgnored (a : Assembly) (f : NoticeFields) : Bool :=
  a.parts.any (fun p => p.index == f.index)
    || (match a.last with
        | some (l, _) => decide (l < f.index) || (f.last && f.index != l)
        | none => false)

/-- The assembly a part joins (R104). -/
def joinAssembly (a : Assembly) (f : NoticeFields) (arrival : Nat) : Assembly :=
  let parts := a.parts ++ [{ index := f.index, codes := f.codes }]
  if f.last = true ∧ a.last.isNone = true then
    { a with parts := parts.filter (fun p => decide (p.index ≤ f.index)),
             last := some (f.index, f.cls), time := arrival }
  else { a with parts := parts, time := arrival }

/-- A decoded part at the mailbox (R104, R106). -/
def takePart (f : NoticeFields) (s : State) : State :=
  match s.driver.mailbox with
  | .empty => settleAssembly (startAssembly f s.now) s
  | .assembling a =>
    if a.time + noticeGapMs ≤ s.now then settleAssembly (startAssembly f s.now) s
    else if a.id ≠ f.id ∨ partIgnored a f = true then s
    else settleAssembly (joinAssembly a f s.now) s
  | .full _ _ _ => s

/-- A frame passed to RECORDER-NOTICE (R103). -/
def recorderNotice (payload : List Byte) (s : State) : State :=
  if payload.length < 8 then count 4 s
  else if (decodeNotice payload).id = 0 then s
  else takePart (decodeNotice payload) s

/-! ## The wall clock -/

/-- A time in ms. -/
def clockMs (seconds ms : Nat) : Int := (seconds : Int) * 1000 + ms

/-- The error of an accepted mark (R108). -/
def markError (f : TimeFields) (c : Clock) : Int := clockMs f.seconds f.ms - clockMs c.seconds c.ms

/-- The clock takes a mark's time and becomes LOCKED. -/
def Clock.setTo (f : TimeFields) (c : Clock) : Clock :=
  { c with state := .locked, seconds := f.seconds, ms := f.ms, offset := f.offset, slew := none,
           slewDue := none, reported := some f.seconds }

/-- The clock follows a mark with an error of at most 2000 ms (R108). -/
def Clock.follow (now : Nat) (f : TimeFields) (error : Int) (c : Clock) : Clock :=
  if error = 0 then { c with state := .locked, offset := f.offset, slew := none, slewDue := none }
  else
    { c with state := .slewing, offset := f.offset, slew := some error, slewDue := some (now + slewMs) }

/-- The clock becomes `c`. -/
def putClock (c : Clock) (s : State) : State := s.setDriver { s.driver with clock := c }

/-- An accepted mark (R108); the Readout Unit composes at each change of the clock (R77, R111). -/
def acceptMark (f : TimeFields) (s : State) : State :=
  let c := { s.driver.clock with holdoverDue := some (s.now + holdoverMs) }
  if c.state = .unset then refreshScreen (putClock (c.setTo f) s)
  else if (markError f c).natAbs ≤ 2000 then
    refreshScreen (putClock (c.follow s.now f (markError f c)) s)
  else count 8 (refreshScreen (putClock (c.setTo f) s))

/-- A TIME MARK frame at the Driver Time Unit (R107). -/
def takeMark (sender : Nat) (payload : List Byte) (s : State) : State :=
  let f := decodeTimeMark payload
  if s.tables.timeSource ≠ some sender then s
  else if payload.length < 7 then count 4 s
  else if 999 < f.ms ∨ f.offset < -48 ∨ 56 < f.offset then s
  else acceptMark f s

/-- A slew step with a slew remaining after it; at 0 the clock is LOCKED (R109). -/
def Clock.slewTo (due : Nat) (left : Int) (c : Clock) : Clock :=
  if left = 0 then { c with state := .locked, slew := none, slewDue := none }
  else { c with slew := some left, slewDue := some (due + slewMs) }

/-- The clock after a slew step due at `due` (R109). A positive step gains 1 ms; the ms that a negative one gives up
is already missing from the advance up to its moment (`Clock.givenUp`). -/
def Clock.slewed (due : Nat) (c : Clock) : Clock :=
  match c.slew with
  | some r =>
    if 0 < r then Clock.slewTo due (r - 1) (c.addMs 1)
    else if r < 0 then c.slewTo due (r + 1)
    else c.slewTo due 0
  | none => { c with slewDue := none }

/-- The holdover expiry at the clock (R110). -/
def Clock.holdOver (c : Clock) : Clock :=
  let c1 := { c with holdoverDue := none }
  match c.state with
  | .locked => { c1 with state := .holdover, slew := none, slewDue := none }
  | .slewing => { c1 with state := .holdover, slew := none, slewDue := none }
  | .unset => c1
  | .holdover => c1

/-- The wall clock passes a whole second (R111): the one it has passed and not yet reported, or else the
next. -/
def passSecond (s : State) : State :=
  if s.driver.clock.state = .unset then s
  else
    let s1 :=
      if s.driver.clock.reported = some s.driver.clock.seconds then
        advance (s.driver.clock.timeFor s.now (1000 - s.driver.clock.ms)) s
      else s
    putClock { s1.driver.clock with reported := some s1.driver.clock.seconds } s1

end Sys2Proof.Machine
end

