-- ==== Sys2Proof/Machine/Roster.lean ====
section
/-! DEFINITION. The Roster Unit (Chapter 8). -/

namespace Sys2Proof.Machine

open Sys2Proof

/-! ## Entries -/

/-- The STATION condition of an entry state (R137). -/
def stationCondition : EntryState → Bool
  | .absent => true
  | .lost => true
  | .unknown => false
  | .present => false
  | .silent => false
  | .released => false

/-- The reports of the entries whose state changed, in entry order from index `i` (R137). -/
def tellEntries : Nat → List RosterEntry → List RosterEntry → State → State
  | _, [], _, s => s
  | _, _ :: _, [], s => s
  | i, e :: es, e' :: es', s =>
    tellEntries (i + 1) es es'
      (if e.state = e'.state then s else tellSource (.station i) (stationCondition e'.state) s)

/-- The entries become `new`; each change of state is reported (R137). -/
def putEntries (new : List RosterEntry) (s : State) : State :=
  tellEntries 0 s.roster.entries new (s.setRoster { s.roster with entries := new })

/-- The entry of an index changes. -/
def changeEntry (i : Nat) (f : RosterEntry → RosterEntry) (s : State) : State :=
  putEntries (s.roster.entries.modify i f) s

/-- An entry that has heard its station (R129). -/
def RosterEntry.heard (now : Nat) (e : RosterEntry) : RosterEntry :=
  { e with state := .present, acknowledged := false, lastHeard := some now, quietStart := some now }

/-- Earliest time of the unlisted records. -/
def earliestTime : List UnlistedRecord → Nat → Nat
  | [], t => t
  | u :: us, t => earliestTime us (min u.time t)

/-- The list with its first record of a time replaced. -/
def replaceFirst (time : Nat) (r : UnlistedRecord) : List UnlistedRecord → List UnlistedRecord
  | [] => []
  | u :: us => if u.time = time then r :: us else u :: replaceFirst time r us

/-- A good frame from a station that no entry names (R138). -/
def hearUnlisted (now station : Nat) (us : List UnlistedRecord) : List UnlistedRecord :=
  if us.any (fun u => u.station == station) then
    us.map (fun u => if u.station = station then { u with time := now } else u)
  else if us.length < 8 then us ++ [{ station := station, time := now }]
  else
    match us with
    | [] => []
    | u :: rest =>
      replaceFirst (earliestTime rest u.time) { station := station, time := now } (u :: rest)

/-- A good frame from a station is heard (R129, R138). -/
def hearStation (station : Nat) (s : State) : State :=
  if s.roster.entries.any (fun e => e.record.station == station) then
    putEntries (s.roster.entries.map (fun e => if e.record.station = station then e.heard s.now else e)) s
  else s.setRoster { s.roster with unlisted := hearUnlisted s.now station s.roster.unlisted }

/-- The moment the quiet timer of an entry reaches a number of silence limits (R130). -/
def quietDue (limits : Nat) (s : State) (i : Nat) : Option Nat :=
  (s.roster.entries[i]?).bind
    (fun e => e.quietStart.map (fun t => t + limits * e.record.silenceLimit))

/-- The silence mark (R130). -/
def RosterEntry.silenceMark (e : RosterEntry) : RosterEntry :=
  if e.state = .present then { e with state := .silent } else e

/-- The loss mark (R130); the timer stops after it. -/
def RosterEntry.lossMark (e : RosterEntry) : RosterEntry :=
  if e.state = .silent ∧ e.record.required = true ∧ e.uncoupled = false then
    { e with state := .lost, acknowledged := false, quietStart := none }
  else { e with quietStart := none }

/-! ## Census -/

/-- An entry at START entry (R131). -/
def RosterEntry.restart (e : RosterEntry) : RosterEntry :=
  { e with
    state := if e.uncoupled then .released else .unknown
    acknowledged := false
    quietStart := none }

/-- START entry at the Roster Unit (R131, R136). -/
def startRoster (s : State) : State :=
  let s1 := putEntries (s.roster.entries.map RosterEntry.restart) s
  let s2 := s1.setRoster { s1.roster with
    censusComplete := false, censusDue := some (s1.now + censusMs) }
  let s3 := if s2.control.fallback then s2 else placeFrame .presence (presencePayload true) s2
  match s3.roster.reply with
  | .delaying _ => s3.setRoster { s3.roster with reply := .none }
  | .none => s3
  | .queued => s3

/-- An entry at the close of the census window (R132). -/
def RosterEntry.closeCensus (e : RosterEntry) : RosterEntry :=
  if e.state = .unknown then
    (if e.record.required then { e with state := .absent }
     else { e with state := .silent, quietStart := none })
  else e

/-- The close of the census window (R132). -/
def closeCensus (s : State) : State :=
  putEntries (s.roster.entries.map RosterEntry.closeCensus)
    (s.setRoster { s.roster with censusComplete := true, censusDue := none })

/-! ## Coupling, acknowledgement, presence replies -/

/-- A notification of the coupling slot at an entry (R133, R134). -/
def RosterEntry.couple (now : Nat) (uncoupled : Bool) (e : RosterEntry) : RosterEntry :=
  if uncoupled then
    (if e.state = .released then { e with uncoupled := true }
     else { e with uncoupled := true, state := .released, quietStart := none, acknowledged := false })
  else if e.state = .released then
    { e with uncoupled := false, state := .silent, quietStart := some now }
  else { e with uncoupled := false }

/-- A notification of a slot at one entry (R133). -/
def RosterEntry.notify (now : Nat) (slot : Fin 64) (e : Int) (q : Quality) (x : RosterEntry) :
    RosterEntry :=
  match x.record.coupling with
  | some c => if c.slot = slot then x.couple now (decide (q = .fresh) && !maskedSet e c.mask) else x
  | none => x

/-- A notification of a slot at the Roster Unit (R18, R133). -/
def rosterSlot (slot : Fin 64) (e : Int) (q : Quality) (s : State) : State :=
  putEntries (s.roster.entries.map (RosterEntry.notify s.now slot e q)) s

/-- An ACK event at an entry (R135). -/
def RosterEntry.ack (e : RosterEntry) : RosterEntry :=
  if e.state = .lost then { e with acknowledged := true } else e

/-- An ACK event at the Roster Unit (R135). -/
def ackRoster (s : State) : State :=
  s.setRoster { s.roster with entries := s.roster.entries.map RosterEntry.ack }

/-- The end of the reply delay (R136). -/
def endReplyDelay (s : State) : State :=
  placeFrame .presence (presencePayload false) (s.setRoster { s.roster with reply := .queued })

/-- The moment the reply delay ends. -/
def replyDue (s : State) : Option Nat :=
  match s.roster.reply with
  | .delaying d => some d
  | .none => none
  | .queued => none

/-- The starting flag of a PRESENCE payload; one too short to carry it reads clear (Table 9-3). -/
def startingFlag (payload : List Byte) : Bool := bitFlag payload 0

/-- A PRESENCE frame at the Roster Unit (R136). -/
def takePresence (payload : List Byte) (s : State) : State :=
  if s.control.fallback = false ∧ startingFlag payload = true ∧ s.roster.reply = .none then
    (if s.tables.ownStation = 0 then endReplyDelay s
     else s.setRoster { s.roster with reply := .delaying (s.now + 2 * s.tables.ownStation) })
  else s

/-! ## Reading -/

/-- A time since `t`, in units of 100 ms, saturating (R168). -/
def sinceHeard (now : Nat) : Option Nat → Nat
  | some t => min 65534 ((now - t) / 100)
  | none => 65535

/-- Inserts a record into a list with the most recent first; of equal times the later record of the list
stands first. -/
def insertRecent (u : UnlistedRecord) : List UnlistedRecord → List UnlistedRecord
  | [] => [u]
  | v :: vs => if v.time ≤ u.time then u :: v :: vs else v :: insertRecent u vs

/-- The unlisted list, most recent first (R139). -/
def byRecency (us : List UnlistedRecord) : List UnlistedRecord :=
  us.foldl (fun l u => insertRecent u l) []

/-- The data of a READ-ROSTER reply (R139, Table 12-5). -/
def rosterReading (s : State) (index : Nat) : Option (List Byte) :=
  if index < 24 then
    (s.roster.entries[index]?).map (fun e =>
      [BitVec.ofNat 8 e.record.station,
        BitVec.ofNat 8 (roleCode e.record.role + 16 * flagBit e.record.required
          + 32 * flagBit e.acknowledged),
        BitVec.ofNat 8 (entryCode e.state)] ++ leBytes 2 (sinceHeard s.now e.lastHeard))
  else
    ((byRecency s.roster.unlisted)[index - 24]?).map (fun u =>
      [BitVec.ofNat 8 u.station, 255, 255] ++ leBytes 2 (sinceHeard s.now (some u.time)))

/-- The live form of a roster entry of the image (R128). -/
def liveEntry (r : RosterRecord) : RosterEntry :=
  { record := r, state := .unknown, acknowledged := false, lastHeard := none, quietStart := none,
    uncoupled := false }

end Sys2Proof.Machine
end

