-- ==== Sys2Proof/Machine/Chime.lean ====
section
/-! DEFINITION. The Chime Unit (Chapter 4). -/

namespace Sys2Proof.Machine

open Sys2Proof

/-- Phases of a group's sound pattern; the sounder is on in even phases (R68). -/
def chimePhaseMs (g : Grade) (phase : Nat) : Nat :=
  match g with
  | .urgent => if phase = 5 then 650 else if phase % 2 = 0 then 150 else 100
  | .caution => if phase = 3 then 9400 else 200
  | .notice => 300

/-- The SOUNDING entry. -/
def soundingEntry (es : List ChimeEntry) : Option ChimeEntry :=
  es.find? (fun e => e.state == .sounding)

/-- The sounder output: on during the beeps of the SOUNDING entry (Chapter 4). -/
def sounderOn (c : Chime) : Bool :=
  (soundingEntry c.entries).isSome && c.phase % 2 == 0

/-- An entry that a selection can choose (R70). -/
def ChimeEntry.selectable (e : ChimeEntry) : Bool := e.state == .waiting || e.state == .preempted

/-- `a` is chosen ahead of `b`: higher group, then older (R70). -/
def ChimeEntry.ahead (a b : ChimeEntry) : Bool :=
  decide (b.group.rank < a.group.rank) || (decide (a.group = b.group) && decide (a.order < b.order))

/-- The entry a selection chooses (R70). -/
def chosenChime : List ChimeEntry → Option ChimeEntry
  | [] => none
  | e :: es =>
    if e.selectable then
      match chosenChime es with
      | some m => if m.ahead e then some m else some e
      | none => some e
    else chosenChime es

/-- The list with one entry in a new state. -/
def putChimeState (id : ChimeId) (st : ChimeState) (es : List ChimeEntry) : List ChimeEntry :=
  es.map (fun e => if e.id = id then { e with state := st } else e)

/-- The selection (R70): made when no entry is SOUNDING. -/
def selectChime (now : Nat) (c : Chime) : Chime :=
  if (soundingEntry c.entries).isSome then c
  else
    match chosenChime c.entries with
    | some e =>
      { c with entries := putChimeState e.id .sounding c.entries, phase := 0,
               phaseDue := some (now + chimePhaseMs e.group 0) }
    | none => { c with phase := 0, phaseDue := none }

/-- Preemption by an entry of group `g` (R71): a SOUNDING CAUTION entry of a lower group becomes
PREEMPTED, a SOUNDING NOTICE entry of a lower group is removed. -/
def preemptChime (g : Grade) (es : List ChimeEntry) : List ChimeEntry :=
  (es.filter (fun e => !(e.state == .sounding && e.group == .notice && decide (e.group.rank < g.rank)))).map
    (fun e => if e.state = .sounding ∧ e.group.rank < g.rank then { e with state := .preempted } else e)

/-- Preemption, then selection, after an admission or a re-arm of group `g` (R69). -/
def settleChime (now : Nat) (g : Grade) (c : Chime) : Chime :=
  selectChime now { c with entries := preemptChime g c.entries }

/-- The lowest height of a group in the list. -/
def lowestGroup : List ChimeEntry → Nat
  | [] => 2
  | e :: es => min e.group.rank (lowestGroup es)

/-- The greatest arrival order among the entries of a height. -/
def newestOfGroup (rank : Nat) : List ChimeEntry → Nat
  | [] => 0
  | e :: es => if e.group.rank = rank then max e.order (newestOfGroup rank es) else newestOfGroup rank es

/-- The list without the newest entry of a height (R74). -/
def dropNewestChime (rank : Nat) (es : List ChimeEntry) : List ChimeEntry :=
  es.filter (fun e => !(decide (e.group.rank = rank) && decide (e.order = newestOfGroup rank es)))

/-- A new entry. -/
def newChime (id : ChimeId) (g : Grade) (order : Nat) : ChimeEntry :=
  { id := id, group := g, state := .waiting, bursts := 0, order := order }

/-- Admits a new entry into the entries given, then preemption and selection (R69). -/
def admitChime (now : Nat) (id : ChimeId) (g : Grade) (es : List ChimeEntry) (c : Chime) : Chime :=
  settleChime now g { c with entries := es ++ [newChime id g (c.lastOrder + 1)], lastOrder := c.lastOrder + 1 }

/-- Re-arms the entry of an identity, then preemption and selection (R69). -/
def rearmChime (now : Nat) (id : ChimeId) (g : Grade) (c : Chime) : Chime :=
  settleChime now g
    { c with
      entries := c.entries.map (fun e => if e.id = id then newChime id g (c.lastOrder + 1) else e)
      lastOrder := c.lastOrder + 1 }

/-- A posting (R69, overflow R74). -/
def postChime (id : ChimeId) (g : Grade) (s : State) : State :=
  let c := s.chime
  if c.accepting = false then s
  else if c.entries.any (fun e => e.id == id) then s.setChime (rearmChime s.now id g c)
  else if c.entries.length < 16 then s.setChime (admitChime s.now id g c.entries c)
  else if g = .notice then count 9 s
  else if c.entries.any (fun e => e.group == .notice) then
    count 9 (s.setChime (admitChime s.now id g (dropNewestChime 0 c.entries) c))
  else if g.rank ≤ lowestGroup c.entries then count 9 s
  else
    count 9 (s.setChime (admitChime s.now id g (dropNewestChime (lowestGroup c.entries) c.entries) c))

/-- An identity is no longer active (R73). -/
def leaveChime (id : ChimeId) (s : State) : State :=
  if s.chime.entries.any (fun e => e.id == id) then
    s.setChime (selectChime s.now
      { s.chime with entries := s.chime.entries.filter (fun e => e.id != id) })
  else s

/-- An ACK event at the Chime Unit (R72). -/
def ackChime (s : State) : State :=
  s.setChime (selectChime s.now
    { s.chime with
      entries := (s.chime.entries.filter (fun e => e.group != .notice)).map
        (fun e => { e with state := .silenced }) })

/-- Empties the list (R75); `accepting` says whether postings are accepted from here on. -/
def clearChime (accepting : Bool) (s : State) : State :=
  s.setChime { entries := [], lastOrder := 0, accepting := accepting, phase := 0, phaseDue := none }

/-- The pattern of the SOUNDING entry goes on to a phase. -/
def chimePhaseTo (due : Nat) (g : Grade) (phase : Nat) (c : Chime) : Chime :=
  { c with phase := phase, phaseDue := some (due + chimePhaseMs g phase) }

/-- The end of the second beep of a burst of a CAUTION entry (R68). -/
def endBurst (now due : Nat) (e : ChimeEntry) (c : Chime) : Chime :=
  if e.bursts + 1 < 3 then
    chimePhaseTo due .caution 3
      { c with entries := c.entries.map (fun x => if x.id = e.id then { x with bursts := e.bursts + 1 } else x) }
  else
    selectChime now
      { c with
        entries := c.entries.map (fun x =>
          if x.id = e.id then { x with bursts := e.bursts + 1, state := .finished } else x) }

/-- The pattern timer of the SOUNDING entry marks the end of a phase, due at `due` (R68). -/
def chimeMark (due : Nat) (s : State) : State :=
  match soundingEntry s.chime.entries with
  | none => s.setChime { s.chime with phaseDue := none }
  | some e =>
    match e.group with
    | .urgent => s.setChime (chimePhaseTo due .urgent ((s.chime.phase + 1) % 6) s.chime)
    | .caution =>
      if s.chime.phase = 2 then s.setChime (endBurst s.now due e s.chime)
      else s.setChime (chimePhaseTo due .caution ((s.chime.phase + 1) % 4) s.chime)
    | .notice =>
      s.setChime (selectChime s.now
        { s.chime with entries := s.chime.entries.filter (fun x => x.id != e.id) })

end Sys2Proof.Machine
end

