-- ==== Sys2Proof/Machine/Gauge.lean ====
section
/-! DEFINITION. The Gauge Engine (Chapter 2): characteristic, damping and motion, the channel states,
and the warning bands. -/

namespace Sys2Proof.Machine

open Sys2Proof

/-! ## From engineering value to position -/

/-- The characteristic between breakpoints, `p` being the last one passed (R24). -/
def interpolateFrom (e : Int) (p : Breakpoint) : List Breakpoint → Nat
  | [] => p.position
  | q :: qs =>
    if e < q.value then
      ((p.position : Int)
        + ((e - p.value) * ((q.position : Int) - p.position)).tdiv (q.value - p.value)).toNat
    else interpolateFrom e q qs

/-- The target of an engineering value (R24). -/
def characteristic (points : List Breakpoint) (e : Int) : Nat :=
  match points with
  | [] => 0
  | p :: ps => if e ≤ p.value then p.position else interpolateFrom e p ps

/-- One period of damping (R25): F closes 2^-k of its distance to 256 × T, truncated toward zero. -/
def damp (shift target damped : Nat) : Nat :=
  ((damped : Int) + ((256 * (target : Int) - damped).tdiv (2 ^ shift))).toNat

/-- The goal of a damped position, exact halves rounded up (R25). -/
def goalOf (damped : Nat) : Nat := (damped + 128) / 256

/-- Stopping distance: s - a, s - 2a, … over the terms greater than 0, at most `n` of them (R27). -/
def stopDistance (a : Nat) : Nat → Nat → Nat
  | 0, _ => 0
  | n + 1, s => (s - a) + stopDistance a n (s - a)

/-- The pointer's motion: position, speed and direction. -/
structure Motion where
  position : Nat
  speed : Nat
  upward : Bool
  deriving DecidableEq, Repr

/-- A candidate speed can still be stopped within a distance (R27). -/
def speedFits (a dist s : Nat) : Bool := decide (s + stopDistance a s s ≤ dist)

/-- The speed of case 3 of R27 at a distance greater than 0. -/
def chooseSpeed (v a s dist : Nat) : Nat :=
  let s' :=
    if speedFits a dist (min (s + a) v) then min (s + a) v
    else if speedFits a dist s then s
    else s - a
  if s' = 0 then min dist (min a v) else s'

/-- A move of `n` microsteps, clamped to 0..full scale (R27). -/
def moveBy (fullScale position n : Nat) (upward : Bool) : Nat :=
  if upward then min fullScale (position + n) else min fullScale (position - n)

/-- The motion rule, one period toward a goal (R27). -/
def moveStep (fullScale v a goal : Nat) (m : Motion) : Motion :=
  if goal = m.position then
    { position := min fullScale m.position, speed := 0, upward := m.upward }
  else
    let want := decide (m.position < goal)
    let reversal := decide (0 < m.speed) && (want != m.upward)
    let dist := if want then goal - m.position else m.position - goal
    let dir := if reversal then m.upward else want
    let s' := if reversal then m.speed - a else chooseSpeed v a m.speed dist
    let c := moveBy fullScale m.position s' dir
    { position := c, speed := if c = goal then 0 else s', upward := dir }

/-! ## Channels -/

/-- The record of a gauge in force. -/
def gaugeRecord (s : State) (g : Fin 6) : GaugeRecord := s.tables.gauges[g]

/-- The channel of a gauge. -/
def channelOf (s : State) (g : Fin 6) : Channel := s.gauges.channels[g]

/-- The GAUGE-FAULT condition of a channel of a gauge (R40). -/
def channelFault (s : State) (g : Fin 6) (c : Channel) : Bool :=
  (gaugeRecord s g).enabled && faultCondition s.gauges.grace c.state c.rest

/-- The channel of a gauge becomes `c`; its GAUGE-FAULT condition is evaluated and a change reported
(R40). -/
def putChannel (g : Fin 6) (c : Channel) (s : State) : State :=
  let fault := channelFault s g c
  let s1 := s.setGauges { s.gauges with channels := s.gauges.channels.set g { c with fault := fault } }
  if fault = (channelOf s g).fault then s1 else tellSource (.gaugeFault g) fault s1

/-- A channel in a state in which C is kept, with its hold timer stopped. -/
def Channel.goto (st : ChannelState) (c : Channel) : Channel :=
  { c with state := st, rest := none, leg := none, holdDue := none }

/-- RESTING with a reason (R35). -/
def Channel.restWith (r : RestReason) (c : Channel) : Channel :=
  { c with state := .resting, rest := some r, leg := none, holdDue := none }

/-- The end of the hold (R34). -/
def Channel.endHold (c : Channel) : Channel := { c.restWith .stale with holdSpent := true }

/-- Entry to HOLDING; a hold time of 0 rests at once (R34). -/
def Channel.hold (now holdTime : Nat) (c : Channel) : Channel :=
  if holdTime = 0 then c.endHold
  else { c.goto .holding with holdDue := some (now + holdTime) }

/-- PARKED: coils unpowered, period timer stopped, C kept at 0 (R38, R39). The rules give s no value here, so it
keeps its own (00_scope.md, 4.5). The coils are unpowered from the entry on, also where C changed at that very expiry
(DEDUCED, notes/assumptions/52.md). -/
def Channel.park (c : Channel) : Channel :=
  { c.goto .parked with position := some 0, periodDue := none, drive := 0, stepping := false }

/-- PARKING, or PARKED at once when C is 0 (R38, Table 2-11). -/
def Channel.parkOrParked (c : Channel) : Channel :=
  if c.position = some 0 then c.park else c.goto .parking

/-- OVERRIDDEN with F held at 256 × the override position (R41). -/
def Channel.overrideTo (position : Nat) (c : Channel) : Channel :=
  { c.goto .overridden with damped := 256 * position }

/-- The source slot of a gauge. -/
def sourceSlot (s : State) (g : Fin 6) : Slot :=
  match (gaugeRecord s g).source with
  | some n => s.slots[n]
  | none => Slot.initial

/-- The override position of a gauge (R41). -/
def overridePositionOf (s : State) (g : Fin 6) : Nat :=
  overridePosition (gaugeRecord s g).fullScale s.service.override.fraction

/-- The state a channel calls for (R31, Table 2-11). -/
def calledChannel (s : State) (g : Fin 6) (c : Channel) : Channel :=
  if s.control.part.ignitionOff then c.parkOrParked
  else if s.control.fallback then c.restWith .disabled
  else if s.service.override.inForce then c.overrideTo (overridePositionOf s g)
  else
    match (sourceSlot s g).quality with
    | .fresh => c.goto .tracking
    | .stale =>
      if c.holdSpent then c.restWith .stale else c.hold s.now (gaugeRecord s g).holdTime
    | .absent => c.restWith .absent
    | .faulted => c.restWith .faulted
    | .never => c.restWith .never

/-- A channel enters the state it calls for (R31). -/
def enterCalled (g : Fin 6) (c : Channel) (s : State) : State := putChannel g (calledChannel s g c) s

/-! ## Motion period -/

/-- Distance of a homing run (R29). -/
def homingDistance (r : GaugeRecord) : Nat := r.fullScale + 200

/-- A channel at the end of its homing run (R29). -/
def Channel.homed (c : Channel) : Channel :=
  { c with position := some 0, speed := 0, upward := true, progress := 0, stepping := false }

/-- The end of a homing run: the first of a cycle sweeps, except after ignition off and under fallback
(R30); a run begun by a stall during the sweep, and under fallback the first run, end the start
sequence (R32). -/
def endHoming (g : Fin 6) (c : Channel) (s : State) : State :=
  match c.run with
  | .first =>
    if s.control.part.ignitionOff then enterCalled g c s
    else if s.control.fallback then reportStartDone g (enterCalled g c s)
    else putChannel g { c with state := .sweeping, leg := some .up } s
  | .afterSweepStall => reportStartDone g (enterCalled g c s)
  | .rehoming => enterCalled g c s

/-- A motion period of a homing run (R29). The microsteps that an expiry gives the run are driven in the period after
it, as R23 and R28 have a change of C driven; so the last of them are driven when the run has ended and the channel is
in its next state, which the rule leaves open (DESIGN CHOICE, notes/assumptions/54.md; PARKED apart, log 52). -/
def homingPeriod (g : Fin 6) (c : Channel) (s : State) : State :=
  let r := gaugeRecord s g
  let n := min r.homingSpeed (homingDistance r - c.progress)
  let c1 := { c with progress := c.progress + n, drive := -(n : Int), stepping := false }
  if homingDistance r ≤ c1.progress then endHoming g c1.homed s else putChannel g c1 s

/-- A channel after the motion rule toward a goal; the coils are driven by the change of C (R28). -/
def Channel.moveTo (r : GaugeRecord) (goal : Nat) (c : Channel) : Channel :=
  let p := c.position.getD 0
  let m := moveStep r.fullScale r.speedLimit r.acceleration goal
    { position := p, speed := c.speed, upward := c.upward }
  { c with position := some m.position, speed := m.speed, upward := m.upward,
           drive := (m.position : Int) - p, stepping := decide (m.position ≠ p) }

/-- The damping shift in use (R25, R26). -/
def dampingShift (r : GaugeRecord) (c : Channel) : Nat :=
  match r.standstill with
  | some st => if c.standMode then st.kFast else r.k
  | none => r.k

/-- Damping toward a target, then the motion rule toward the goal (Table 2-6). -/
def Channel.dampTo (r : GaugeRecord) (target : Nat) (c : Channel) : Channel :=
  let f := damp (dampingShift r c) target c.damped
  Channel.moveTo r (goalOf f) { c with damped := f }

/-- A motion period of the sweep (R30). -/
def sweepPeriod (g : Fin 6) (c : Channel) (s : State) : State :=
  let r := gaugeRecord s g
  match c.leg with
  | some .down =>
    let c1 := c.moveTo r 0
    if c1.position = some 0 then reportStartDone g (enterCalled g c1 s) else putChannel g c1 s
  | some .up =>
    let c1 := c.moveTo r r.fullScale
    putChannel g (if c1.position = some r.fullScale then { c1 with leg := some .down } else c1) s
  | none => putChannel g (c.moveTo r r.fullScale) s

/-- A motion period of PARKING (R39). -/
def parkingPeriod (g : Fin 6) (c : Channel) (s : State) : State :=
  let c1 := c.moveTo (gaugeRecord s g) 0
  putChannel g (if c1.position = some 0 then c1.park else c1) s

/-- The work of a motion period that expired at `due`, by state (R23, Table 2-6). -/
def motionWork (g : Fin 6) (due : Nat) (s : State) : State :=
  let r := gaugeRecord s g
  let c := { channelOf s g with periodDue := some (due + motionMs) }
  match c.state with
  | .homing => homingPeriod g c s
  | .sweeping => sweepPeriod g c s
  | .tracking => putChannel g (c.dampTo r (characteristic r.breakpoints (sourceSlot s g).value)) s
  | .holding => putChannel g (c.dampTo r (characteristic r.breakpoints (sourceSlot s g).value)) s
  | .resting => putChannel g (c.dampTo r r.rest) s
  | .overridden =>
    putChannel g
      (Channel.moveTo r (overridePositionOf s g) { c with damped := 256 * overridePositionOf s g }) s
  | .parking => parkingPeriod g c s
  | .unhomed => s
  | .parked => s
  | .failed => s

/-! ## Stalls -/

/-- A stall taken at a moment at which the hold timer has already run out: the expiry counts, so that the state called
for after the homing run reflects it in either order (R34, R36; DEDUCED, notes/assumptions/48.md). A timer that is not
yet due is only stopped. -/
def Channel.spendHold (now : Nat) (c : Channel) : Channel :=
  if c.state = .holding ∧ c.holdDue.any (fun d => decide (d ≤ now)) = true then { c with holdSpent := true } else c

/-- A channel that begins a homing run after a stall; F is kept and the hold timer stops (R36). The period timer runs
on (R23). What the coils do for the rest of the period in progress is
not said: their drive is 0 from the stall on (DESIGN CHOICE, notes/assumptions/51.md). -/
def Channel.rehome (c : Channel) : Channel :=
  { c.goto .homing with
    position := none, speed := 0, progress := 0, drive := 0, stepping := false,
    run := if c.state = .sweeping then .afterSweepStall else .rehoming }

/-- FAILED: coils unpowered, C discarded, timers stopped (R37). The rule gives s no value here, so it keeps its own
(DEDUCED, notes/assumptions/38.md). -/
def Channel.fail (c : Channel) : Channel :=
  { c.goto .failed with
    position := none, periodDue := none, drive := 0, stepping := false }

/-- A stall sensed on a channel (R36, R37). -/
def stallChannel (g : Fin 6) (s : State) : State :=
  let c := { (channelOf s g).spendHold s.now with stalls := (channelOf s g).stalls + 1 }
  if (gaugeRecord s g).enabled = false ∨ (channelOf s g).state.stallSensed = false
      ∨ (channelOf s g).stepping = false then s
  else if c.stalls < 4 then putChannel g c.rehome (count 0 s)
  else reportStartDone g (setErrorIndication (putChannel g c.fail (count 0 s)))

/-! ## Bands -/

/-- A band becomes `b`; a change into or out of ACTIVE is reported (R43). -/
def putBand (g : Fin 6) (i : Fin 2) (b : BandState) (s : State) : State :=
  let c := channelOf s g
  let s1 := s.setGauges { s.gauges with channels := s.gauges.channels.set g { c with bands := c.bands.set i b } }
  if c.bands[i] ≠ .active ∧ b = .active then tellSource (.band g i) true s1
  else if c.bands[i] = .active ∧ b ≠ .active then tellSource (.band g i) false s1
  else s1

/-- A band's response to a value arrival (R44, Table 2-14). -/
def bandArrival (r : BandRecord) (now : Nat) (e : Int) (b : BandState) : BandState :=
  match b with
  | .inactive =>
    if bandSet r e then (if r.persistence = 0 then .active else .running now) else .inactive
  | .running start => if bandSet r e then .running start else .inactive
  | .paused elapsed => if bandSet r e then .running (now - elapsed) else .inactive
  | .active => if bandClear r e then .inactive else .active

/-- A band's response to its source no longer being FRESH (R45). -/
def bandFreeze (now : Nat) (b : BandState) : BandState :=
  match b with
  | .running start => .paused (now - start)
  | .inactive => .inactive
  | .paused elapsed => .paused elapsed
  | .active => .active

/-- The record of a band of a gauge. -/
def bandRecord (s : State) (g : Fin 6) (i : Fin 2) : Option BandRecord := (gaugeRecord s g).bands[i.val]?

/-- What a notification tells (R18): an applied arrival's kind, or the stale expiry. -/
inductive SlotEvent where
  | value | absent | faulted | staled
  deriving DecidableEq, Repr

/-- A notification at one band (R44, R45). -/
def notifyBand (g : Fin 6) (i : Fin 2) (ev : SlotEvent) (e : Int) (s : State) : State :=
  match bandRecord s g i with
  | none => s
  | some r =>
    let b := (channelOf s g).bands[i]
    match ev with
    | .value => putBand g i (bandArrival r s.now e b) s
    | .absent => putBand g i (bandFreeze s.now b) s
    | .faulted => putBand g i (bandFreeze s.now b) s
    | .staled => putBand g i (bandFreeze s.now b) s

/-- The moment a band's running persistence timer is due. -/
def persistenceDue (s : State) (g : Fin 6) (i : Fin 2) : Option Nat :=
  match bandRecord s g i, (channelOf s g).bands[i] with
  | some r, .running start => some (start + r.persistence)
  | _, _ => none

/-! ## Slot notifications -/

/-- A source slot event at a channel (R33, Table 2-12). -/
def channelEvent (holdTime now : Nat) (ev : SlotEvent) (c : Channel) : Channel :=
  let c1 := if ev = .value then { c with holdSpent := false } else c
  match c.state with
  | .tracking =>
    match ev with
    | .value => c1
    | .staled => c.hold now holdTime
    | .absent => c.restWith .absent
    | .faulted => c.restWith .faulted
  | .holding =>
    match ev with
    | .value => c1.goto .tracking
    | .staled => c
    | .absent => c.restWith .absent
    | .faulted => c.restWith .faulted
  | .resting =>
    match ev with
    | .value => c1.goto .tracking
    | .staled => c
    | .absent => c.restWith .absent
    | .faulted => c.restWith .faulted
  | .unhomed => c1
  | .homing => c1
  | .sweeping => c1
  | .overridden => c1
  | .parking => c1
  | .parked => c1
  | .failed => c1

/-- A standstill slot event at a gauge (R26). -/
def standstillEvent (threshold : Int) (now : Nat) (ev : SlotEvent) (e : Int) (c : Channel) : Channel :=
  match ev with
  | .value =>
    if e ≤ threshold then
      if c.standDue.isNone ∧ c.standMode = false then { c with standDue := some (now + standstillMs) }
      else c
    else { c with standDue := none, standMode := false }
  | .absent => { c with standDue := none, standMode := false }
  | .faulted => { c with standDue := none, standMode := false }
  | .staled => { c with standDue := none, standMode := false }

/-- A notification at a gauge whose source slot it names: the channel of an enabled gauge, then band 0, then band
1 (R33, R44, R45). The order, in which their changes are reported, is the model's (DESIGN CHOICE,
notes/assumptions/42.md). -/
def notifySource (g : Fin 6) (ev : SlotEvent) (e : Int) (s : State) : State :=
  let s1 :=
    if (gaugeRecord s g).enabled then
      putChannel g (channelEvent (gaugeRecord s g).holdTime s.now ev (channelOf s g)) s
    else s
  notifyBand g 1 ev e (notifyBand g 0 ev e s1)

/-- A notification of slot `slot` drives the standstill mode of a gauge: the slot is its standstill slot (R26) and not
the source slot of a disabled gauge, of which only the bands act (R33). A disabled gauge whose standstill slot is not
its source slot is driven like an enabled one (DESIGN CHOICE, notes/assumptions/46.md). -/
abbrev drivesStandstill (r : GaugeRecord) (slot : Fin 64) (st : StandstillConfig) : Prop :=
  st.slot = slot ∧ (r.enabled = true ∨ r.source ≠ some slot)

/-- A notification at a gauge whose standstill slot it may name (R26, R33). -/
def notifyStandstill (g : Fin 6) (slot : Fin 64) (ev : SlotEvent) (e : Int) (s : State) : State :=
  match (gaugeRecord s g).standstill with
  | some st =>
    if drivesStandstill (gaugeRecord s g) slot st then
      putChannel g (standstillEvent st.threshold s.now ev e (channelOf s g)) s else s
  | none => s

/-- A notification at one gauge. -/
def notifyGauge (slot : Fin 64) (ev : SlotEvent) (e : Int) (s : State) (g : Fin 6) : State :=
  notifyStandstill g slot ev e
    (if (gaugeRecord s g).source = some slot then notifySource g ev e s else s)

/-- A slot notification at the Gauge Engine (R18), gauges 0 to 5 in turn (DESIGN CHOICE,
notes/assumptions/42.md). -/
def gaugeSlot (slot : Fin 64) (ev : SlotEvent) (e : Int) (s : State) : State :=
  allGauges.foldl (notifyGauge slot ev e) s

/-- The hold timer of a channel expires in HOLDING (R34). In HOMING, after a stall that was taken first, the timer
has been stopped and the expiry changes nothing: one that was due at the stall has spent the hold there (R36,
`Channel.spendHold`; DEDUCED, notes/assumptions/48.md). -/
def endHoldOf (g : Fin 6) (s : State) : State :=
  if (channelOf s g).state = .holding then putChannel g (channelOf s g).endHold s else s

/-- The expiry of a standstill timer: standstill mode is on (R26). -/
def standstillOn (g : Fin 6) (s : State) : State :=
  putChannel g { channelOf s g with standDue := none, standMode := true } s

/-! ## START, ignition off, override, grace -/

/-- A channel at START entry (R30). The coils of one that was stepping are not driven for the rest of the period in
progress, of which the rule says nothing (DESIGN CHOICE, notes/assumptions/51.md). -/
def Channel.restart (now : Nat) (c : Channel) : Channel :=
  { c.goto .homing with
    position := none, speed := 0, damped := 0, stalls := 0, holdSpent := false, progress := 0,
    run := .first, periodDue := some (now + motionMs), drive := 0, stepping := false }

/-- START entry at one gauge: its bands go INACTIVE (R43), then an enabled channel homes (R30). The order, in
which their changes are reported, is the model's (DESIGN CHOICE, notes/assumptions/42.md). -/
def startGauge (s : State) (g : Fin 6) : State :=
  let s1 := putBand g 1 .inactive (putBand g 0 .inactive s)
  if (gaugeRecord s g).enabled then putChannel g ((channelOf s1 g).restart s1.now) s1 else s1

/-- START entry at the Gauge Engine (R30, R40, R43), gauges 0 to 5 in turn (DESIGN CHOICE,
notes/assumptions/42.md). -/
def startGauges (s : State) : State :=
  allGauges.foldl startGauge (s.setGauges { s.gauges with grace := .running (s.now + graceMs) })

/-- Ignition off at one channel (R38). -/
def Channel.ignitionOff (c : Channel) : Channel :=
  match c.state with
  | .sweeping => c.parkOrParked
  | .tracking => c.parkOrParked
  | .holding => c.parkOrParked
  | .resting => c.parkOrParked
  | .overridden => c.parkOrParked
  | .homing => c
  | .parking => c
  | .parked => c
  | .unhomed => c
  | .failed => c

/-- Ignition off at one gauge (R38). -/
def ignitionOffGauge (s : State) (g : Fin 6) : State :=
  if (gaugeRecord s g).enabled then putChannel g (channelOf s g).ignitionOff s else s

/-- Ignition off at the Gauge Engine (R38), gauges 0 to 5 in turn (DESIGN CHOICE, notes/assumptions/42.md). -/
def ignitionOffGauges (s : State) : State := allGauges.foldl ignitionOffGauge s

/-- The start of the override at one channel (R41). -/
def Channel.startOverride (position : Nat) (c : Channel) : Channel :=
  match c.state with
  | .tracking => c.overrideTo position
  | .holding => c.overrideTo position
  | .resting => c.overrideTo position
  | .homing => c
  | .sweeping => c
  | .overridden => c
  | .parking => c
  | .parked => c
  | .unhomed => c
  | .failed => c

/-- The start of the override at one gauge (R41). Under the fallback a channel stays RESTING until ignition off
(R21), as Table 2-11 has the fallback stand before the override (DEDUCED, notes/assumptions/39.md). -/
def startGaugeOverride (s : State) (g : Fin 6) : State :=
  if (gaugeRecord s g).enabled = true ∧ s.control.fallback = false then
    putChannel g ((channelOf s g).startOverride (overridePositionOf s g)) s
  else s

/-- The start of the override at the Gauge Engine (R41), gauges 0 to 5 in turn (DESIGN CHOICE,
notes/assumptions/42.md). -/
def startGaugesOverride (s : State) : State := allGauges.foldl startGaugeOverride s

/-- The end of the override at one gauge (R42). -/
def endGaugeOverride (s : State) (g : Fin 6) : State :=
  if (channelOf s g).state = .overridden then enterCalled g (channelOf s g) s else s

/-- The end of the override at the Gauge Engine (R42), gauges 0 to 5 in turn (DESIGN CHOICE,
notes/assumptions/42.md). -/
def endGaugesOverride (s : State) : State := allGauges.foldl endGaugeOverride s

/-- The GAUGE-FAULT condition of a gauge is evaluated anew (R40). -/
def reviewFault (s : State) (g : Fin 6) : State := putChannel g (channelOf s g) s

/-- The expiry of the never-grace timer (R40). The conditions that change are reported for gauges 0 to 5 in turn:
the rule gives no order (DESIGN CHOICE, notes/assumptions/42.md). -/
def expireGrace (s : State) : State :=
  allGauges.foldl reviewFault (s.setGauges { s.gauges with grace := .expired })

/-- The moment the never-grace timer is due. -/
def graceDue (s : State) : Option Nat :=
  match s.gauges.grace with
  | .running d => some d
  | .stopped => none
  | .expired => none

end Sys2Proof.Machine
end

