-- ==== Sys2Proof/Machine/Telltale.lean ====
section
/-! DEFINITION. The Telltale Unit (Chapter 3), with the end of the override, which a red demand brings about
(R57, R64, R169). -/

namespace Sys2Proof.Machine

open Sys2Proof

/-! ## Patterns on the lamps -/

/-- A lamp takes up a pattern, or goes dark, from the start of the first on phase (R59). -/
def Lamp.drive (now : Nat) (p : Option Pattern) (l : Lamp) : Lamp :=
  { l with
    shown := p
    phase := 0
    phaseDue :=
      match p with
      | some q => if patternPhases q = 0 then none else some (now + patternPhaseMs q 0)
      | none => none }

/-- What a lamp shows by its state and its demands (Table 3-10). An OVERRIDDEN lamp keeps the override
pattern it shows (R63). -/
def Lamp.target (l : Lamp) : Option Pattern :=
  match l.state with
  | .off => none
  | .proving => some .steady
  | .showing => topPattern l.demands
  | .overridden => l.shown
  | .afterRun => if l.showAfterRun then topPattern l.demands else none

/-- A lamp follows its demands; an unchanged pattern runs on without a break (R59). -/
def Lamp.follow (now : Nat) (l : Lamp) : Lamp :=
  if l.target = l.shown then l else l.drive now l.target

/-- A lamp enters a state and shows what it calls for from the first on phase (R59, R60). -/
def Lamp.enter (now : Nat) (st : LampState) (l : Lamp) : Lamp :=
  Lamp.drive now (Lamp.target { l with state := st }) { l with state := st }

/-- Every lamp enters a state. -/
def enterLamps (st : LampState) (s : State) : State :=
  s.setTelltale { s.telltale with lamps := s.telltale.lamps.map (Lamp.enter s.now st) }

/-- Every OVERRIDDEN lamp enters SHOWING (R64). -/
def endLampOverride (now : Nat) (l : Lamp) : Lamp :=
  if l.state = .overridden then l.enter now .showing else l

/-! ## The end of the override -/

/-- The end of the override at the Telltale Unit (R64). -/
def endTelltaleOverride (s : State) : State :=
  s.setTelltale { s.telltale with lamps := s.telltale.lamps.map (endLampOverride s.now) }

/-- The override record becomes `o`. -/
def putOverride (o : Override) (s : State) : State := s.setService { s.service with override := o }

/-- The end of an override in force (R169); where none is in force nothing changes. -/
def endOverride (s : State) : State :=
  if s.service.override.inForce then
    endGaugesOverride (endTelltaleOverride
      (putOverride { s.service.override with inForce := false, due := none } s))
  else s

/-! ## Postings and leave reports -/

/-- Class of a demand's pop-up (Table 3-8). -/
def popupClass : LampClass → Grade
  | .red => .urgent
  | .amber => .caution
  | .green => .notice
  | .blue => .notice

/-- A demand that has entered or left ACTIVE: its lamp's output and class, its index and its record. -/
structure DemandChange where
  output : Fin 32
  cls : LampClass
  index : Nat
  record : DemandRecord
  entered : Bool
  deriving DecidableEq, Repr

/-- The posting of a demand (R55). -/
def postDemand (output : Fin 32) (cls : LampClass) (index : Nat) (r : DemandRecord) (s : State) : State :=
  let s1 :=
    match r.chime with
    | some g => postChime (.demand output index) g s
    | none => s
  match r.message with
  | some m => postPopup m (popupClass cls) (!r.latching) s1
  | none => s1

/-- The leave reports of a demand (R56). -/
def leaveDemand (output : Fin 32) (index : Nat) (r : DemandRecord) (s : State) : State :=
  let s1 := if r.chime.isSome then leaveChime (.demand output index) s else s
  match r.message with
  | some m => if r.latching then s1 else causeCleared m s1
  | none => s1

/-- What follows a demand's change of state (R55, R56): an entry to ACTIVE posts when postings are
made; a leaving makes its reports in every part state. -/
def announce (c : DemandChange) (s : State) : State :=
  if c.entered then
    if postingAllowed s then postDemand c.output c.cls c.index c.record s else s
  else leaveDemand c.output c.index c.record s

/-! ## Conditions -/

/-- A demand with its condition formed anew (R53); during proving a latching demand does not latch
(R61). Before the end of LOADING only the condition is kept (R52). -/
def Demand.update (evaluating proving : Bool) (condition : Bool) (d : Demand) : Demand :=
  if evaluating = false ∨ condition = d.condition then { d with condition := condition }
  else if condition then { d with condition := true, state := .active }
  else
    { d with
      condition := false
      state :=
        if d.state = .active then (if d.record.latching ∧ ¬ proving then .latched else .inactive)
        else d.state }

/-- The changes into and out of ACTIVE among the demands of one lamp, in index order. -/
def demandChanges (l : Lamp) : Nat → List Demand → List Demand → List DemandChange
  | _, [], _ => []
  | _, _ :: _, [] => []
  | i, d :: ds, e :: es =>
    let rest := demandChanges l (i + 1) ds es
    if d.state ≠ .active ∧ e.state = .active then
      { output := l.output, cls := l.cls, index := i, record := d.record, entered := true } :: rest
    else if d.state = .active ∧ e.state ≠ .active then
      { output := l.output, cls := l.cls, index := i, record := d.record, entered := false } :: rest
    else rest

/-- The changes from one list of lamps to another, in order of output, then demand index (R52). -/
def lampChanges : List Lamp → List Lamp → List DemandChange
  | [], _ => []
  | _ :: _, [] => []
  | l :: ls, m :: ms => demandChanges l 0 l.demands m.demands ++ lampChanges ls ms

/-- Keeps the flags of R57; the Service Responder takes a change of red demand active at once. -/
def updateFlags (s : State) : State :=
  let red := classActive .red s.telltale.lamps
  let s1 := s.setTelltale { s.telltale with red := red, amber := classActive .amber s.telltale.lamps }
  if red = s.telltale.red then s1 else putOverride { s1.service.override with red := red } s1

/-- A RED-class demand entered ACTIVE. -/
def DemandChange.redEntry (c : DemandChange) : Bool := c.entered && c.cls == .red

/-- The Service Responder takes the report of a RED-class entry at once: it ends the override (R57, R169). -/
def reportRed (c : DemandChange) (s : State) : State := if c.redEntry then endOverride s else s

/-- The demands of a lamp under new conditions: `f` gives the condition of a demand. -/
def Lamp.withConditions (evaluating proving : Bool) (f : Demand → Bool) (l : Lamp) : Lamp :=
  { l with demands := l.demands.map (fun d => d.update evaluating proving (f d)) }

/-- One report at the Telltale Unit (R52): the conditions it concerns are updated, the demands change
state, lamps follow them (all OVERRIDDEN lamps first enter SHOWING on a RED-class entry, R64), the flags
are kept, and the red entries, then the postings and leave reports go out in order of output and index
(notes/assumptions/7.md). Where one report changes several demands of a lamp, the lamp follows once, after all of
them: a pattern that is the same before and after runs on (DESIGN CHOICE, notes/assumptions/43.md). -/
def applyConditions (f : Demand → Bool) (s : State) : State :=
  let old := s.telltale.lamps
  let changed := old.map (Lamp.withConditions s.telltale.evaluating s.telltale.provingDue.isSome f)
  let changes := lampChanges old changed
  let freed := if changes.any DemandChange.redEntry then changed.map (endLampOverride s.now) else changed
  let s1 := updateFlags (s.setTelltale { s.telltale with lamps := freed.map (Lamp.follow s.now) })
  let s2 := changes.foldl (fun t c => reportRed c t) s1
  changes.foldl (fun t c => announce c t) s2

/-- The condition of a demand after a slot notification (R49). -/
def slotCondition (slot : Fin 64) (e : Int) (q : Quality) (d : Demand) : Bool :=
  match d.record.source with
  | .slotTest n mask invert unknown =>
    if n = slot then slotTestCondition e q mask invert unknown else d.condition
  | .band _ _ => d.condition
  | .gaugeFault _ => d.condition
  | .station _ => d.condition
  | .health _ => d.condition
  | .driverTime _ _ => d.condition

/-- A notification of a slot at the Telltale Unit (R18, R49). -/
def telltaleSlot (slot : Fin 64) (e : Int) (q : Quality) (s : State) : State :=
  applyConditions (slotCondition slot e q) s

/-- The condition of a demand after a report of a source (R50, R51); `any` is the condition of a HEALTH
demand that names ANY. -/
def sourceCondition (src : Source) (on any : Bool) (d : Demand) : Bool :=
  match d.record.source, src with
  | .band g b, .band g' b' => if g = g' ∧ b = b' then on else d.condition
  | .gaugeFault g, .gaugeFault g' => if g = g' then on else d.condition
  | .station n, .station n' => if n = n' then on else d.condition
  | .health (some h), .health h' => if h = h' then on else d.condition
  | .health none, .health _ => any
  | .driverTime n k, .driverTime n' k' => if n = n' ∧ k = k' then on else d.condition
  | _, _ => d.condition

/-- The ten exceedances that the unit holds, after a report of a source (R51). -/
def heldHealth (src : Source) (on : Bool) (held : Vector Bool 10) : Vector Bool 10 :=
  match src with
  | .health h => held.set h on
  | .band _ _ => held
  | .gaugeFault _ => held
  | .station _ => held
  | .driverTime _ _ => held

/-- The condition of ANY, from the ten reports held (R51). -/
def anyHealth (held : Vector Bool 10) : Bool := held.toList.any (fun b => b)

/-- A report of a source at the Telltale Unit (R50, R51). -/
def takeSource (src : Source) (on : Bool) (s : State) : State :=
  let held := heldHealth src on s.telltale.health
  applyConditions (sourceCondition src on (anyHealth held))
    (s.setTelltale { s.telltale with health := held })

/-! ## ACK, START, ignition, proving -/

/-- ACK on a demand (R54). -/
def Demand.ack (d : Demand) : Demand :=
  if d.state = .latched then { d with state := .inactive } else d

/-- An ACK event at the Telltale Unit (R54). -/
def ackTelltale (s : State) : State :=
  s.setTelltale { s.telltale with
    lamps := s.telltale.lamps.map
      (fun l => Lamp.follow s.now { l with demands := l.demands.map Demand.ack }) }

/-- A demand at START entry: ACTIVE where its condition is true, else INACTIVE (R61). -/
def Demand.restart (d : Demand) : Demand :=
  { d with state := if d.condition then .active else .inactive }

/-- A lamp at START entry: PROVING when marked proved, else SHOWING (R61). -/
def Lamp.restart (now : Nat) (l : Lamp) : Lamp :=
  Lamp.enter now (if l.proved then .proving else .showing)
    { l with demands := l.demands.map Demand.restart }

/-- START entry at the Telltale Unit (R61). -/
def startTelltale (s : State) : State :=
  updateFlags (s.setTelltale { s.telltale with
    lamps := s.telltale.lamps.map (Lamp.restart s.now)
    loads := Vector.replicate 32 { openSeen := false, shortSeen := false }
    provingDue := some (s.now + provingMs) })

/-- Ignition off at the Telltale Unit (R62, R62a). -/
def ignitionOffTelltale (s : State) : State :=
  enterLamps .afterRun (s.setTelltale { s.telltale with provingDue := none })

/-- The postings of the ACTIVE demands of a lamp, in index order. -/
def postActiveDemands (l : Lamp) : Nat → List Demand → State → State
  | _, [], s => s
  | i, d :: ds, s =>
    postActiveDemands l (i + 1) ds
      (if d.state = .active then postDemand l.output l.cls i d.record s else s)

/-- A load fault of either kind is recorded. -/
def LoadRecord.seen (r : LoadRecord) : Bool := r.openSeen || r.shortSeen

/-- A PROVING lamp enters SHOWING (R62). -/
def endLampProving (now : Nat) (l : Lamp) : Lamp :=
  if l.state = .proving then l.enter now .showing else l

/-- The deferred posting of pop-up 57 for a RED lamp whose output has a load fault recorded (R66). -/
def postLoadFault (s : State) (l : Lamp) : State :=
  if l.cls = .red ∧ s.telltale.loads[l.output].seen = true then postPopup 57 .caution false s else s

/-- The proving expiry (R62): lamps, deferred postings of demands, then of pop-up 57 for each RED lamp with a
load fault (R66), the report of the end of proving. -/
def endProving (s : State) : State :=
  let s1 := s.setTelltale { s.telltale with
    provingDue := none
    lamps := s.telltale.lamps.map (endLampProving s.now) }
  let s2 := s1.telltale.lamps.foldl (fun t l => postActiveDemands l 0 l.demands t) s1
  reportProvingEnd (s1.telltale.lamps.foldl postLoadFault s2)

/-- The end of LOADING at the Telltale Unit (R48, R51, R52): every true condition makes its demand
ACTIVE without a posting, then the reports of R57. -/
def beginEvaluating (s : State) : State :=
  let lamps := s.telltale.lamps.map (fun l => { l with demands := l.demands.map Demand.restart })
  let s1 := updateFlags (s.setTelltale { s.telltale with lamps := lamps, evaluating := true })
  (lampChanges s.telltale.lamps lamps).foldl (fun t c => reportRed c t) s1

/-! ## The override -/

/-- A SHOWING lamp enters OVERRIDDEN with the override pattern (R63). -/
def overrideLamp (now : Nat) (p : Pattern) (l : Lamp) : Lamp :=
  if l.state = .showing then Lamp.drive now (some p) { l with state := .overridden } else l

/-- The start of the override at the Telltale Unit (R63). -/
def startLampOverride (p : Pattern) (s : State) : State :=
  if s.telltale.red then s
  else s.setTelltale { s.telltale with lamps := s.telltale.lamps.map (overrideLamp s.now p) }

/-! ## Pattern phases and load faults -/

/-- The pattern of a lamp goes on to its next phase at `due` (R58). -/
def Lamp.nextPhase (due : Nat) (l : Lamp) : Lamp :=
  match l.shown with
  | some p =>
    let next := (l.phase + 1) % patternPhases p
    { l with phase := next, phaseDue := some (due + patternPhaseMs p next) }
  | none => { l with phaseDue := none }

/-- The moment the phase of an output's pattern ends. -/
def phaseDueOf (s : State) (output : Fin 32) : Option Nat :=
  (s.telltale.lamps.find? (fun l => l.output == output)).bind (fun l => l.phaseDue)

/-- The phase of an output's pattern ends at `due` (R58). -/
def lampPhase (output : Fin 32) (due : Nat) (s : State) : State :=
  s.setTelltale { s.telltale with
    lamps := s.telltale.lamps.map (fun l => if l.output = output then l.nextPhase due else l) }

/-- A kind of fault is recorded. -/
def LoadRecord.has (k : LoadKind) (r : LoadRecord) : Bool :=
  match k with
  | .openLoad => r.openSeen
  | .shortLoad => r.shortSeen

/-- A kind of fault is recorded from here on. -/
def LoadRecord.add (k : LoadKind) (r : LoadRecord) : LoadRecord :=
  match k with
  | .openLoad => { r with openSeen := true }
  | .shortLoad => { r with shortSeen := true }

/-- A load fault reported for a lit output (R65, R66). A driver senses nothing while its output is
dark (3.8), nor on an output that no lamp record names (R46) but output 0 under fallback (R48). -/
def loadFault (output : Fin 32) (kind : LoadKind) (s : State) : State :=
  let r := s.telltale.loads[output]
  if outputLit s output = false ∨ r.has kind = true then s
  else
    let s1 := count 1 (s.setTelltale { s.telltale with loads := s.telltale.loads.set output (r.add kind) })
    if r.seen = false ∧ s.telltale.lamps.any (fun l => l.output == output && l.cls == .red) = true
        ∧ postingAllowed s = true then
      postPopup 57 .caution false s1
    else s1

/-- The live form of a lamp record at the end of its loading (R48): every demand INACTIVE with the
condition that the power-on states of the sources give (R51), the lamp OFF. -/
def liveLamp (r : LampRecord) : Lamp :=
  { output := r.output, cls := r.cls, proved := r.proved, showAfterRun := r.afterRun,
    demands := r.demands.map
      (fun d => { record := d, condition := initialCondition d.source, state := .inactive }),
    state := .off, shown := none, phase := 0, phaseDue := none }

/-- Inserts a lamp into a list in ascending order of output. -/
def insertLamp (l : Lamp) : List Lamp → List Lamp
  | [] => [l]
  | m :: ms => if l.output ≤ m.output then l :: m :: ms else m :: insertLamp l ms

/-- The lamps of the image in ascending order of output. -/
def liveLamps (rs : List LampRecord) : List Lamp :=
  rs.foldr (fun r ls => insertLamp (liveLamp r) ls) []

end Sys2Proof.Machine
end

