-- ==== Sys2Proof/Machine/Image.lean ====
section
/-! DEFINITION. Reading and checking the configuration image (R159, R171, R172 and the limits of R1, R2,
R3, R20, R46, R47, R94, R127, R152). A reader gives `none` where the image fails its check. -/

namespace Sys2Proof.Machine

open Sys2Proof

/-! ## Readers -/

/-- A reader of image bytes: its result with the bytes that remain, or the failure of the check. -/
abbrev Reader (α : Type) := List Byte → Option (α × List Byte)

/-- The reader of nothing. -/
def give {α : Type} (a : α) : Reader α := fun bs => some (a, bs)

/-- One reader, then another that may depend on its result. -/
def andThen {α β : Type} (r : Reader α) (f : α → Reader β) : Reader β := fun bs =>
  match r bs with
  | some (a, rest) => f a rest
  | none => none

/-- A limit: the check fails where it is broken. -/
def limit (ok : Bool) : Reader Unit := fun bs => if ok then some ((), bs) else none

/-- A field of `n` bytes, least significant first. -/
def field (n : Nat) : Reader Nat := fun bs =>
  if n ≤ bs.length then some (leNat (bs.take n), bs.drop n) else none

/-- A signed field of `n` bytes. -/
def signedField (n : Nat) : Reader Int := andThen (field n) (fun x => give (signExtend (8 * n) x))

/-- A code of an enumerated field; one the tables do not assign breaks its limit (R172). -/
def coded {α : Type} (decode : Nat → Option α) : Reader α :=
  andThen (field 1) (fun code bs => (decode code).map (fun a => (a, bs)))

/-- `n` records, one after another. -/
def records {α : Type} (r : Reader α) : Nat → Reader (List α)
  | 0 => give []
  | n + 1 => andThen r (fun a => andThen (records r n) (fun rest => give (a :: rest)))

/-- A field read only when `present`. -/
def readWhen {α : Type} (present : Bool) (r : Reader α) : Reader (Option α) :=
  if present then andThen r (fun a => give (some a)) else give none

/-- A number as a slot of the Signal Table. -/
def slotNumber (n : Nat) : Option (Fin 64) := if h : n < 64 then some ⟨n, h⟩ else none

/-- A slot number, 0..63. -/
def slotField : Reader (Fin 64) := coded slotNumber

/-- A slot number, or 255 for absent. -/
def optionalSlot : Reader (Option (Fin 64)) :=
  coded (fun n => if n = 255 then some none else (slotNumber n).map some)

/-- Bit `i` of a flags byte. -/
def flagOf (flags i : Nat) : Bool := flags.testBit i

/-- A multiple of 10 ms in a range. -/
def tenMs (low high x : Nat) : Bool := decide (low ≤ x) && decide (x ≤ high) && decide (x % 10 = 0)

/-! ## Gauge records (R20, Tables 2-2, 2-10, 12-9) -/

/-- A breakpoint; its position lies in 0..full scale. -/
def readBreakpoint (fullScale : Nat) : Reader Breakpoint :=
  andThen (signedField 4) fun e =>
  andThen (field 2) fun p =>
  andThen (limit (decide (p ≤ fullScale))) fun _ =>
  give { value := e, position := p }

/-- The clear level of a band against its set level (Table 2-10). -/
def levelsAgree (direction : BandDirection) (set clear : Int) : Bool :=
  match direction with
  | .high => decide (clear ≤ set)
  | .low => decide (set ≤ clear)

/-- A band record. -/
def readBand : Reader BandRecord :=
  andThen (field 1) fun flags =>
  andThen (signedField 4) fun set =>
  andThen (signedField 4) fun clear =>
  andThen (field 2) fun persistence =>
  let direction := if flagOf flags 0 then BandDirection.low else BandDirection.high
  andThen (limit (levelsAgree direction set clear && tenMs 0 10000 persistence)) fun _ =>
  give { direction := direction, setLevel := set, clearLevel := clear, persistence := persistence }

/-- The engineering values of breakpoints are strictly increasing (R20). -/
def increasing : List Breakpoint → Bool
  | [] => true
  | [_] => true
  | p :: q :: rest => decide (p.value < q.value) && increasing (q :: rest)

/-- The standstill items that follow the standstill slot. -/
def readStandstill (slot : Fin 64) : Reader StandstillConfig :=
  andThen (signedField 4) fun threshold =>
  andThen (field 1) fun kFast =>
  andThen (limit (decide (kFast ≤ 7))) fun _ =>
  give { slot := slot, threshold := threshold, kFast := kFast }

/-- The standstill slot with the items that are read with it; where it is absent their five bytes are passed
over (R172). -/
def readStandstills : Reader (Option StandstillConfig) :=
  andThen optionalSlot fun slot =>
  match slot with
  | some n => andThen (readStandstill n) (fun c => give (some c))
  | none => andThen (field 5) (fun _ => give none)

/-- A gauge record. -/
def readGauge : Reader GaugeRecord :=
  andThen (field 1) fun flags =>
  andThen slotField fun source =>
  andThen (field 2) fun fullScale =>
  andThen (field 1) fun k =>
  andThen readStandstills fun standstill =>
  andThen (field 1) fun v =>
  andThen (field 1) fun a =>
  andThen (field 1) fun homing =>
  andThen (field 2) fun hold =>
  andThen (field 2) fun rest =>
  andThen (field 1) fun points =>
  andThen (field 1) fun bands =>
  andThen (limit
    (decide (100 ≤ fullScale) && decide (fullScale ≤ 8000) && decide (k ≤ 7)
      && decide (1 ≤ v) && decide (v ≤ 64) && decide (1 ≤ a) && decide (a ≤ 16)
      && decide (1 ≤ homing) && decide (homing ≤ 32) && tenMs 0 5000 hold
      && decide (rest ≤ fullScale) && decide (2 ≤ points) && decide (points ≤ 8)
      && decide (bands ≤ 2))) fun _ =>
  andThen (records (readBreakpoint fullScale) points) fun breakpoints =>
  andThen (records readBand bands) fun bandList =>
  andThen (limit (increasing breakpoints)) fun _ =>
  give { enabled := flagOf flags 0, source := some source, breakpoints := breakpoints,
         fullScale := fullScale, k := k, standstill := standstill, speedLimit := v,
         acceleration := a, homingSpeed := homing, holdTime := hold, rest := rest,
         bands := bandList }

/-- The six gauge records. -/
def readGauges : Reader (Vector GaugeRecord 6) :=
  andThen readGauge fun g0 =>
  andThen readGauge fun g1 =>
  andThen readGauge fun g2 =>
  andThen readGauge fun g3 =>
  andThen readGauge fun g4 =>
  andThen readGauge fun g5 =>
  give #v[g0, g1, g2, g3, g4, g5]

/-! ## Intake entries (R1, R2, Tables 1-3, 1-4, 12-10) -/

/-- A field descriptor. -/
def readDescriptor : Reader Descriptor :=
  andThen (field 1) fun start =>
  andThen (field 1) fun length =>
  andThen (field 1) fun flags =>
  andThen (signedField 2) fun numerator =>
  andThen (field 2) fun divisor =>
  andThen (signedField 4) fun offset =>
  andThen slotField fun target =>
  andThen (limit
    (decide (start ≤ 63) && decide (1 ≤ length) && decide (length ≤ 32)
      && decide (start + length ≤ 64) && decide (divisor ≠ 0)
      && !(flagOf flags 2 && (flagOf flags 1 || decide (length = 1))))) fun _ =>
  give { start := start, length := length, big := flagOf flags 0, signed := flagOf flags 1,
         reserve := flagOf flags 2, numerator := numerator, divisor := divisor, offset := offset,
         target := target, rank := if flagOf flags 3 then .backup else .primary }

/-- Sink codes. -/
def sinkOf (code : Nat) : Option Sink :=
  if code = 0 then some .signals
  else if code = 1 then some .driverStatus1
  else if code = 2 then some .driverStatus2
  else if code = 3 then some .recorderNotice
  else if code = 4 then some .recorderDistance
  else none

/-- The number of descriptors an entry may have (R1). -/
def descriptorsAllowed (sink : Sink) (n : Nat) : Bool :=
  if sink = .signals then decide (1 ≤ n) && decide (n ≤ 4) else decide (n = 0)

/-- A station number 0..63, or 255 for the second meaning of the field (ANY, NONE). -/
def stationOr255 (n : Nat) : Option (Option Nat) :=
  if n = 255 then some none else if n ≤ 63 then some (some n) else none

/-- An intake entry; the topic is bits 0..6 of its byte. -/
def readIntake : Reader IntakeEntry :=
  andThen (field 1) fun topic =>
  andThen (coded stationOr255) fun sender =>
  andThen (coded sinkOf) fun sink =>
  andThen (field 2) fun stale =>
  andThen (field 1) fun n =>
  andThen (limit
    (decide (8 ≤ topic % 128) && tenMs 20 10000 stale && descriptorsAllowed sink n)) fun _ =>
  andThen (records readDescriptor n) fun descriptors =>
  give { topic := topic % 128, sender := sender, sink := sink, staleLimit := stale,
         descriptors := descriptors }

/-! ## Lamp records (R46, R47, Tables 3-4 to 3-6, 12-11) -/

/-- Class codes. -/
def lampClassOf (code : Nat) : Option LampClass :=
  if code = 0 then some .red
  else if code = 1 then some .amber
  else if code = 2 then some .green
  else if code = 3 then some .blue
  else none

/-- A gauge number. -/
def gaugeNumber (n : Nat) : Option (Fin 6) := if h : n < 6 then some ⟨n, h⟩ else none

/-- A band number. -/
def bandNumber (n : Nat) : Option (Fin 2) := if h : n < 2 then some ⟨n, h⟩ else none

/-- A health attribute, 255 for ANY. -/
def attributeOrAny (n : Nat) : Option (Option (Fin 10)) :=
  if n = 255 then some none else if h : n < 10 then some (some ⟨n, h⟩) else none

/-- A driver number, 1 or 2. -/
def driverNumber (n : Nat) : Option (Fin 2) :=
  if n = 1 then some 0 else if n = 2 then some 1 else none

/-- Warning kind codes. -/
def warningOf (code : Nat) : Option WarningKind :=
  if code = 0 then some .breakSoon
  else if code = 1 then some .breakOverdue
  else if code = 2 then some .dailySoon
  else if code = 3 then some .recorderLost
  else none

/-- A source reference from the source kind and the six bytes of its reference. -/
def sourceOf (kind : Nat) (b : List Byte) : Option SourceRef :=
  let byte := fun i => (b.getD i 0).toNat
  if kind = 0 then
    (slotNumber (byte 0)).map (fun n =>
      .slotTest n (BitVec.ofNat 32 (leNat ((b.drop 1).take 4))) (flagOf (byte 5) 0) (flagOf (byte 5) 1))
  else if kind = 1 then
    (gaugeNumber (byte 0)).bind (fun g => (bandNumber (byte 1)).map (fun i => .band g i))
  else if kind = 2 then (gaugeNumber (byte 0)).map .gaugeFault
  else if kind = 3 then some (.station (byte 0))
  else if kind = 4 then (attributeOrAny (byte 0)).map .health
  else if kind = 5 then
    (driverNumber (byte 0)).bind (fun d => (warningOf (byte 1)).map (fun k => .driverTime d k))
  else none

/-- `n` bytes as they stand. -/
def rawBytes (n : Nat) : Reader (List Byte) := fun bs =>
  if n ≤ bs.length then some (bs.take n, bs.drop n) else none

/-- Chime group codes; 3 is none. -/
def chimeOf (code : Nat) : Option (Option Grade) :=
  if code = 0 then some (some .urgent)
  else if code = 1 then some (some .caution)
  else if code = 2 then some (some .notice)
  else if code = 3 then some none
  else none

/-- A message number 0..63, or 255 for none. -/
def messageOf (n : Nat) : Option (Option Nat) :=
  if n = 255 then some none else if n ≤ 63 then some (some n) else none

/-- A source reference. -/
def readSource : Reader SourceRef :=
  andThen (field 1) fun kind =>
  andThen (rawBytes 6) fun b bs => (sourceOf kind b).map (fun r => (r, bs))

/-- A demand record. -/
def readDemand : Reader DemandRecord :=
  andThen readSource fun source =>
  andThen (coded decodePattern) fun pattern =>
  andThen (field 1) fun flags =>
  andThen (coded chimeOf) fun chime =>
  andThen (coded messageOf) fun message =>
  give { source := source, pattern := pattern, latching := flagOf flags 0, chime := chime,
         message := message }

/-- An output number. -/
def outputNumber (n : Nat) : Option (Fin 32) := if h : n < 32 then some ⟨n, h⟩ else none

/-- A lamp record. -/
def readLamp : Reader LampRecord :=
  andThen (coded outputNumber) fun output =>
  andThen (coded lampClassOf) fun cls =>
  andThen (field 1) fun flags =>
  andThen (field 1) fun n =>
  andThen (limit (decide (n ≤ 4))) fun _ =>
  andThen (records readDemand n) fun demands =>
  give { output := output, cls := cls, proved := flagOf flags 0, afterRun := flagOf flags 1,
         demands := demands }

/-- No number stands twice in a list. -/
def allDistinct : List Nat → Bool
  | [] => true
  | x :: xs => !xs.contains x && allDistinct xs

/-! ## Roster entries (R127, Tables 8-1, 12-12) -/

/-- Role codes of an entry. -/
def roleOf (code : Nat) : Option Role :=
  if code = 0 then some .other
  else if code = 1 then some .engine
  else if code = 2 then some .brake
  else if code = 3 then some .gearbox
  else if code = 4 then some .recorder
  else if code = 5 then some .trailer1
  else if code = 6 then some .trailer2
  else if code = 7 then some .trailer3
  else if code = 8 then some .body
  else none

/-- A trailer role. -/
def isTrailer : Role → Bool
  | .trailer1 => true
  | .trailer2 => true
  | .trailer3 => true
  | .other => false
  | .engine => false
  | .brake => false
  | .gearbox => false
  | .recorder => false
  | .body => false

/-- The coupling slot with the mask that is read with it, which is not 0; where the slot is absent the four
bytes of the mask are passed over (R172). -/
def readCoupling : Reader (Option CouplingConfig) :=
  andThen optionalSlot fun slot =>
  match slot with
  | some n =>
    andThen (field 4) fun mask =>
    andThen (limit (decide (mask ≠ 0))) fun _ =>
    give (some { slot := n, mask := BitVec.ofNat 32 mask })
  | none => andThen (field 4) (fun _ => give none)

/-- A roster entry. -/
def readRosterEntry : Reader RosterRecord :=
  andThen (field 1) fun station =>
  andThen (coded roleOf) fun role =>
  andThen (field 1) fun flags =>
  andThen (field 2) fun silence =>
  andThen readCoupling fun coupling =>
  andThen (limit
    (decide (station ≤ 63) && tenMs 100 5000 silence && (coupling.isNone || isTrailer role))) fun _ =>
  give { station := station, role := role, required := flagOf flags 0, silenceLimit := silence,
         coupling := coupling }

/-! ## The image -/

/-- Warning lead, 255 for DEFAULT (R94). -/
def leadOf (n : Nat) : Option Nat := if n = 255 then some defaultLead else if n ≤ 60 then some n else none

/-- A station number. -/
def stationNumber (n : Nat) : Option Nat := if n ≤ 63 then some n else none

/-- Weight and threshold of an attribute (R152). -/
def readHealth : Reader HealthConfig :=
  andThen (field 1) fun weight =>
  andThen (field 1) fun threshold =>
  andThen (limit (decide (threshold ≤ 99))) fun _ =>
  give { weight := weight, threshold := threshold }

/-- The ten attributes' settings from a list of ten. -/
def tenConfigs (l : List HealthConfig) : Vector HealthConfig 10 :=
  let d : HealthConfig := { weight := 0, threshold := 0 }
  #v[l.getD 0 d, l.getD 1 d, l.getD 2 d, l.getD 3 d, l.getD 4 d, l.getD 5 d, l.getD 6 d, l.getD 7 d,
    l.getD 8 d, l.getD 9 d]

/-- A text; a character is bits 0..6 of its byte. -/
def readText : Reader ConfigText :=
  andThen (field 1) fun message =>
  andThen (rawBytes 20) fun codes =>
  give { message := message, codes := codes.map (fun b => BitVec.ofNat 7 b.toNat) }

/-- A counted list of records, with a limit on the count. -/
def counted {α : Type} (most : Nat) (r : Reader α) : Reader (List α) :=
  andThen (field 1) fun n =>
  andThen (limit (decide (n ≤ most))) fun _ => records r n

/-- A demand's source refers to what the image holds (R47). -/
def sourceHeld (gauges : Vector GaugeRecord 6) (entries : Nat) : SourceRef → Bool
  | .band g i => decide (i.val < gauges[g].bands.length)
  | .station n => decide (n < entries)
  | .slotTest _ _ _ _ => true
  | .gaugeFault _ => true
  | .health _ => true
  | .driverTime _ _ => true

/-- A demand's message has a text (R47). -/
def messageHeld (texts : List ConfigText) (message : Option Nat) : Bool :=
  match message with
  | some m => decide (56 ≤ m) || texts.any (fun t => t.message == m)
  | none => true

/-- What R46, R47 and R127 require across the records of the image. -/
def recordsAgree (t : Tables) : Bool :=
  allDistinct (t.lamps.map (fun l => l.output.val))
    && decide ((t.lamps.map (fun l => l.demands.length)).sum ≤ 64)
    && t.lamps.all (fun l => l.demands.all (fun d =>
        sourceHeld t.gauges t.roster.length d.source && messageHeld t.texts d.message))
    && allDistinct (t.roster.map (fun e => e.station))
    && t.roster.all (fun e => e.station != t.ownStation)

/-- The items of the image in the order of Table 12-8. -/
def readTables : Reader Tables :=
  andThen (coded stationNumber) fun own =>
  andThen slotField fun road =>
  andThen (coded stationOr255) fun time =>
  andThen (coded leadOf) fun lead =>
  andThen (field 1) fun pages =>
  andThen (records readHealth 10) fun health =>
  andThen readGauges fun gauges =>
  andThen (counted 40 readIntake) fun intake =>
  andThen (counted 32 readLamp) fun lamps =>
  andThen (counted 24 readRosterEntry) fun roster =>
  andThen (counted 255 readText) fun texts =>
  give { ownStation := own, roadSlot := road, timeSource := time, warningLead := lead,
         pages := { driver1 := flagOf pages 0, driver2 := flagOf pages 1, tripB := flagOf pages 2,
                    clock := flagOf pages 3 },
         health := tenConfigs health, gauges := gauges, intake := intake, lamps := lamps,
         roster := roster, texts := texts }

/-- The image bytes after the header, where the header's length and check admit them (R159, R171). -/
def imageBytes (area : List Byte) : Option (List Byte) :=
  let length := leNat (area.take 2)
  let bytes := (area.drop 4).take length
  if length ≤ 7164 ∧ length ≤ (area.drop 4).length
      ∧ memoryCheck bytes = leNat ((area.drop 2).take 2) then some bytes else none

/-- The tables of the configuration image, where it passes its check (R159). -/
def checkImage (area : List Byte) : Option Tables :=
  match imageBytes area with
  | some bytes =>
    match readTables bytes with
    | some (t, _) => if recordsAgree t then some t else none
    | none => none
  | none => none

/-! ## Handing out the tables -/

/-- Each block receives its tables, and the restore starts (R159, R160). -/
def handOut (t : Tables) (fallback : Bool) (s : State) : State :=
  ((((s.setTables t).setControl { s.control with
      fallback := fallback, load := .restoring, readDue := some (s.now + memoryAnswerMs) }).setTelltale
    { s.telltale with lamps := liveLamps t.lamps }).setRoster
      { s.roster with entries := t.roster.map liveEntry }).setStore
        { s.store with restoreNext := 0, found := [] }

/-- The image has been read: its tables, or the fallback (R159, R160). -/
def takeImage (area : List Byte) (s : State) : State :=
  match checkImage area with
  | some t => handOut t false s
  | none => handOut fallbackTables true s

end Sys2Proof.Machine
end

