-- ==== Sys2Proof/Machine/Intake.lean ====
section
/-! DEFINITION. The Intake Unit (Chapter 1): matching, the rank test, slot updates and their
notifications, the recorder sinks, and the stale expiry. -/

namespace Sys2Proof.Machine

open Sys2Proof

/-- An entry matches a frame's topic and sender (R4). -/
def entryMatches (topic sender : Nat) (e : IntakeEntry) : Bool :=
  e.topic == topic && (e.sender == none || e.sender == some sender)

/-- A slot last written by a PRIMARY descriptor. -/
def writtenByPrimary (x : Slot) : Bool :=
  match x.writer with
  | some w => decide (w.rank = .primary)
  | none => false

/-- The rank test (R14): the arrival is applied. -/
def rankPasses (rank : Rank) (x : Slot) : Bool :=
  match rank with
  | .primary => true
  | .backup => !(decide (x.quality = .fresh) && writtenByPrimary x)

/-- A slot after an applied arrival (R15, R16). -/
def Slot.apply (a : Arrival) (w : Writer) (x : Slot) : Slot :=
  match a with
  | .value e => { value := e, quality := .fresh, writer := some w }
  | .absent => { value := x.value, quality := .absent, writer := some w }
  | .faulted => { value := x.value, quality := .faulted, writer := some w }

/-- What a notification of an applied arrival tells. -/
def arrivalEvent : Arrival → SlotEvent
  | .value _ => .value
  | .absent => .absent
  | .faulted => .faulted

/-- A slot becomes `x`. -/
def putSlot (slot : Fin 64) (x : Slot) (s : State) : State := s.setSlots (s.slots.set slot x)

/-- Tells the consumers of a slot of an event, with the slot as it now stands (R18). R18 gives no order among the
consumers: the model tells the Gauge Engine, then the Telltale Unit, then the Roster Unit (DESIGN CHOICE,
notes/assumptions/49.md). -/
def notifyConsumers (slot : Fin 64) (ev : SlotEvent) (s : State) : State :=
  let x := s.slots[slot]
  rosterSlot slot x.value x.quality
    (telltaleSlot slot x.value x.quality (gaugeSlot slot ev x.value s))

/-- One descriptor of a matching SIGNALS entry (R5, R9, R14 to R16). -/
def treatDescriptor (sender staleLimit : Nat) (payload : List Byte) (s : State) (d : Descriptor) :
    State :=
  if isShort d payload.length then count 4 s
  else
    let x := s.slots[d.target]
    if rankPasses d.rank x then
      let a := interpretField d (extractField d payload)
      notifyConsumers d.target (arrivalEvent a)
        (putSlot d.target
          (x.apply a { rank := d.rank, staleLimit := staleLimit, station := sender, time := s.now }) s)
    else s

/-- One matching entry (R5, R6). -/
def treatEntry (sender : Nat) (payload : List Byte) (s : State) (e : IntakeEntry) : State :=
  match e.sink with
  | .signals => e.descriptors.foldl (treatDescriptor sender e.staleLimit payload) s
  | .driverStatus1 => driverStatus 0 payload s
  | .driverStatus2 => driverStatus 1 payload s
  | .recorderNotice => recorderNotice payload s
  | .recorderDistance => recorderDistance payload s

/-- A frame on a data topic at the Intake Unit (R4, R5). -/
def takeData (topic sender : Nat) (payload : List Byte) (s : State) : State :=
  (s.tables.intake.filter (entryMatches topic sender)).foldl (treatEntry sender payload) s

/-- The moment the stale timer of a slot is due (R17). -/
def staleDue (s : State) (slot : Fin 64) : Option Nat :=
  let x := s.slots[slot]
  if x.quality = .fresh then x.writer.map (fun w => w.time + w.staleLimit) else none

/-- The stale expiry of a slot (R17, R18). -/
def staleSlot (slot : Fin 64) (s : State) : State :=
  notifyConsumers slot .staled (putSlot slot { s.slots[slot] with quality := .stale } s)

/-- Age of a slot in ms, saturating, with the code for no age (R19, R168). -/
def slotAge (now : Nat) (x : Slot) : Nat :=
  match x.writer with
  | some w => min 4294967294 (now - w.time)
  | none => 4294967295

/-- Source station code of a slot (R168). -/
def slotStation (x : Slot) : Nat :=
  match x.writer with
  | some w => w.station
  | none => 255

/-- Writer rank code of a slot (R168). -/
def slotRank (x : Slot) : Nat :=
  match x.writer with
  | some w => rankCode w.rank
  | none => 255

end Sys2Proof.Machine
end

