-- ==== Sys2Proof/Machine/Service.lean ====
section
/-! DEFINITION. The Service Responder (R167 to R169): its mailbox, the nine requests and the override. -/

namespace Sys2Proof.Machine

open Sys2Proof

/-! ## The start of the override; its end stands in Telltale.lean -/

/-- The override is granted (R169). -/
def startOverride (pattern : Pattern) (fraction : Nat) (beep : Bool) (s : State) : State :=
  let s1 := putOverride
    { inForce := true, pattern := pattern, fraction := fraction, beep := beep,
      due := some (s.now + overrideMs), red := s.service.override.red } s
  let s2 := startGaugesOverride (startLampOverride pattern s1)
  if beep then postChime .test .notice s2 else s2

/-! ## Replies -/

/-- The outcome of a request: the reply code with its data (R167). -/
inductive Reply where
  | done (data : List Byte)
  | notNow
  | badArgument
  | unknownRequest
  deriving DecidableEq, Repr

/-- The number of a reply code (R167). -/
def Reply.code : Reply → Nat
  | .done _ => 0
  | .notNow => 1
  | .badArgument => 2
  | .unknownRequest => 3

/-- The data of a reply: none but with DONE (R167). -/
def Reply.data : Reply → List Byte
  | .done d => d
  | .notNow => []
  | .badArgument => []
  | .unknownRequest => []

/-- A reply is placed and the mailbox is PENDING until the Line Controller reports on it (R167). -/
def placeReply (requester code : Nat) (r : Reply) (s : State) : State :=
  placeFrame .serviceReply (replyPayload requester code r.code r.data)
    (s.setService { s.service with pendingReply := true })

/-- A reading: a reply that changes nothing, BAD-ARGUMENT where there is no data to give. -/
def readingReply (data : Option (List Byte)) : Reply :=
  match data with
  | some d => .done d
  | none => .badArgument

/-! ## The readings of Table 11-3 and Table 12-5 -/

/-- READ-STATE item 0. -/
def partReading (s : State) : List Byte :=
  [ BitVec.ofNat 8 (partCode s.control.part + 16 * flagBit s.control.ready
      + 32 * flagBit s.control.errorIndication + 64 * flagBit s.control.fallback
      + 128 * flagBit s.service.override.inForce),
    BitVec.ofNat 8 (lineCode s.line.state + 4 * clockCode s.driver.clock.state
      + 16 * storeCode s.store.state) ]

/-- READ-STATE items 1 to 6. -/
def channelReading (c : Channel) : List Byte :=
  [ BitVec.ofNat 8 (channelCode c.state), BitVec.ofNat 8 (restCode c.rest), BitVec.ofNat 8 c.stalls,
    BitVec.ofNat 8 (flagBit c.fault) ]

/-- The data of READ-STATE for an item. -/
def stateReading (s : State) (item : Nat) : Option (List Byte) :=
  if item = 0 then some (partReading s)
  else if item ≤ 6 then (s.gauges.channels[item - 1]?).map channelReading
  else none

/-- The data of READ-SLOT for an item of a slot. -/
def slotReading (now : Nat) (x : Slot) (item : Nat) : Option (List Byte) :=
  if item = 0 then some (leBytes 4 (pattern32 x.value).toNat ++ [BitVec.ofNat 8 (qualityCode x.quality)])
  else if item = 1 then
    some ([BitVec.ofNat 8 (qualityCode x.quality)] ++ leBytes 4 (slotAge now x))
  else if item = 2 then
    some [BitVec.ofNat 8 (qualityCode x.quality), BitVec.ofNat 8 (slotStation x),
      BitVec.ofNat 8 (slotRank x)]
  else none

/-- The data of READ-HEALTH for an index. -/
def healthReading (s : State) (index : Nat) : Option (List Byte) :=
  if h : index < 10 then
    some (leBytes 2 s.monitor[index].raw ++
      [BitVec.ofNat 8 s.monitor[index].normalized, BitVec.ofNat 8 s.monitor[index].worst,
        BitVec.ofNat 8 s.tables.health[index].threshold])
  else none

/-- The data of READ-DISTANCE for an item. -/
def distanceReading (s : State) (item : Nat) : Option (List Byte) :=
  let tail : List Byte := [BitVec.ofNat 8 (storeCode s.store.state)]
  if item = 0 then some (leBytes 4 s.distance.total ++ tail)
  else if item = 1 then some (leBytes 4 s.distance.tripA ++ tail)
  else if item = 2 then some (leBytes 4 s.distance.tripB ++ tail)
  else none

/-! ## The requests -/

/-- READ-STATE. -/
def replyReadState (args : List Byte) (s : State) : Reply :=
  match args with
  | item :: _ => readingReply (stateReading s item.toNat)
  | [] => .badArgument

/-- READ-SLOT. -/
def replyReadSlot (args : List Byte) (s : State) : Reply :=
  match args with
  | slot :: item :: _ =>
    readingReply ((s.slots[slot.toNat]?).bind (fun x => slotReading s.now x item.toNat))
  | [_] => .badArgument
  | [] => .badArgument

/-- READ-ROSTER. -/
def replyReadRoster (args : List Byte) (s : State) : Reply :=
  match args with
  | index :: _ => readingReply (if index.toNat ≤ 31 then rosterReading s index.toNat else none)
  | [] => .badArgument

/-- READ-HEALTH. -/
def replyReadHealth (args : List Byte) (s : State) : Reply :=
  match args with
  | index :: _ => readingReply (healthReading s index.toNat)
  | [] => .badArgument

/-- READ-DISTANCE. -/
def replyReadDistance (args : List Byte) (s : State) : Reply :=
  match args with
  | item :: _ => readingReply (distanceReading s item.toNat)
  | [] => .badArgument

/-- The arguments of TEST-OVERRIDE, where each is present and in range (Table 11-3). -/
def overrideArgs (args : List Byte) : Option (Pattern × Nat × Bool) :=
  match args with
  | pattern :: fraction :: beep :: _ =>
    if beep.toNat ≤ 1 then
      (decodePattern pattern.toNat).map (fun p => (p, fraction.toNat, beep.toNat == 1))
    else none
  | [_, _] => none
  | [_] => none
  | [] => none

/-- A TEST-OVERRIDE is refused in the present state (R169). -/
def overrideRefused (s : State) : Bool :=
  s.control.part != .run || s.service.override.red || s.service.override.inForce

/-- TEST-OVERRIDE, with the state it leaves (R169). -/
def takeTestOverride (args : List Byte) (s : State) : Reply × State :=
  match overrideArgs args with
  | some (p, fraction, beep) =>
    if overrideRefused s then (.notNow, s) else (.done [], startOverride p fraction beep s)
  | none => (.badArgument, s)

/-- END-OVERRIDE, with the state it leaves (R169). -/
def takeEndOverride (s : State) : Reply × State :=
  if s.service.override.inForce then (.done [], endOverride s) else (.notNow, s)

/-- CLEAR-HEALTH, with the state it leaves (R157, R168). -/
def takeClearHealth (s : State) : Reply × State := (.done [], requestWrite (clearMonitor s))

/-- ACK-ERROR-INDICATION, with the state it leaves (R165). -/
def takeAckError (s : State) : Reply × State :=
  (.done [], s.setControl { s.control with errorIndication := false })

/-- A request's execution by its code (Table 11-3). -/
def executeRequest (code : Nat) (args : List Byte) (s : State) : Reply × State :=
  if code = 1 then (replyReadState args s, s)
  else if code = 2 then (replyReadSlot args s, s)
  else if code = 3 then (replyReadRoster args s, s)
  else if code = 4 then (replyReadHealth args s, s)
  else if code = 5 then takeClearHealth s
  else if code = 6 then (replyReadDistance args s, s)
  else if code = 7 then takeTestOverride args s
  else if code = 8 then takeEndOverride s
  else if code = 9 then takeAckError s
  else (.unknownRequest, s)

/-- A request handed to the Service Responder; `payload` starts with the destination byte (R167). -/
def takeRequest (sender : Nat) (payload : List Byte) (s : State) : State :=
  if s.service.pendingReply then count 9 s
  else
    match payload with
    | _ :: code :: args =>
      placeReply sender code.toNat (executeRequest code.toNat args s).1
        (executeRequest code.toNat args s).2
    | [_] => s
    | [] => s

end Sys2Proof.Machine
end

