-- ==== Sys2Proof/Machine/Line.lean ====
section
/-! DEFINITION. The Line Controller (Chapter 9): receiving and judging frames, their delivery, the
outcome of the part's transmissions, muting, peer silence, sleep and wake. The transmit queue's placing
and starting are in Ops.lean. -/

namespace Sys2Proof.Machine

open Sys2Proof

/-! ## Receiving -/

/-- The line is being received: the part is awake and the first quiet line since the end of LOADING or
the last wake has passed (R140, R149). -/
def hearing (s : State) : Bool := s.control.part.awake && s.line.listening && !s.line.settling

/-- The effect of a start mark of another station (R142, R149). -/
def startMark (s : State) : State :=
  s.setLine { s.line with
    silenceDue := some (s.now + peerSilenceMs), peersQuiet := false, quiet := false, receiving := true }

/-- The start mark of a frame whose start mark was no command of its own
(notes/assumptions/11.md). -/
def ownStartMark (s : State) : State := if s.line.receiving then s else startMark s

/-- The frame on the line has ended; the acknowledge slot was driven dominant or not (R143). -/
def frameOver (acknowledged : Bool) (s : State) : State :=
  s.setLine { s.line with receiving := false, quiet := false, acknowledged := acknowledged }

/-- The part acknowledges good frames (R143). -/
def acknowledges (s : State) : Bool :=
  match s.line.state with
  | .active => true
  | .muted => true
  | .listenOnly => false

/-- A SERVICE REQUEST payload names a destination station. -/
def addressedTo (own : Nat) (payload : List Byte) : Bool :=
  match payload with
  | d :: _ => d.toNat == own
  | [] => false

/-- The system consumers of a topic beyond the roster's hearing: TIME MARK and PRESENCE (Table 9-3). -/
def deliverSystem (topic sender : Nat) (payload : List Byte) (s : State) : State :=
  if topic = 1 then takeMark sender payload s
  else if topic = 2 then takePresence payload s
  else s

/-- The Service Responder takes a SERVICE REQUEST addressed to the part (Table 9-3). -/
def deliverRequest (topic sender : Nat) (payload : List Byte) (s : State) : State :=
  if topic = 126 ∧ addressedTo s.tables.ownStation payload = true then takeRequest sender payload s else s

/-- A good frame's consumers, each in turn (R147, Table 9-3): the roster's hearing, the time mark or presence,
the intake map, the Service Responder (the order is the model's: DESIGN CHOICE, notes/assumptions/41.md). -/
def deliverFrame (topic sender : Nat) (payload : List Byte) (s : State) : State :=
  let s1 := deliverSystem topic sender payload (hearStation sender s)
  let s2 := if 8 ≤ topic then takeData topic sender payload s1 else s1
  deliverRequest topic sender payload s2

/-- A good frame: acknowledged, then delivered, or a station clash (R143, R147, R148). -/
def goodFrame (key : Key) (payload : List Byte) (s : State) : State :=
  let s1 := frameOver (acknowledges s) s
  if keySender key = s.tables.ownStation then count 5 s1
  else deliverFrame (keyTopic key) (keySender key) payload s1

/-- A frame's check and length are good (R140). -/
def isGood (f : Frame) : Bool :=
  decide (f.length.toNat ≤ 4) && decide (f.check.toNat = frameCheck f.key f.length.toNat f.payload)

/-- A frame of another station, judged (R140). -/
def judgeFrame (f : Frame) (s : State) : State :=
  if isGood f then goodFrame f.key f.payload s else count 2 (frameOver false s)

/-- The reception of a whole frame: nothing where the line is not being received (R140). -/
def receive (f : State → State) (s : State) : State :=
  if hearing s then f (ownStartMark s) else s

/-- The reception of a good frame of a key. -/
def receiveGood (urgency topic : Nat) (sender : BitVec 6) (payload : List Byte) (s : State) : State :=
  receive (goodFrame (makeKey urgency topic sender.toNat) payload) s

/-- The payload of a SERVICE REQUEST addressed to the part (Table 12-3). -/
def requestPayload (s : State) (code : Byte) (args : List Byte) : List Byte :=
  [BitVec.ofNat 8 s.tables.ownStation, code] ++ args

/-- The reception of a good SERVICE REQUEST addressed to the part. -/
def receiveRequest (sender : BitVec 6) (code : Byte) (args : List Byte) (s : State) : State :=
  receiveGood 6 126 sender (requestPayload s code args) s

/-- A start mark of another station while the part is awake (R142, R149). -/
def peerStart (s : State) : State :=
  if s.control.part.awake = true ∧ s.line.settling = false then startMark s else s

/-- The line becomes quiet (R142). A line on which the part is transmitting is not quiet. -/
def lineQuiet (s : State) : State :=
  if s.control.part.awake = true ∧ s.line.settling = false ∧ transmitting s.line.queue = false then
    tryTransmit (s.setLine { s.line with quiet := true, listening := true, receiving := false })
  else s

/-! ## The end of a transmission -/

/-- The entry IN-TRANSMISSION. -/
def sentEntry (q : List TxEntry) : Option TxEntry := q.find? (fun e => e.state == .inTransmission)

/-- The queue without the entry IN-TRANSMISSION. -/
def withoutSent (q : List TxEntry) : List TxEntry := q.filter (fun e => e.state != .inTransmission)

/-- The queue with the entry IN-TRANSMISSION returned to WAITING. -/
def withReturned (q : List TxEntry) : List TxEntry := q.map (fun e => { e with state := .waiting })

/-- The entry IN-TRANSMISSION leaves the queue, and its placing block is told how (R151). -/
def removeSent (e : TxEntry) (how : Leaving) (s : State) : State :=
  reportLeaving e.kind e.payload how (s.setLine { s.line with queue := withoutSent s.line.queue })

/-- The entry IN-TRANSMISSION returns to WAITING, or is superseded by a newer WAITING copy of its
periodic kind (R151). One whose transmission outlasted the entry to SLEEP is not retried: it is DISCARDED
(R149). -/
def returnEntry (e : TxEntry) (s : State) : State :=
  if e.kind.periodic ∧ s.line.queue.any (waitingOfKind e.kind) then removeSent e .superseded s
  else if s.line.sleepPending then removeSent e .discarded s
  else s.setLine { s.line with queue := withReturned s.line.queue }

/-- One transmit failure; the sixteenth starts a muting (R144, R145). -/
def countFailure (s : State) : State :=
  let s1 := count 3 (s.setLine { s.line with failures := s.line.failures + 1 })
  if 16 ≤ s1.line.failures ∧ s1.line.state = .active then
    count 3 (s1.setLine { s1.line with state := .muted, mutingDue := some (s1.now + mutingMs) })
  else s1

/-- The outcome of a transmission (R144). -/
def takeOutcome (o : TxOutcome) (e : TxEntry) (s : State) : State :=
  match o with
  | .sent => removeSent e .sent (s.setLine { s.line with failures := 0 })
  | .lostArbitration => returnEntry e s
  | .corrupted => countFailure (returnEntry e s)
  | .unheard => countFailure (returnEntry e s)

/-! ## Sleep and wake -/

/-- Reports that each entry left the queue (R151). -/
def discardAll (q : List TxEntry) (s : State) : State :=
  q.foldl (fun t e => reportLeaving e.kind e.payload .discarded t) s

/-- The state the line takes up at the entry to SLEEP (R149). -/
def restedLine (l : LineState) : LineState :=
  match l with
  | .listenOnly => .listenOnly
  | .active => .active
  | .muted => .active

/-- What the Line Controller does at the entry to SLEEP, once no transmission is in progress (R149). The placing
order restarts with this emptying of the queue and at power-on, not when the last entry leaves as SENT (R150;
DESIGN CHOICE, notes/assumptions/45.md). -/
def restLine (s : State) : State :=
  discardAll s.line.queue (s.setLine { s.line with
    state := restedLine s.line.state, queue := [], lastOrder := 0, failures := 0, mutingDue := none,
    silenceDue := none, quiet := false, listening := false, receiving := false, sleepPending := false })

/-- The entry to SLEEP at the Line Controller: a transmission in progress runs to its end (R149). -/
def sleepLine (s : State) : State :=
  if transmitting s.line.queue then
    s.setLine { s.line with sleepPending := true, silenceDue := none, mutingDue := none }
  else restLine s

/-- A wake that comes before the transmission in progress has ended empties the queue of the entries that wait, as
the entry to SLEEP calls for; the transmission runs on (R149; DEDUCED, notes/assumptions/12.md). -/
def discardWaiting (s : State) : State :=
  discardAll (withoutSent s.line.queue) (s.setLine { s.line with
    queue := s.line.queue.filter (fun e => e.state == .inTransmission) })

/-- A wake at the Line Controller: the oscillator settles before anything is received or sent, and the
line is not quiet of peers until the timer next expires (R149, R163). -/
def wakeLine (s : State) : State :=
  let s1 := if s.line.sleepPending then discardWaiting s else s
  s1.setLine { s1.line with
    settling := true, quiet := false, listening := false, receiving := false, peersQuiet := false }

/-- What the entry to SLEEP left to do, once the transmission that outlasted it has ended: all of it in SLEEP; after
a wake what does not touch the queue, which holds the frames placed since, nor the peer silence timer (R149;
DEDUCED, notes/assumptions/12.md). -/
def finishSleep (s : State) : State :=
  if s.control.part.awake then
    s.setLine { s.line with
      state := restedLine s.line.state, failures := 0, mutingDue := none, sleepPending := false }
  else restLine s

/-- The oscillator has settled: the peer silence timer starts and a quiet line is awaited (R149). -/
def oscillatorReady (s : State) : State :=
  if s.control.part.awake = true ∧ s.line.settling = true then
    s.setLine { s.line with settling := false, silenceDue := some (s.now + peerSilenceMs) }
  else s

/-- The frame the part lost arbitration to is on the line; its start mark restarts the peer silence
timer (R141, R149). -/
def afterOutcome (o : TxOutcome) (s : State) : State :=
  match o with
  | .lostArbitration => if hearing s then startMark s else s
  | .sent => s
  | .corrupted => s
  | .unheard => s

/-- The transmission in progress ends (R144); one that outlasted the entry to SLEEP is followed by what
that entry left to do (R149). -/
def endTransmission (o : TxOutcome) (s : State) : State :=
  match sentEntry s.line.queue with
  | some e =>
    let s1 := afterOutcome o (takeOutcome o e s)
    if s1.line.sleepPending then finishSleep s1 else s1
  | none => s

/-- The end of a muting (R145). -/
def endMuting (s : State) : State :=
  tryTransmit (s.setLine { s.line with state := .active, failures := 0, mutingDue := none })

/-- The expiry of the peer silence timer (R149). -/
def peersSilent (s : State) : State :=
  s.setLine { s.line with silenceDue := none, peersQuiet := true }

end Sys2Proof.Machine
end

