-- ==== Sys2Proof/Machine/Control.lean ====
section
/-! DEFINITION. The State Controller (11.1 to 11.4): the end of LOADING, the start of a cycle, ignition
off, after-run, SLEEP and the wakes; and what every command ends with: the delivery of the reports
between blocks, the test for SLEEP and the composition of the screen. -/

namespace Sys2Proof.Machine

open Sys2Proof

/-! ## Start of a cycle, ignition off -/

/-- The State Controller's own items at START entry (R161). -/
def startControl (s : State) : State :=
  s.setControl { s.control with
    part := .start, ready := false, afterRunDue := none, provingEnded := false,
    startDone := Vector.replicate 6 false }

/-- START entry at the Readout Unit (R78, R79, R82). -/
def startReadout (s : State) : State :=
  let s1 := startPopups (s.setReadout { s.readout with windowDue := none })
  s1.setReadout { s1.readout with page := homePage s1.tables }

/-- START entry (R161). -/
def enterStart (s : State) : State :=
  restartStatus statusFastMs
    (startRoster (startReadout (clearChime true (startTelltale (startGauges (startControl s))))))

/-- The current page becomes the home page (R79). -/
def pageHome (s : State) : State := s.setReadout { s.readout with page := homePage s.tables }

/-- Ignition off in START or RUN: the entry to AFTER-RUN (R162). -/
def enterAfterRun (s : State) : State :=
  endOverride (pageHome (clearChime false (ignitionOffTelltale (ignitionOffGauges
    (s.setControl { s.control with part := .afterRun, afterRunDue := some (s.now + afterRunMs) })))))

/-! ## LISTENING and SLEEP -/

/-- The entry to LISTENING from LOADING or AFTER-RUN: lamps OFF, readout dark, slow status (R159,
R162). -/
def enterListening (s : State) : State :=
  let s1 := s.setControl { s.control with part := .listening, afterRunDue := none }
  restartStatus statusSlowMs (enterLamps .off (s1.setReadout { s1.readout with windowDue := none }))

/-- The after-run expiry: the flush, then LISTENING (R162). -/
def endAfterRun (s : State) : State := enterListening (requestWrite s)

/-- The entry to LISTENING from SLEEP: both periodic timers restart with a bulletin each (R163). -/
def wakeToListening (s : State) : State :=
  let s1 := wakeLine s
  restartDistanceReport (restartStatus statusSlowMs
    (s1.setControl { s1.control with part := .listening }))

/-- The wake by the line (R149, R163). -/
def wakeByLine (s : State) : State := if s.control.part = .sleep then wakeToListening s else s

/-- The wake by PAGE: LISTENING with the window started on the home page (R92, R163). -/
def wakeByPage (s : State) : State :=
  let s1 := pageHome s
  wakeToListening (s1.setReadout { s1.readout with windowDue := some (s1.now + listeningWindowMs) })

/-- The wake by ignition on: START (R161, R163, R166). -/
def wakeByIgnition (s : State) : State := restartDistanceReport (enterStart (wakeLine s))

/-- The three conditions of R163. -/
def sleepReady (s : State) : Bool :=
  s.control.part == .listening && s.line.peersQuiet && storeIdle s && !readoutLit s

/-- Enters SLEEP in the event that makes the three conditions true (R163). -/
def trySleep (s : State) : State :=
  if sleepReady s then
    sleepLine (s.setControl { s.control with part := .sleep, statusDue := none, distanceDue := none })
  else s

/-! ## Ignition -/

/-- The debounced ignition has become on (R161). -/
def ignitionOn (s : State) : State :=
  match s.control.part with
  | .afterRun => enterStart s
  | .listening => enterStart s
  | .sleep => wakeByIgnition s
  | .loading => s
  | .start => s
  | .run => s

/-- The debounced ignition has become off (R161, R162). -/
def ignitionOff (s : State) : State :=
  match s.control.part with
  | .start => enterAfterRun s
  | .run => enterAfterRun s
  | .loading => s
  | .afterRun => s
  | .listening => s
  | .sleep => s

/-! ## LOADING -/

/-- A button found PRESSED at the end of LOADING is given the held mark (R89). -/
def ButtonInput.holdPressed (b : ButtonInput) : ButtonInput := if b.pressed then { b with held := true } else b

/-- What the end of LOADING does before a part state is entered: line state, peer silence timer, the
sampling timers, the buttons, the evaluation of demands, pop-up 56, the error indication, the first
screen write and the home page (R52, R76, R79, R89, R102, R112, R146, R149, R159). -/
def finishLoading (s : State) : State :=
  let s1 := s.setLine { s.line with
    state := if s.control.fallback then .listenOnly else .active
    silenceDue := some (s.now + peerSilenceMs) }
  let s2 := s1.setDriver { s1.driver with sampleDue := some (s1.now + speedSampleMs) }
  let s3 := s2.setDistance { s2.distance with sampleDue := some (s2.now + distanceSampleMs) }
  let s4 := s3.setReadout { s3.readout with
    ackButton := s3.readout.ackButton.holdPressed
    pageButton := s3.readout.pageButton.holdPressed
    tripButton := s3.readout.tripButton.holdPressed }
  let s5 := beginEvaluating s4
  let s6 := if s5.control.fallback then postPopup 56 .urgent false s5 else s5
  let s7 := if s6.control.fallback = true ∨ s6.store.state = .failed then setErrorIndication s6 else s6
  pageHome (firstWrite s7)

/-- The end of LOADING (R159). -/
def endLoading (s : State) : State :=
  let s1 := finishLoading s
  restartDistanceReport (if s1.control.ignition then enterStart s1 else enterListening s1)

/-- LOADING ends once the restore is complete and the first ignition debounce expiry has been taken
(R159). -/
def tryEndLoading (s : State) : State :=
  if s.control.part = .loading ∧ s.control.load = .restored ∧ s.control.debounced = true then endLoading s
  else s

/-- The part is reading the image, or a store slot of the restore. -/
def loadingPhase (p : LoadPhase) (s : State) : Bool :=
  decide (s.control.part = .loading) && decide (s.control.load = p)

/-- The image has been read (R159). -/
def imageRead (area : List Byte) (s : State) : State :=
  if loadingPhase .readingImage s then takeImage area s else s

/-- The restore is complete: its effect, then the end of LOADING where it is due (R126, R159). -/
def restoreDone (readable : Bool) (s : State) : State :=
  let s1 := restore readable s
  tryEndLoading (s1.setControl { s1.control with load := .restored, readDue := none })

/-- A store slot has been read during the restore (R125). -/
def restoreSlot (bytes : List Byte) (s : State) : State :=
  if loadingPhase .restoring s then
    let s1 := s.setStore { s.store with
      restoreNext := s.store.restoreNext + 1
      found := foundWith s.store.restoreNext bytes s.store.found }
    if 20 ≤ s1.store.restoreNext then restoreDone true s1
    else s1.setControl { s1.control with readDue := some (s1.now + memoryAnswerMs) }
  else s

/-- The memory has not answered a LOADING read within 20 ms (R125, R159). -/
def loadingReadFailed (s : State) : State :=
  if loadingPhase .readingImage s then handOut fallbackTables true s
  else if loadingPhase .restoring s then restoreDone false s
  else s

/-- The ignition debounce expiry (R159, R161). -/
def debounceIgnition (s : State) : State :=
  let s1 := s.setControl { s.control with ignitionDue := none, debounced := true }
  if s1.control.ignitionRaw = s1.control.ignition then tryEndLoading s1
  else
    let s2 := s1.setControl { s1.control with ignition := s1.control.ignitionRaw }
    tryEndLoading (if s2.control.ignition then ignitionOn s2 else ignitionOff s2)

/-- A change of the raw ignition level restarts the debounce timer (R159). -/
def ignitionInput (level : Bool) (s : State) : State :=
  if level = s.control.ignitionRaw then s
  else s.setControl { s.control with
    ignitionRaw := level, ignitionDue := some (s.now + ignitionDebounceMs) }

/-- The supply-low event (R164). -/
def supplyLowEvent (s : State) : State :=
  let s1 := s.setControl { s.control with supplyLow := true }
  if s1.control.part.awake then requestWrite s1 else s1

/-! ## Periodic bulletins -/

/-- The expiry of the cluster status timer, due at `due` (R166). -/
def statusExpiry (due : Nat) (s : State) : State :=
  placeStatus (s.setControl { s.control with statusDue := some (due + s.control.statusPeriod) })

/-- The expiry of the distance report timer, due at `due` (R166). -/
def distanceReportExpiry (due : Nat) (s : State) : State :=
  placeDistanceReport (s.setControl { s.control with distanceDue := some (due + distanceReportMs) })

/-! ## What every command ends with -/

/-- Delivers the reports to the Telltale Unit in the order they were handed on, those they give rise to after
them (notes/assumptions/7.md). -/
def settle : Nat → State → State
  | 0, s => s.setReports []
  | n + 1, s =>
    match s.reports with
    | [] => s
    | r :: rs => settle n (takeSource r.source r.on (s.setReports rs))

/-- Rounds of delivery for the reports that wait at the end of a command: theirs, and room for all that they
can give rise to, a change or two of each attribute's exceedance and one of each gauge's fault
(`settle_complete` shows that none is left undelivered). -/
abbrev settleFuel (s : State) : Nat := s.reports.length + 64

/-- The end of every command. -/
def finish (s : State) : State := refreshScreen (trySleep (settle (settleFuel s) s))

/-- A command's outcome from its effect: no command stops the part. -/
def complete (f : State → State) (s : State) : Host.Outcome State Fault Refusal :=
  .next (finish (f (s.setReports [])))

end Sys2Proof.Machine
end

