-- ==== Sys2Proof/Machine/DriverCommands.lean ====
section
/-! DEFINITION. The commands of the Driver Time Unit (Chapter 6).
Each command's meaning completes its effect (Control.lean). -/

namespace Sys2Proof.Machine

open Sys2Proof

/-- R107, R108: a TIME MARK frame. -/
def execTimeMark (sender : BitVec 6) (payload : List Byte) (s : State) : Host.Outcome State Fault Refusal :=
  complete (receiveGood 0 1 sender payload) s

/-- R98: a driver record goes STALE. -/
def execDriverStaleExpiry (driver : Fin 2) (s : State) : Host.Outcome State Fault Refusal :=
  complete (fun t => onExpiry (driverStaleDue t driver) (fun _ => staleDriver driver) t) s

/-- R99: a second mark. -/
def execSecondMark (driver : Fin 2) (s : State) : Host.Outcome State Fault Refusal :=
  complete (fun t => onExpiry (secondMarkDue t driver) (fun _ => takeSecondMark driver) t) s

/-- R102: the speed sample of the Driver Time Unit. -/
def execDriverSpeedSample (s : State) : Host.Outcome State Fault Refusal :=
  complete (fun t => onExpiry t.driver.sampleDue driverSampleAt t) s

/-- R109: a slew step. -/
def execSlewStep (s : State) : Host.Outcome State Fault Refusal :=
  complete
    (fun t => onExpiry t.driver.clock.slewDue (fun due u => putClock (u.driver.clock.slewed due) u) t) s

/-- R110: HOLDOVER. -/
def execHoldoverExpiry (s : State) : Host.Outcome State Fault Refusal :=
  complete
    (fun t => onExpiry t.driver.clock.holdoverDue (fun _ u => putClock u.driver.clock.holdOver u) t) s

/-- R111: a whole second of the wall clock. -/
def execClockSecond (s : State) : Host.Outcome State Fault Refusal :=
  complete passSecond s

end Sys2Proof.Machine
end

