-- ==== Sys2Proof/Machine/GaugeCommands.lean ====
section
/-! DEFINITION. The commands of the Signal Table and the Gauge Engine (Chapters 1 and 2).
Each command's meaning completes its effect (Control.lean). -/

namespace Sys2Proof.Machine

open Sys2Proof

/-- R17, R18: a slot goes STALE. -/
def execStaleExpiry (slot : Fin 64) (s : State) : Host.Outcome State Fault Refusal :=
  complete (fun t => onExpiry (staleDue t slot) (fun _ => staleSlot slot) t) s

/-- R23 to R32, R39: one motion period of a channel. -/
def execMotionPeriod (gauge : Fin 6) (s : State) : Host.Outcome State Fault Refusal :=
  complete (fun t => onExpiry (channelOf t gauge).periodDue (motionWork gauge) t) s

/-- R36, R37: a stall. -/
def execStall (gauge : Fin 6) (s : State) : Host.Outcome State Fault Refusal :=
  complete (stallChannel gauge) s

/-- R34: the hold ends. -/
def execHoldExpiry (gauge : Fin 6) (s : State) : Host.Outcome State Fault Refusal :=
  complete (fun t => onExpiry (channelOf t gauge).holdDue (fun _ => endHoldOf gauge) t) s

/-- R26: standstill mode. -/
def execStandstillExpiry (gauge : Fin 6) (s : State) : Host.Outcome State Fault Refusal :=
  complete (fun t => onExpiry (channelOf t gauge).standDue (fun _ => standstillOn gauge) t) s

/-- R40: the never-grace timer. -/
def execNeverGraceExpiry (s : State) : Host.Outcome State Fault Refusal :=
  complete (fun t => onExpiry (graceDue t) (fun _ => expireGrace) t) s

/-- R44: a band becomes ACTIVE. -/
def execPersistenceExpiry (gauge : Fin 6) (band : Fin 2) (s : State) : Host.Outcome State Fault Refusal :=
  complete
    (fun t => onExpiry (persistenceDue t gauge band) (fun _ => putBand gauge band .active) t) s

end Sys2Proof.Machine
end

