-- ==== Sys2Proof/Machine/LineCommands.lean ====
section
/-! DEFINITION. The commands of the vehicle line (Chapter 9) and the two periodic bulletins (R166).
Each command's meaning completes its effect (Control.lean). -/

namespace Sys2Proof.Machine

open Sys2Proof

/-- R149, R163: the line wakes the part. -/
def execLineWake (s : State) : Host.Outcome State Fault Refusal :=
  complete wakeByLine s

/-- R149: the oscillator has settled. -/
def execOscillatorSettled (s : State) : Host.Outcome State Fault Refusal :=
  complete oscillatorReady s

/-- R142: the line is quiet. -/
def execQuietLine (s : State) : Host.Outcome State Fault Refusal :=
  complete lineQuiet s

/-- R140, R143, R147, R148: a frame of another station. -/
def execFrameReceived (frame : Frame) (s : State) : Host.Outcome State Fault Refusal :=
  complete (receive (judgeFrame frame)) s

/-- R144, R145, R149, R151: the outcome of the transmission in progress. -/
def execTransmissionEnd (outcome : TxOutcome) (s : State) : Host.Outcome State Fault Refusal :=
  complete (endTransmission outcome) s

/-- R145: the muting ends. -/
def execMutingExpiry (s : State) : Host.Outcome State Fault Refusal :=
  complete (fun t => onExpiry t.line.mutingDue (fun _ => endMuting) t) s

/-- R149: the line has been quiet of peers for 10 s. -/
def execPeerSilenceExpiry (s : State) : Host.Outcome State Fault Refusal :=
  complete (fun t => onExpiry t.line.silenceDue (fun _ => peersSilent) t) s

/-- R166: CLUSTER STATUS. -/
def execClusterStatusTimer (s : State) : Host.Outcome State Fault Refusal :=
  complete (fun t => onExpiry t.control.statusDue statusExpiry t) s

/-- R166: DISTANCE REPORT. -/
def execDistanceReportTimer (s : State) : Host.Outcome State Fault Refusal :=
  complete (fun t => onExpiry t.control.distanceDue distanceReportExpiry t) s

/-- R142, R149: a start mark of another station. -/
def execPeerStartMark (s : State) : Host.Outcome State Fault Refusal :=
  complete peerStart s

end Sys2Proof.Machine
end

