-- ==== Sys2Proof/Machine/PowerCommands.lean ====
section
/-! DEFINITION. The commands of power, LOADING, ignition and supply (11.1 to 11.3).
Each command's meaning completes its effect (Control.lean). -/

namespace Sys2Proof.Machine

open Sys2Proof

/-- R159: every block takes its power-on values; the commands that wait are kept. -/
def execPowerOn (levels : InputLevels) (s : State) : Host.Outcome State Fault Refusal :=
  .next ((State.powerOn levels).setPending s.pending)

/-- R159, R160: the image is checked, the tables or the fallback are handed out, the restore starts. -/
def execConfigImageRead (area : List Byte) (s : State) : Host.Outcome State Fault Refusal :=
  complete (imageRead area) s

/-- R125, R126: one store slot of the restore; the last completes it. -/
def execRestoreSlotRead (bytes : List Byte) (s : State) : Host.Outcome State Fault Refusal :=
  complete (restoreSlot bytes) s

/-- R125, R159: the memory does not answer a LOADING read. -/
def execMemoryReadTimeout (s : State) : Host.Outcome State Fault Refusal :=
  complete (fun t => onExpiry t.control.readDue (fun _ => loadingReadFailed) t) s

/-- R159: the raw ignition level. -/
def execIgnitionInputChange (level : Bool) (s : State) : Host.Outcome State Fault Refusal :=
  complete (ignitionInput level) s

/-- R159, R161, R162: the debounced ignition. -/
def execIgnitionDebounceExpiry (s : State) : Host.Outcome State Fault Refusal :=
  complete (fun t => onExpiry t.control.ignitionDue (fun _ => debounceIgnition) t) s

/-- R162: the flush, then LISTENING. -/
def execAfterRunExpiry (s : State) : Host.Outcome State Fault Refusal :=
  complete (fun t => onExpiry t.control.afterRunDue (fun _ => endAfterRun) t) s

/-- R164: the emergency flush. -/
def execSupplyLow (s : State) : Host.Outcome State Fault Refusal :=
  complete supplyLowEvent s

end Sys2Proof.Machine
end

