-- ==== Sys2Proof/Machine/Controls.lean ====
section
/-! DEFINITION. The three push-buttons (5.7). -/

namespace Sys2Proof.Machine

open Sys2Proof

/-- A button's input. -/
def buttonOf (s : State) (b : Button) : ButtonInput :=
  match b with
  | .ack => s.readout.ackButton
  | .page => s.readout.pageButton
  | .trip => s.readout.tripButton

/-- A button's input becomes `x`. -/
def putButton (b : Button) (x : ButtonInput) (s : State) : State :=
  match b with
  | .ack => s.setReadout { s.readout with ackButton := x }
  | .page => s.setReadout { s.readout with pageButton := x }
  | .trip => s.setReadout { s.readout with tripButton := x }

/-- A change of the raw level restarts the debounce timer (R89). -/
def buttonInput (b : Button) (raw : Bool) (s : State) : State :=
  if raw = (buttonOf s b).raw then s
  else putButton b { buttonOf s b with raw := raw, debounceDue := some (s.now + buttonDebounceMs) } s

/-- The listening window starts or restarts (R78). -/
def restartWindow (s : State) : State :=
  s.setReadout { s.readout with windowDue := some (s.now + listeningWindowMs) }

/-- One ACK event at the four blocks (R90). -/
def ackEvent (s : State) : State :=
  let s1 := ackRoster (ackTelltale (ackChime (ackPopup s)))
  s1.setReadout { s1.readout with ackCount := (s1.readout.ackCount + 1) % 16 }

/-- An ACK short press by part state (Table 5-5). -/
def ackShort (s : State) : State :=
  match s.control.part with
  | .start => ackEvent s
  | .run => ackEvent s
  | .afterRun => ackEvent s
  | .listening => if s.readout.windowDue.isSome then restartWindow (ackEvent s) else s
  | .loading => s
  | .sleep => s

/-- The advance of the page, unless it is covered (R79, R91). -/
def advancePage (s : State) : State :=
  if pageCovered s then s
  else s.setReadout { s.readout with page := nextPage s.tables.pages s.readout.page }

/-- A PAGE short press by part state (R92, Table 5-5). -/
def pageShort (s : State) : State :=
  match s.control.part with
  | .run => advancePage s
  | .afterRun => advancePage s
  | .listening =>
    if s.readout.windowDue.isSome then restartWindow (advancePage s) else restartWindow (pageHome s)
  | .start => s
  | .loading => s
  | .sleep => s

/-- A trip reset on the page shown (R93). -/
def resetShownTrip (s : State) : State :=
  if pageCovered s then s
  else
    match s.readout.page with
    | .distance => resetTripA s
    | .tripB => resetTripB s
    | .driver1 => s
    | .driver2 => s
    | .clock => s

/-- A TRIP long press by part state (R93, Table 5-5). -/
def tripLong (s : State) : State :=
  match s.control.part with
  | .run => resetShownTrip s
  | .afterRun => resetShownTrip s
  | .start => s
  | .listening => s
  | .loading => s
  | .sleep => s

/-- A short press; one of TRIP is refused in every state (Table 5-5). -/
def shortPress (b : Button) (s : State) : State :=
  match b with
  | .ack => ackShort s
  | .page => pageShort s
  | .trip => s

/-- A long press; one of ACK or PAGE is refused in every state (Table 5-5). -/
def longPress (b : Button) (s : State) : State :=
  match b with
  | .trip => tripLong s
  | .ack => s
  | .page => s

/-- The debounced state has become PRESSED: the long-press timer starts; PAGE in SLEEP is the wake and
is given the held mark (R89, R92). -/
def buttonPressed (b : Button) (s : State) : State :=
  let x := { buttonOf s b with
    debounceDue := none, pressed := true, longDue := some (s.now + longPressMs) }
  if b = .page ∧ s.control.part = .sleep then wakeByPage (putButton b { x with held := true } s)
  else putButton b x s

/-- The debounced state has become RELEASED: a short press, unless the long press was given or the
button is held; the held mark is cleared (R89). -/
def buttonReleased (b : Button) (s : State) : State :=
  let x := buttonOf s b
  let s1 := putButton b { x with debounceDue := none, pressed := false, longDue := none, held := false } s
  if x.held = false ∧ x.longDue.isSome = true then shortPress b s1 else s1

/-- The expiry of a button's debounce timer (R89). -/
def debounceButton (b : Button) (s : State) : State :=
  let x := buttonOf s b
  if x.raw = x.pressed then putButton b { x with debounceDue := none } s
  else if x.raw then buttonPressed b s
  else buttonReleased b s

/-- The expiry of a button's long-press timer (R89). -/
def longPressExpired (b : Button) (s : State) : State :=
  let x := buttonOf s b
  let s1 := putButton b { x with longDue := none } s
  if x.pressed = true ∧ x.held = false then longPress b s1 else s1

/-- The expiry of the listening window (R78). -/
def closeWindow (s : State) : State := s.setReadout { s.readout with windowDue := none }

end Sys2Proof.Machine
end

