-- ==== Sys2Proof/Machine/ReadoutCommands.lean ====
section
/-! DEFINITION. The commands of the Readout Unit and its buttons (Chapter 5).
Each command's meaning completes its effect (Control.lean). -/

namespace Sys2Proof.Machine

open Sys2Proof

/-- R85, R88: a mark of the time shown. -/
def execPopupTimeMark (mark : PopupMark) (s : State) : Host.Outcome State Fault Refusal :=
  complete (popupMark mark) s

/-- R76: a screen write completes. -/
def execDisplayWriteComplete (s : State) : Host.Outcome State Fault Refusal :=
  complete screenWritten s

/-- R89: the raw level of a button. -/
def execButtonInputChange (button : Button) (pressed : Bool) (s : State) : Host.Outcome State Fault Refusal :=
  complete (buttonInput button pressed) s

/-- R89 to R92: the debounced state of a button. -/
def execButtonDebounceExpiry (button : Button) (s : State) : Host.Outcome State Fault Refusal :=
  complete (fun t => onExpiry (buttonOf t button).debounceDue (fun _ => debounceButton button) t) s

/-- R89, R93: a long press. -/
def execLongPressExpiry (button : Button) (s : State) : Host.Outcome State Fault Refusal :=
  complete (fun t => onExpiry (buttonOf t button).longDue (fun _ => longPressExpired button) t) s

/-- R78: the readout goes dark. -/
def execListeningWindowExpiry (s : State) : Host.Outcome State Fault Refusal :=
  complete (fun t => onExpiry t.readout.windowDue (fun _ => closeWindow) t) s

end Sys2Proof.Machine
end

