-- ==== Sys2Proof/Machine/RosterCommands.lean ====
section
/-! DEFINITION. The commands of the Roster Unit (Chapter 8).
Each command's meaning completes its effect (Control.lean). -/

namespace Sys2Proof.Machine

open Sys2Proof

/-- R129, R136, R138: a PRESENCE frame. -/
def execPresence (sender : BitVec 6) (payload : List Byte) (s : State) : Host.Outcome State Fault Refusal :=
  complete (receiveGood 1 2 sender payload) s

/-- R136: the reply delay ends. -/
def execPresenceReplyDelayEnd (s : State) : Host.Outcome State Fault Refusal :=
  complete (fun t => onExpiry (replyDue t) (fun _ => endReplyDelay) t) s

/-- R130: one silence limit. -/
def execSilenceMark (entry : Fin 24) (s : State) : Host.Outcome State Fault Refusal :=
  complete
    (fun t => onExpiry (quietDue 1 t entry.val) (fun _ => changeEntry entry.val RosterEntry.silenceMark) t) s

/-- R130: three silence limits. -/
def execLossMark (entry : Fin 24) (s : State) : Host.Outcome State Fault Refusal :=
  complete
    (fun t => onExpiry (quietDue 3 t entry.val) (fun _ => changeEntry entry.val RosterEntry.lossMark) t) s

/-- R132: the census window closes. -/
def execCensusClose (s : State) : Host.Outcome State Fault Refusal :=
  complete (fun t => onExpiry t.roster.censusDue (fun _ => closeCensus) t) s

end Sys2Proof.Machine
end

