-- ==== Sys2Proof/Machine/ServiceCommands.lean ====
section
/-! DEFINITION. The service requests addressed to the part, and the override timer (11.5, 11.6).
Each command's meaning completes its effect (Control.lean). -/

namespace Sys2Proof.Machine

open Sys2Proof

/-- R167, R168: READ-STATE. -/
def execReadState (sender : BitVec 6) (args : List Byte) (s : State) : Host.Outcome State Fault Refusal :=
  complete (receiveRequest sender 1 args) s

/-- R19, R167, R168: READ-SLOT. -/
def execReadSlot (sender : BitVec 6) (args : List Byte) (s : State) : Host.Outcome State Fault Refusal :=
  complete (receiveRequest sender 2 args) s

/-- R139, R167, R168: READ-ROSTER. -/
def execReadRoster (sender : BitVec 6) (args : List Byte) (s : State) : Host.Outcome State Fault Refusal :=
  complete (receiveRequest sender 3 args) s

/-- R158, R167, R168: READ-HEALTH. -/
def execReadHealth (sender : BitVec 6) (args : List Byte) (s : State) : Host.Outcome State Fault Refusal :=
  complete (receiveRequest sender 4 args) s

/-- R157, R167, R168: CLEAR-HEALTH. -/
def execClearHealth (sender : BitVec 6) (args : List Byte) (s : State) : Host.Outcome State Fault Refusal :=
  complete (receiveRequest sender 5 args) s

/-- R167, R168: READ-DISTANCE. -/
def execReadDistance (sender : BitVec 6) (args : List Byte) (s : State) : Host.Outcome State Fault Refusal :=
  complete (receiveRequest sender 6 args) s

/-- R41, R63, R167 to R169: TEST-OVERRIDE. -/
def execTestOverride (sender : BitVec 6) (args : List Byte) (s : State) : Host.Outcome State Fault Refusal :=
  complete (receiveRequest sender 7 args) s

/-- R42, R64, R167 to R169: END-OVERRIDE. -/
def execEndOverride (sender : BitVec 6) (args : List Byte) (s : State) : Host.Outcome State Fault Refusal :=
  complete (receiveRequest sender 8 args) s

/-- R165, R167, R168: ACK-ERROR-INDICATION. -/
def execAckErrorIndication (sender : BitVec 6) (args : List Byte) (s : State) : Host.Outcome State Fault Refusal :=
  complete (receiveRequest sender 9 args) s

/-- R169: the override timer. -/
def execOverrideExpiry (s : State) : Host.Outcome State Fault Refusal :=
  complete (fun t => onExpiry t.service.override.due (fun _ => endOverride) t) s

/-- R167: a code that Table 11-3 does not give. -/
def execUnknownRequest (sender : BitVec 6) (code : Byte) (args : List Byte) (s : State) : Host.Outcome State Fault Refusal :=
  complete (receiveRequest sender code args) s

end Sys2Proof.Machine
end

