-- ==== Sys2Proof/Machine/StoreCommands.lean ====
section
/-! DEFINITION. The commands of the Distance Unit and the Record Store (Chapter 7).
Each command's meaning completes its effect (Control.lean). -/

namespace Sys2Proof.Machine

open Sys2Proof

/-- R113, R114, R117: the speed sample of the Distance Unit. -/
def execDistanceSample (s : State) : Host.Outcome State Fault Refusal :=
  complete (fun t => onExpiry t.distance.sampleDue distanceSampleAt t) s

/-- R121: programming is complete. -/
def execProgrammingComplete (s : State) (attempt : Nat := 0) : Host.Outcome State Fault Refusal :=
  complete (programmingDone attempt) s

/-- R121 to R124: the read-back. -/
def execReadBackComplete (bytes : List Byte) (s : State) (attempt : Nat := 0) :
    Host.Outcome State Fault Refusal :=
  complete (readBack attempt bytes) s

/-- R121, R122: an attempt fails by time. -/
def execWriteAttemptTimeout (s : State) : Host.Outcome State Fault Refusal :=
  complete (fun t => onExpiry (attemptDue t) (fun _ => attemptTimedOut) t) s

end Sys2Proof.Machine
end

