-- ==== Sys2Proof/Machine/WarningCommands.lean ====
section
/-! DEFINITION. The commands of the Telltale Unit and the Chime Unit (Chapters 3 and 4).
Each command's meaning completes its effect (Control.lean). -/

namespace Sys2Proof.Machine

open Sys2Proof

/-- R62: the end of proving. -/
def execProvingExpiry (s : State) : Host.Outcome State Fault Refusal :=
  complete (fun t => onExpiry t.telltale.provingDue (fun _ => endProving) t) s

/-- R58: a phase of a lamp pattern ends. -/
def execLampPhaseExpiry (output : Fin 32) (s : State) : Host.Outcome State Fault Refusal :=
  complete (fun t => onExpiry (phaseDueOf t output) (lampPhase output) t) s

/-- R65, R66: a load fault. -/
def execLampLoadFault (output : Fin 32) (kind : LoadKind) (s : State) : Host.Outcome State Fault Refusal :=
  complete (loadFault output kind) s

/-- R68: a beep or a gap ends. -/
def execChimePatternTimer (s : State) : Host.Outcome State Fault Refusal :=
  complete (fun t => onExpiry t.chime.phaseDue chimeMark t) s

end Sys2Proof.Machine
end

