-- ==== Sys2Proof/Machine/Dispatch.lean ====
section
/-! DEFINITION. Which meaning each command has: one arm for each row of spec/opcode_table.json. -/

namespace Sys2Proof.Machine

open Sys2Proof

/-- A command's effect on everything but the queue. -/
def exec (i : Instr) (s : State) : Host.Outcome State Fault Refusal :=
  match i with
  | .powerOn levels => Sys2Proof.Machine.execPowerOn levels s
  | .configImageRead area => Sys2Proof.Machine.execConfigImageRead area s
  | .restoreSlotRead bytes => Sys2Proof.Machine.execRestoreSlotRead bytes s
  | .memoryReadTimeout => Sys2Proof.Machine.execMemoryReadTimeout s
  | .ignitionInputChange level => Sys2Proof.Machine.execIgnitionInputChange level s
  | .ignitionDebounceExpiry => Sys2Proof.Machine.execIgnitionDebounceExpiry s
  | .afterRunExpiry => Sys2Proof.Machine.execAfterRunExpiry s
  | .supplyLow => Sys2Proof.Machine.execSupplyLow s
  | .lineWake => Sys2Proof.Machine.execLineWake s
  | .oscillatorSettled => Sys2Proof.Machine.execOscillatorSettled s
  | .quietLine => Sys2Proof.Machine.execQuietLine s
  | .frameReceived frame => Sys2Proof.Machine.execFrameReceived frame s
  | .timeMark sender payload => Sys2Proof.Machine.execTimeMark sender payload s
  | .presence sender payload => Sys2Proof.Machine.execPresence sender payload s
  | .presenceReplyDelayEnd => Sys2Proof.Machine.execPresenceReplyDelayEnd s
  | .readState sender args => Sys2Proof.Machine.execReadState sender args s
  | .readSlot sender args => Sys2Proof.Machine.execReadSlot sender args s
  | .readRoster sender args => Sys2Proof.Machine.execReadRoster sender args s
  | .readHealth sender args => Sys2Proof.Machine.execReadHealth sender args s
  | .clearHealth sender args => Sys2Proof.Machine.execClearHealth sender args s
  | .readDistance sender args => Sys2Proof.Machine.execReadDistance sender args s
  | .testOverride sender args => Sys2Proof.Machine.execTestOverride sender args s
  | .endOverride sender args => Sys2Proof.Machine.execEndOverride sender args s
  | .ackErrorIndication sender args => Sys2Proof.Machine.execAckErrorIndication sender args s
  | .overrideExpiry => Sys2Proof.Machine.execOverrideExpiry s
  | .transmissionEnd outcome => Sys2Proof.Machine.execTransmissionEnd outcome s
  | .mutingExpiry => Sys2Proof.Machine.execMutingExpiry s
  | .peerSilenceExpiry => Sys2Proof.Machine.execPeerSilenceExpiry s
  | .clusterStatusTimer => Sys2Proof.Machine.execClusterStatusTimer s
  | .distanceReportTimer => Sys2Proof.Machine.execDistanceReportTimer s
  | .staleExpiry slot => Sys2Proof.Machine.execStaleExpiry slot s
  | .motionPeriod gauge => Sys2Proof.Machine.execMotionPeriod gauge s
  | .stall gauge => Sys2Proof.Machine.execStall gauge s
  | .holdExpiry gauge => Sys2Proof.Machine.execHoldExpiry gauge s
  | .standstillExpiry gauge => Sys2Proof.Machine.execStandstillExpiry gauge s
  | .neverGraceExpiry => Sys2Proof.Machine.execNeverGraceExpiry s
  | .persistenceExpiry gauge band => Sys2Proof.Machine.execPersistenceExpiry gauge band s
  | .provingExpiry => Sys2Proof.Machine.execProvingExpiry s
  | .lampPhaseExpiry output => Sys2Proof.Machine.execLampPhaseExpiry output s
  | .lampLoadFault output kind => Sys2Proof.Machine.execLampLoadFault output kind s
  | .chimePatternTimer => Sys2Proof.Machine.execChimePatternTimer s
  | .popupTimeMark mark => Sys2Proof.Machine.execPopupTimeMark mark s
  | .displayWriteComplete => Sys2Proof.Machine.execDisplayWriteComplete s
  | .buttonInputChange button pressed => Sys2Proof.Machine.execButtonInputChange button pressed s
  | .buttonDebounceExpiry button => Sys2Proof.Machine.execButtonDebounceExpiry button s
  | .longPressExpiry button => Sys2Proof.Machine.execLongPressExpiry button s
  | .listeningWindowExpiry => Sys2Proof.Machine.execListeningWindowExpiry s
  | .driverStaleExpiry driver => Sys2Proof.Machine.execDriverStaleExpiry driver s
  | .secondMark driver => Sys2Proof.Machine.execSecondMark driver s
  | .driverSpeedSample => Sys2Proof.Machine.execDriverSpeedSample s
  | .slewStep => Sys2Proof.Machine.execSlewStep s
  | .holdoverExpiry => Sys2Proof.Machine.execHoldoverExpiry s
  | .clockSecond => Sys2Proof.Machine.execClockSecond s
  | .distanceSample => Sys2Proof.Machine.execDistanceSample s
  | .programmingComplete attempt => Sys2Proof.Machine.execProgrammingComplete s attempt
  | .readBackComplete bytes attempt => Sys2Proof.Machine.execReadBackComplete bytes s attempt
  | .writeAttemptTimeout => Sys2Proof.Machine.execWriteAttemptTimeout s
  | .silenceMark entry => Sys2Proof.Machine.execSilenceMark entry s
  | .lossMark entry => Sys2Proof.Machine.execLossMark entry s
  | .censusClose => Sys2Proof.Machine.execCensusClose s
  | .peerStartMark => Sys2Proof.Machine.execPeerStartMark s
  | .unknownRequest sender code args => Sys2Proof.Machine.execUnknownRequest sender code args s

end Sys2Proof.Machine
end

