-- ==== Sys2Proof/Machine/Timers.lean ====
section
/-! DEFINITION. The passing of time: the part's timers in one fixed order, which of them have reached their
moments, and the tick the part makes on an empty queue (notes/assumptions/2.md). -/

namespace Sys2Proof.Machine

open Sys2Proof

/-- The timer whose expiry a command is: the moment it is due, inner `none` where it is stopped. -/
def timerOf (c : Instr) (s : State) : Option (Option Nat) :=
  match c with
  | .memoryReadTimeout => some s.control.readDue
  | .ignitionDebounceExpiry => some s.control.ignitionDue
  | .afterRunExpiry => some s.control.afterRunDue
  | .presenceReplyDelayEnd => some (replyDue s)
  | .overrideExpiry => some s.service.override.due
  | .mutingExpiry => some s.line.mutingDue
  | .peerSilenceExpiry => some s.line.silenceDue
  | .clusterStatusTimer => some s.control.statusDue
  | .distanceReportTimer => some s.control.distanceDue
  | .staleExpiry n => some (staleDue s n)
  | .motionPeriod g => some (channelOf s g).periodDue
  | .holdExpiry g => some (channelOf s g).holdDue
  | .standstillExpiry g => some (channelOf s g).standDue
  | .neverGraceExpiry => some (graceDue s)
  | .persistenceExpiry g i => some (persistenceDue s g i)
  | .provingExpiry => some s.telltale.provingDue
  | .lampPhaseExpiry o => some (phaseDueOf s o)
  | .chimePatternTimer => some s.chime.phaseDue
  | .buttonDebounceExpiry b => some (buttonOf s b).debounceDue
  | .longPressExpiry b => some (buttonOf s b).longDue
  | .listeningWindowExpiry => some s.readout.windowDue
  | .driverStaleExpiry d => some (driverStaleDue s d)
  | .secondMark d => some (secondMarkDue s d)
  | .driverSpeedSample => some s.driver.sampleDue
  | .slewStep => some s.driver.clock.slewDue
  | .holdoverExpiry => some s.driver.clock.holdoverDue
  | .distanceSample => some s.distance.sampleDue
  | .writeAttemptTimeout => some (attemptDue s)
  | .silenceMark i => some (quietDue 1 s i.val)
  | .lossMark i => some (quietDue 3 s i.val)
  | .censusClose => some s.roster.censusDue
  | .powerOn _ => none
  | .configImageRead _ => none
  | .restoreSlotRead _ => none
  | .ignitionInputChange _ => none
  | .supplyLow => none
  | .lineWake => none
  | .oscillatorSettled => none
  | .quietLine => none
  | .frameReceived _ => none
  | .timeMark _ _ => none
  | .presence _ _ => none
  | .readState _ _ => none
  | .readSlot _ _ => none
  | .readRoster _ _ => none
  | .readHealth _ _ => none
  | .clearHealth _ _ => none
  | .readDistance _ _ => none
  | .testOverride _ _ => none
  | .endOverride _ _ => none
  | .ackErrorIndication _ _ => none
  | .transmissionEnd _ => none
  | .stall _ => none
  | .lampLoadFault _ _ => none
  | .popupTimeMark _ => none
  | .displayWriteComplete => none
  | .buttonInputChange _ _ => none
  | .clockSecond => none
  | .programmingComplete _ => none
  | .readBackComplete _ _ => none
  | .peerStartMark => none
  | .unknownRequest _ _ _ => none

/-- A timer is running and its moment has come. -/
def isDue (now : Nat) (due : Option Nat) : Bool :=
  match due with
  | some d => decide (d ≤ now)
  | none => false

/-- The timer of a command has come due: it is running, and its moment has come. -/
def timerDue (c : Instr) (s : State) : Bool :=
  match timerOf c s with
  | some due => isDue s.now due
  | none => false

/-- The SHOWING pop-up has reached a mark that applies to it, and the mark has still its effect. -/
def markReached (s : State) (m : PopupMark) : Bool :=
  match showingPopup s.readout.queue with
  | some e =>
    readoutLit s && markApplies m e
      && (if markEnds m then decide (popupMarkMs m ≤ e.timeShown) else decide (e.timeShown = popupMarkMs m))
  | none => false

/-- The wall clock has passed a whole second that is not reported (R111). -/
def secondPassed (s : State) : Bool :=
  s.driver.clock.state != .unset && s.driver.clock.reported != some s.driver.clock.seconds

/-- A roster entry is PRESENT; in any other state its silence mark has no effect (R130). -/
def entryPresent (s : State) (i : Fin 24) : Bool :=
  (s.roster.entries[i.val]?).any (fun e => e.state == .present)

/-- Whether what a timer's command tells of has come about and the command has still its effect. -/
def reached (s : State) (c : Instr) : Bool :=
  match c with
  | .popupTimeMark m => markReached s m
  | .clockSecond => secondPassed s
  | .silenceMark i => timerDue c s && entryPresent s i
  | _ => timerDue c s

/-- The commands of a gauge's timers. -/
def gaugeTimers (g : Fin 6) : List Instr :=
  [.holdExpiry g, .standstillExpiry g, .persistenceExpiry g 0, .persistenceExpiry g 1, .motionPeriod g]

/-- The commands of a roster entry's marks. -/
def entryTimers (i : Fin 24) : List Instr := [.silenceMark i, .lossMark i]

/-- The commands of a button's timers. -/
def buttonTimers (b : Button) : List Instr := [.longPressExpiry b, .buttonDebounceExpiry b]

/-- The commands of every timer of the part, in one fixed order. -/
def allTimers : List Instr :=
  [.slewStep, .clockSecond, .holdoverExpiry, .memoryReadTimeout, .ignitionDebounceExpiry]
    ++ (List.finRange 64).map .staleExpiry
    ++ [.neverGraceExpiry] ++ allGauges.flatMap gaugeTimers
    ++ (List.finRange 24).flatMap entryTimers
    ++ [.censusClose, .presenceReplyDelayEnd, .secondMark 0, .driverStaleExpiry 0, .secondMark 1,
        .driverStaleExpiry 1, .driverSpeedSample, .distanceSample, .writeAttemptTimeout, .overrideExpiry,
        .provingExpiry]
    ++ (List.finRange 32).map .lampPhaseExpiry
    ++ [.chimePatternTimer, .popupTimeMark .ms1000, .popupTimeMark .ms5000, .popupTimeMark .ms10000]
    ++ buttonTimers .ack ++ buttonTimers .page ++ buttonTimers .trip
    ++ [.listeningWindowExpiry, .afterRunExpiry, .mutingExpiry, .peerSilenceExpiry, .clusterStatusTimer,
        .distanceReportTimer]

/-- The first timer of a list that has been reached: its place and its command. -/
def firstReached (s : State) : Nat → List Instr → Option (Nat × Instr)
  | _, [] => none
  | i, c :: cs => if reached s c then some (i, c) else firstReached s (i + 1) cs

/-- The part on an empty queue: the command of the next timer, in the fixed order, that the present
millisecond has reached joins the queue; once there is none left, one millisecond passes. Each command is
looked for in the state that the one before it has left, so that no timer that one of them has stopped or
restarted expires (R78, R85). -/
def tick (s : State) : State :=
  match firstReached s s.scan (allTimers.drop s.scan) with
  | some (i, c) => (s.setPending [c]).setScan (i + 1)
  | none => (advance 1 s).setScan 0

end Sys2Proof.Machine
end

