-- ==== Sys2Proof/Safety.lean ====
section
/-! DEFINITION. What counts as a safe state: the laws of the part that the manual numbers (the first at
R27, the third at R120, the fifth at R60, the sixth at R84, the seventh at R70, the eighth at R150, the
ninth at R130, the eleventh at R155) and eight more invariants, each as a predicate on the state that every
step keeps. A law whose keeping rests on a range or a part state that the manual states elsewhere carries
that clause too. The second law (R115), the fourth (R100) and the tenth (R105) speak of more than one state
or of a payload: they are statements of their own. -/

namespace Sys2Proof.Machine

open Sys2Proof

/-- Channel states in which the pointer's position is known (R27: every state except UNHOMED, HOMING and
FAILED). -/
def knowsPosition : ChannelState → Bool
  | .unhomed => false
  | .homing => false
  | .failed => false
  | .sweeping => true
  | .tracking => true
  | .holding => true
  | .resting => true
  | .overridden => true
  | .parking => true
  | .parked => true

/-- A channel's pointer stands within 0..full scale wherever its position is known. -/
abbrev Channel.onDial (fullScale : Nat) (c : Channel) : Prop :=
  knowsPosition c.state = true → ∃ p, c.position = some p ∧ p ≤ fullScale

/-- The first law (R27); in LOADING, before the full scales are known, every channel is UNHOMED. -/
abbrev PointerLaw (s : State) : Prop :=
  (∀ g : Fin 6, (channelOf s g).onDial (gaugeRecord s g).fullScale)
    ∧ (s.control.part = .loading → ∀ g : Fin 6, (channelOf s g).state = .unhomed)

/-- The figures of a record lie in the ranges of Table 7-4. -/
abbrev StoredRecord.inRange (r : StoredRecord) : Prop :=
  r.total ≤ totalMax ∧ r.tripA ≤ tripMax ∧ r.tripB ≤ tripMax

/-- The ranges of Table 7-1; the records that the restore has found are in range too (R125). -/
abbrev DistanceLaw (s : State) : Prop :=
  s.distance.total ≤ totalMax ∧ s.distance.tripA ≤ tripMax ∧ s.distance.tripB ≤ tripMax
    ∧ s.distance.accumulator < unitSize ∧ s.distance.reference ≤ totalMax
    ∧ ∀ x ∈ s.store.found, x.2.inRange

/-- The third law (R120): the write in flight goes neither into the newest slot nor into a RETIRED
one. -/
abbrev StoreLaw (s : State) : Prop :=
  ∀ w, s.store.write = some w →
    s.store.newest ≠ some w.target ∧ slotLive s.store.retired w.target.val = true

/-- The sixth law (R84) on a pop-up queue: at most 8 entries, no two with one message number, one SHOWING
where there is any, and none of a higher class than the SHOWING one. -/
abbrev popupsLawful (q : List PopupEntry) : Prop :=
  q.length ≤ 8 ∧ (q.map (fun e => e.message)).Nodup
    ∧ (q.filter PopupEntry.isShowing).length ≤ 1
    ∧ (q ≠ [] → ∃ e ∈ q, e.isShowing = true)
    ∧ ∀ e ∈ q, e.isShowing = true → ∀ f ∈ q, f.cls.rank ≤ e.cls.rank

/-- The sixth law. -/
abbrev PopupLaw (s : State) : Prop := popupsLawful s.readout.queue

/-- A chime entry that competes for the sounder: WAITING, SOUNDING or PREEMPTED (R70). -/
def ChimeEntry.competes (e : ChimeEntry) : Bool :=
  match e.state with
  | .waiting => true
  | .sounding => true
  | .preempted => true
  | .silenced => false
  | .finished => false

/-- The seventh law (R70) on the Chime Unit: at most 16 entries, no two with one identity and none with an order
that has not been given yet; one of them SOUNDS where any competes, and it is the oldest of the highest group among
those that compete; the pattern timer runs while one SOUNDS (R68). -/
abbrev chimesLawful (c : Chime) : Prop :=
  c.entries.length ≤ 16 ∧ (c.entries.map (fun e => e.id)).Nodup
    ∧ (∀ e ∈ c.entries, e.order ≤ c.lastOrder)
    ∧ (c.entries.filter (fun e => e.state == .sounding)).length ≤ 1
    ∧ ((∃ f ∈ c.entries, f.competes = true) → ∃ e ∈ c.entries, e.state = .sounding)
    ∧ (∀ e ∈ c.entries, e.state = .sounding → ∀ f ∈ c.entries, f.competes = true →
        f.group.rank < e.group.rank ∨ f.group = e.group ∧ e.order ≤ f.order)
    ∧ (c.phaseDue.isSome = true ↔ ∃ e ∈ c.entries, e.state = .sounding)

/-- The seventh law. -/
abbrev ChimeLaw (s : State) : Prop := chimesLawful s.chime

/-- The eighth law (R150) on a transmit queue: at most 8 entries, at most one IN-TRANSMISSION, at most
one WAITING copy of each periodic kind. -/
abbrev queueLawful (q : List TxEntry) : Prop :=
  q.length ≤ 8 ∧ (q.filter (fun e => e.state == .inTransmission)).length ≤ 1
    ∧ ∀ k : TxKind, k.periodic = true → (q.filter (waitingOfKind k)).length ≤ 1

/-- The eighth law. -/
abbrev QueueLaw (s : State) : Prop := queueLawful s.line.queue

/-- The ninth law (R130): only a required entry is LOST, and only while its coupling reads COUPLED. -/
abbrev RosterLaw (s : State) : Prop :=
  ∀ e ∈ s.roster.entries, e.state = .lost → e.record.required = true ∧ e.uncoupled = false

/-- The figures of an attribute (R153 to R155): the worst value in 1..normalized, the normalized value
at most 100. -/
abbrev Attribute.lawful (a : Attribute) : Prop := 1 ≤ a.worst ∧ a.worst ≤ a.normalized ∧ a.normalized ≤ 100

/-- Ten worst values in 1..100. -/
abbrev blockInRange (b : Vector Nat 10) : Prop := ∀ h : Fin 10, 1 ≤ b[h] ∧ b[h] ≤ 100

/-- The eleventh law (R155); the health blocks that the restore has found are in range too (R125). The thresholds
are the image's (R152), and from the end of the restore on the normalized value and the exceedance are those that
the raw count gives (R154). -/
abbrev HealthLaw (s : State) : Prop :=
  (∀ h : Fin 10, s.monitor[h].lawful)
    ∧ (∀ x ∈ s.store.found, ∀ b, x.2.health = some b → blockInRange b)
    ∧ (∀ h : Fin 10, s.tables.health[h].threshold ≤ 99)
    ∧ ((s.control.part = .loading → s.control.load = .restored) → ∀ h : Fin 10,
        s.monitor[h].normalized = max 1 (100 - s.monitor[h].raw * s.tables.health[h].weight / 16)
        ∧ (s.monitor[h].exceeded = true ↔
            1 ≤ s.tables.health[h].threshold ∧ s.monitor[h].normalized ≤ s.tables.health[h].threshold))

/-- The GAUGE-FAULT condition kept for each gauge is the one R40 gives; in LOADING every channel is
UNHOMED, so that the tables handed out change no condition. -/
abbrev FaultLaw (s : State) : Prop :=
  (∀ g : Fin 6, (channelOf s g).fault = channelFault s g (channelOf s g))
    ∧ (s.control.part = .loading → ∀ g : Fin 6, (channelOf s g).state = .unhomed)

/-- The wall clock stands within the ranges of Table 6-7. -/
abbrev ClockLaw (s : State) : Prop :=
  s.driver.clock.seconds < 4294967296 ∧ s.driver.clock.ms < 1000
    ∧ -48 ≤ s.driver.clock.offset ∧ s.driver.clock.offset ≤ 56
    ∧ ∀ r, s.driver.clock.slew = some r → -2000 ≤ r ∧ r ≤ 2000

/-- A snapshot that a driver record keeps has a sequence number of one byte (R96, R97, Table 12-4). -/
abbrev SnapshotLaw (s : State) : Prop :=
  ∀ n : Fin 2, ∀ p, (driverRecord s n).snapshot = some p → p.sequence < 256

/-- A lamp that may stand in a part state: OFF in LOADING, LISTENING and SLEEP; PROVING or SHOWING in START, SHOWING
alone once proving has ended; SHOWING or OVERRIDDEN in RUN; AFTER-RUN in AFTER-RUN (R60, R62, R62a). -/
abbrev Lamp.mayStand (c : Control) (l : Lamp) : Prop :=
  (c.part = .loading → l.state = .off ∧ ∀ d ∈ l.demands, d.state = .inactive)
    ∧ (c.part = .start → l.state = .showing ∨ l.state = .proving ∧ c.provingEnded = false)
    ∧ (c.part = .run → l.state = .showing ∨ l.state = .overridden)
    ∧ (c.part = .afterRun → l.state = .afterRun)
    ∧ (c.part = .listening ∨ c.part = .sleep → l.state = .off)

/-- The lamps show what Table 3-10 gives (R59, R60, R63): each but an OVERRIDDEN one what its state and demands
call for, an OVERRIDDEN one the pattern of the override in force. An override is in force in RUN alone, and
never while a RED-class demand is ACTIVE (R57, R64, R169); the after-run timer, whose expiry makes the lamps
OFF, runs in AFTER-RUN alone (R162). -/
abbrev LampLaw (s : State) : Prop :=
  (∀ l ∈ s.telltale.lamps, l.mayStand s.control
      ∧ (l.state ≠ .overridden → l.shown = l.target)
      ∧ (l.state = .overridden →
          s.service.override.inForce = true ∧ l.shown = some s.service.override.pattern))
    ∧ (s.service.override.inForce = true → s.control.part = .run ∧ s.telltale.red = false)
    ∧ s.telltale.red = classActive .red s.telltale.lamps ∧ s.service.override.red = s.telltale.red
    ∧ (s.control.part = .loading → s.telltale.evaluating = false)
    ∧ (s.control.afterRunDue.isSome = true → s.control.part = .afterRun)

/-- The lamps stand in ascending order of output, the order in which their demands change and post (R52), and no two
of them drive one output (R46). -/
abbrev OutputsLaw (s : State) : Prop :=
  (s.telltale.lamps.map (fun l => l.output)).Pairwise (fun o p => o < p)

/-- The fifth law (R60): in RUN every lamp with an ACTIVE or LATCHED demand shows a pattern unless the test
override is in force. -/
abbrev FifthLaw (s : State) : Prop :=
  s.control.part = .run → s.service.override.inForce = false →
    ∀ l ∈ s.telltale.lamps, (∃ d ∈ l.demands, d.state ≠ .inactive) → l.shown.isSome = true

/-- The limits of Table 2-2 on a gauge record, as far as the built-in record of the fallback meets them
too. -/
abbrev gaugeWithinLimits (r : GaugeRecord) : Prop :=
  100 ≤ r.fullScale ∧ r.fullScale ≤ 8000 ∧ r.k ≤ 7 ∧ 1 ≤ r.speedLimit ∧ r.speedLimit ≤ 64
    ∧ 1 ≤ r.acceleration ∧ r.acceleration ≤ 16 ∧ 1 ≤ r.homingSpeed ∧ r.homingSpeed ≤ 32
    ∧ r.rest ≤ r.fullScale ∧ r.bands.length ≤ 2
    ∧ (∀ p ∈ r.breakpoints, p.position ≤ r.fullScale)
    ∧ ∀ st ∈ r.standstill, st.kFast ≤ 7

/-- The tables in force obey limits that the image check lays down (R20, R159). -/
abbrev TablesLaw (s : State) : Prop :=
  s.tables.ownStation ≤ 63 ∧ ∀ g : Fin 6, gaugeWithinLimits (gaugeRecord s g)

/-- The line in LOADING (R146). -/
abbrev LoadingLineLaw (s : State) : Prop :=
  s.control.part = .loading →
    s.line.state = .listenOnly ∧ s.line.queue = [] ∧ s.line.failures = 0 ∧ s.line.mutingDue = none
      ∧ s.line.silenceDue = none ∧ s.line.peersQuiet = false

/-- The three conditions of R163 do not stand together in LISTENING: the event that makes them true
enters SLEEP. -/
abbrev AwakeLaw (s : State) : Prop := sleepReady s = false

/-- A safe state: every law holds. -/
structure Safe (s : State) : Prop where
  pointer : PointerLaw s
  distance : DistanceLaw s
  store : StoreLaw s
  popups : PopupLaw s
  chimes : ChimeLaw s
  queue : QueueLaw s
  roster : RosterLaw s
  health : HealthLaw s
  fault : FaultLaw s
  clock : ClockLaw s
  tables : TablesLaw s
  loadingLine : LoadingLineLaw s
  lamps : LampLaw s
  outputs : OutputsLaw s
  awake : AwakeLaw s
  snapshots : SnapshotLaw s

end Sys2Proof.Machine
end

