-- ==== Sys2Proof/WellFormed.lean ====
section
/-! DEFINITION. Which command terms stand for an event that can reach the part: byte lists of the
lengths the line and the memory port carry. The machine gives every term a meaning; a term that is
not well-formed stands for no event. -/

namespace Sys2Proof

/-- A payload is 0 to 4 words of two bytes (Table 9-1). -/
def wordPayload (payload : List Byte) : Bool :=
  decide (payload.length ≤ 8) && decide (payload.length % 2 = 0)

/-- The payload read agrees with the length field; above 4 the part stops reading there (R140). -/
def Frame.wellFormed (f : Frame) : Bool :=
  if f.length.toNat ≤ 4 then decide (f.payload.length = 2 * f.length.toNat)
  else decide (f.payload = [])

/-- The argument bytes of a SERVICE REQUEST follow two bytes of a payload of whole words. -/
def requestArgs (args : List Byte) : Bool :=
  decide (args.length ≤ 6) && decide (args.length % 2 = 0)

/-- A store slot is 36 bytes (R171). -/
def slotBytes (bytes : List Byte) : Bool :=
  decide (bytes.length = 36)

/-- A code of Table 11-3. -/
def knownRequest (code : Byte) : Bool :=
  decide (1 ≤ code.toNat) && decide (code.toNat ≤ 9)

/-- The check on a command term. -/
def Instr.wellFormed : Instr → Bool
  | .configImageRead area => decide (area.length = 7168)
  | .restoreSlotRead bytes => slotBytes bytes
  | .readBackComplete bytes _ => slotBytes bytes
  | .frameReceived f => f.wellFormed
  | .timeMark _ payload => wordPayload payload
  | .presence _ payload => wordPayload payload
  | .readState _ args => requestArgs args
  | .readSlot _ args => requestArgs args
  | .readRoster _ args => requestArgs args
  | .readHealth _ args => requestArgs args
  | .clearHealth _ args => requestArgs args
  | .readDistance _ args => requestArgs args
  | .testOverride _ args => requestArgs args
  | .endOverride _ args => requestArgs args
  | .ackErrorIndication _ args => requestArgs args
  | .unknownRequest _ code args => requestArgs args && !knownRequest code
  | .powerOn _ => true
  | .memoryReadTimeout => true
  | .ignitionInputChange _ => true
  | .ignitionDebounceExpiry => true
  | .afterRunExpiry => true
  | .supplyLow => true
  | .lineWake => true
  | .oscillatorSettled => true
  | .quietLine => true
  | .presenceReplyDelayEnd => true
  | .overrideExpiry => true
  | .transmissionEnd _ => true
  | .mutingExpiry => true
  | .peerSilenceExpiry => true
  | .clusterStatusTimer => true
  | .distanceReportTimer => true
  | .staleExpiry _ => true
  | .motionPeriod _ => true
  | .stall _ => true
  | .holdExpiry _ => true
  | .standstillExpiry _ => true
  | .neverGraceExpiry => true
  | .persistenceExpiry _ _ => true
  | .provingExpiry => true
  | .lampPhaseExpiry _ => true
  | .lampLoadFault _ _ => true
  | .chimePatternTimer => true
  | .popupTimeMark _ => true
  | .displayWriteComplete => true
  | .buttonInputChange _ _ => true
  | .buttonDebounceExpiry _ => true
  | .longPressExpiry _ => true
  | .listeningWindowExpiry => true
  | .driverStaleExpiry _ => true
  | .secondMark _ => true
  | .driverSpeedSample => true
  | .slewStep => true
  | .holdoverExpiry => true
  | .clockSecond => true
  | .distanceSample => true
  | .programmingComplete _ => true
  | .writeAttemptTimeout => true
  | .silenceMark _ => true
  | .lossMark _ => true
  | .censusClose => true
  | .peerStartMark => true

end Sys2Proof
end

