-- ==== Sys2Proof/Certificates/Slice0/Obligations.lean ====
section
/-! DEFINITION. The statements about the model. A statement about a command concludes that exec answers a
next state and says what that state holds; what it leaves unchanged is said by `Kept`. The laws that stand
as premises (AwakeLaw, TablesLaw, FaultLaw and others) are invariants that statements of their own keep. -/

namespace Sys2Proof.Claims

open Sys2Proof Sys2Proof.Machine

/-! ## Codes (Tables 11-1, 12-3 and 12-5) -/

/-- The code of a part state (Table 11-1). -/
def partNumber : PartState → Nat
  | .loading => 0
  | .start => 1
  | .run => 2
  | .afterRun => 3
  | .listening => 4
  | .sleep => 5

/-- The code of a line state (Table 12-5). -/
def lineNumber : LineState → Nat
  | .active => 0
  | .muted => 1
  | .listenOnly => 2

/-- The code of a clock state (Table 12-5). -/
def clockNumber : ClockState → Nat
  | .unset => 0
  | .locked => 1
  | .slewing => 2
  | .holdover => 3

/-- The code of a store state (Table 12-3). -/
def storeNumber : StoreState → Nat
  | .good => 0
  | .degraded => 1
  | .failed => 2

/-- The code of a channel state (Table 12-5). -/
def channelNumber : ChannelState → Nat
  | .unhomed => 0
  | .homing => 1
  | .sweeping => 2
  | .tracking => 3
  | .holding => 4
  | .resting => 5
  | .overridden => 6
  | .parking => 7
  | .parked => 8
  | .failed => 9

/-- The code of a rest reason, 255 where it is absent (Table 12-5). -/
def restNumber : Option RestReason → Nat
  | some .stale => 0
  | some .absent => 1
  | some .faulted => 2
  | some .never => 3
  | some .disabled => 4
  | none => 255

/-- The code of a quality (Table 12-5). -/
def qualityNumber : Quality → Nat
  | .never => 0
  | .fresh => 1
  | .stale => 2
  | .absent => 3
  | .faulted => 4

/-- The code of a writer rank (Table 12-5). -/
def rankNumber : Rank → Nat
  | .primary => 0
  | .backup => 1

/-- The code of a roster entry's state (Table 12-5). -/
def entryNumber : EntryState → Nat
  | .unknown => 0
  | .present => 1
  | .silent => 2
  | .lost => 3
  | .absent => 4
  | .released => 5

/-! ## What a command leaves unchanged -/

/-- The parts of the state a frame speaks of, one for each field of `State` but the model's own reports; `queue`
is the queue of commands with the place in the order of the timers (log 2). -/
inductive Block where
  | time | tables | control | line | slots | gauges | telltale | chime | readout | driver | distance
  | store | roster | monitor | service | queue
  deriving DecidableEq, Repr

/-- The Readout Unit's items but for the contents that are composed anew at the end of every command
(R76). -/
def readoutCore (r : Readout) : Readout :=
  { r with composed := Screen.dark, writing := none, again := false }

/-- A part is the same in two states; of the Readout Unit, all but the screen contents. -/
abbrev agree (b : Block) (s t : State) : Prop :=
  match b with
  | .time => t.now = s.now
  | .tables => t.tables = s.tables
  | .control => t.control = s.control
  | .line => t.line = s.line
  | .slots => t.slots = s.slots
  | .gauges => t.gauges = s.gauges
  | .telltale => t.telltale = s.telltale
  | .chime => t.chime = s.chime
  | .readout => readoutCore t.readout = readoutCore s.readout
  | .driver => t.driver = s.driver
  | .distance => t.distance = s.distance
  | .store => t.store = s.store
  | .roster => t.roster = s.roster
  | .monitor => t.monitor = s.monitor
  | .service => t.service = s.service
  | .queue => t.pending = s.pending ∧ t.scan = s.scan

/-- Everything but the parts named is unchanged. -/
abbrev Kept (changed : List Block) (s t : State) : Prop := ∀ b, b ∉ changed → agree b s t

/-- The parts that a report between blocks can reach: a count at the Condition Monitor (R153), a demand's
condition with its lamps, postings and flags (R52 to R57), and the end of an override (R64, R169). -/
abbrev told : List Block := [.monitor, .telltale, .chime, .readout, .service, .gauges]

/-- A raw count after one more report (R153). -/
def oneMore (raw : Nat) : Nat := min 65535 (raw + 1)

/-- An attribute after one more report (R153 to R155). -/
def countedAttribute (c : HealthConfig) (a : Attribute) : Attribute :=
  let norm := max 1 (100 - oneMore a.raw * c.weight / 16)
  { raw := oneMore a.raw, normalized := norm, worst := min a.worst norm,
    exceeded := decide (1 ≤ c.threshold ∧ norm ≤ c.threshold) }

/-! ## Channels -/

/-- A channel after one period of the motion rule from position `p` toward a goal, the period having come due at
`d` (R23, R27, R28): C, s, dir, the coil drive and the stepping mark follow the rule, F is kept. -/
def drivenChannel (r : GaugeRecord) (goal p d : Nat) (c : Channel) : Channel :=
  let m := moveStep r.fullScale r.speedLimit r.acceleration goal
    { position := p, speed := c.speed, upward := c.upward }
  { c with
    position := some m.position, speed := m.speed, upward := m.upward, drive := (m.position : Int) - p
    stepping := decide (m.position ≠ p), periodDue := some (d + 10) }

/-! ## Timers -/

/-- The timer of a command has come due: it is running, and its moment has come. -/
abbrev cameDue (c : Instr) (d : Nat) (s : State) : Prop := timerOf c s = some (some d) ∧ d ≤ s.now

/-! ## Frames and requests -/

/-- The part receives from the line, and the sender is another station than the part's own number. -/
abbrev hears (sender : Nat) (s : State) : Prop := hearing s = true ∧ sender ≠ s.tables.ownStation

/-- The intake map matches no entry to a topic and sender. -/
abbrev noIntake (topic sender : Nat) (s : State) : Prop :=
  s.tables.intake.filter (entryMatches topic sender) = []

/-- Every roster entry of a station is PRESENT. -/
abbrev presentAlready (sender : Nat) (s : State) : Prop :=
  ∀ e ∈ s.roster.entries, e.record.station = sender → e.state = .present

/-- The line after a frame of another station (R142, R143). A frame command that finds no reception in progress
brings its start mark with it, which restarts the peer silence timer (R149; log 11). -/
def lineAfterFrame (acknowledged : Bool) (s : State) : Line :=
  if s.line.receiving then
    { s.line with receiving := false, quiet := false, acknowledged := acknowledged }
  else
    { s.line with
      silenceDue := some (s.now + 10000), peersQuiet := false, receiving := false, quiet := false,
      acknowledged := acknowledged }

/-- An entry of the transmit queue that waits. -/
def waitingEntry (s : State) (kind : TxKind) (payload : List Byte) (order : Nat) : TxEntry :=
  { key := txKey kind s.tables.ownStation, payload := payload, kind := kind, placer := txPlacer kind,
    order := order, state := .waiting }

/-- The queue once its first WAITING entry is started on the quiet line of an ACTIVE controller with nothing in
transmission; else the queue as it is (R142). -/
def startedQueue (quiet : Bool) (state : LineState) (q : List TxEntry) : List TxEntry :=
  if quiet = true ∧ state = .active ∧ transmitting q = false then
    match firstWaiting q with
    | some e => startEntry e q
    | none => q
  else q

/-- The queue after a frame of a periodic kind at a line that is not quiet: into the WAITING copy of its kind, else a
new entry where there is room, else dropped (R151). -/
def withPeriodic (s : State) (kind : TxKind) (payload : List Byte) (order : Nat) (q : List TxEntry) :
    List TxEntry :=
  if q.any (waitingOfKind kind) then
    q.map (fun e => if waitingOfKind kind e then { e with payload := payload } else e)
  else if q.length < 8 then q ++ [waitingEntry s kind payload order]
  else q

/-- A frame of a periodic kind is dropped: the queue is full and holds no WAITING copy of its kind (R151). -/
def dropsPeriodic (kind : TxKind) (q : List TxEntry) : Bool := decide (8 ≤ q.length) && !q.any (waitingOfKind kind)

/-- What the placing of a frame of a periodic kind does (R151), the control items apart: discarded in
LISTEN-ONLY; into the WAITING copy of its kind; admitted with a new order, where the first WAITING entry starts at
once on the quiet line of an ACTIVE controller with nothing in transmission (R142); or dropped, which counts toward
H9. -/
def Placed (kind : TxKind) (payload : List Byte) (s t : State) : Prop :=
  (s.line.state = .listenOnly → Kept [.control] s t)
  ∧ (s.line.state ≠ .listenOnly → s.line.queue.any (waitingOfKind kind) = true →
      t.line = { s.line with
        queue := s.line.queue.map (fun e => if waitingOfKind kind e then { e with payload := payload } else e) }
      ∧ Kept [.control, .line] s t)
  ∧ (s.line.state ≠ .listenOnly → s.line.queue.any (waitingOfKind kind) = false →
      s.line.queue.length < 8 →
      Kept [.control, .line] s t ∧ t.line.lastOrder = s.line.lastOrder + 1
      ∧ t.line.queue.length = s.line.queue.length + 1
      ∧ (∃ e ∈ t.line.queue, e.kind = kind ∧ e.payload = payload ∧ e.order = s.line.lastOrder + 1
          ∧ e.key = txKey kind s.tables.ownStation)
      ∧ (s.line.quiet = false ∨ s.line.state ≠ .active ∨ transmitting s.line.queue = true →
          t.line = { s.line with
            lastOrder := s.line.lastOrder + 1
            queue := s.line.queue ++ [waitingEntry s kind payload (s.line.lastOrder + 1)] })
      ∧ (s.line.quiet = true → s.line.state = .active → transmitting s.line.queue = false →
          ∃ e, firstWaiting (s.line.queue ++ [waitingEntry s kind payload (s.line.lastOrder + 1)]) = some e
            ∧ t.line = { s.line with
              lastOrder := s.line.lastOrder + 1, quiet := false
              queue := startEntry e (s.line.queue ++ [waitingEntry s kind payload (s.line.lastOrder + 1)]) }))
  ∧ (s.line.state ≠ .listenOnly → s.line.queue.any (waitingOfKind kind) = false →
      8 ≤ s.line.queue.length →
      t.line = s.line ∧ oneMore s.monitor[(9 : Fin 10)].raw ≤ t.monitor[(9 : Fin 10)].raw
      ∧ Kept ([.control] ++ told) s t)

/-- The state, with its rest reason, that a channel calls for, an override being in force or not (R31, Table
2-11). -/
def calledFor (s : State) (g : Fin 6) (inForce : Bool) (c : Channel) : ChannelState × Option RestReason :=
  if s.control.part.ignitionOff then (if c.position = some 0 then .parked else .parking, none)
  else if s.control.fallback then (.resting, some .disabled)
  else if inForce then (.overridden, none)
  else
    match (sourceSlot s g).quality with
    | .fresh => (.tracking, none)
    | .stale =>
      if c.holdSpent = true ∨ (gaugeRecord s g).holdTime = 0 then (.resting, some .stale) else (.holding, none)
    | .absent => (.resting, some .absent)
    | .faulted => (.resting, some .faulted)
    | .never => (.resting, some .never)

/-- A channel stands in a state with a rest reason. -/
abbrev channelIn (t : State) (g : Fin 6) (x : ChannelState × Option RestReason) : Prop :=
  (channelOf t g).state = x.1 ∧ (channelOf t g).rest = x.2

/-- What the end of an override leaves: the record not in force with its timer stopped, each OVERRIDDEN lamp
SHOWING and no other lamp in another state, each OVERRIDDEN channel in the state it calls for and no other
channel in another state (R31, R42, R64, R169). -/
abbrev overrideOver (s t : State) : Prop :=
  t.service.override.inForce = false ∧ t.service.override.due = none
    ∧ t.service.override.pattern = s.service.override.pattern
    ∧ t.telltale.lamps.map (fun l => (l.output, l.state))
        = s.telltale.lamps.map (fun l => (l.output, if l.state = .overridden then .showing else l.state))
    ∧ ∀ g : Fin 6, channelIn t g
        (if (channelOf s g).state = .overridden then calledFor s g false (channelOf s g)
         else ((channelOf s g).state, (channelOf s g).rest))

/-- The State Controller's items after the start-sequence report of a channel: disregarded outside START; in
START collected, and the last report that was missing enters RUN (R32, R161). -/
def afterStartReport (gauges : Vector GaugeRecord 6) (g : Fin 6) (k : Control) : Control :=
  if k.part = .start then
    if k.provingEnded = true ∧ ∀ g' : Fin 6, gauges[g'].enabled = true → g' = g ∨ k.startDone[g'] = true then
      { k with startDone := k.startDone.set g true, part := .run, ready := true }
    else { k with startDone := k.startDone.set g true }
  else k

/-- The line once the work of the entry to SLEEP is done (R149). -/
abbrev restedLineOf (l : Line) : Line :=
  { l with
    state := if l.state = .listenOnly then .listenOnly else .active
    queue := [], lastOrder := 0, failures := 0, mutingDue := none, silenceDue := none, quiet := false
    listening := false, receiving := false, sleepPending := false }

/-- What the entry to SLEEP makes of the line: its timers stop; with nothing in transmission the queue is
emptied and the line rests, and a transmission in progress runs to its end first (R149; that the timers stop
at the entry itself in that case is log 12). -/
abbrev lineAsleep (l m : Line) : Prop :=
  (transmitting l.queue = true →
      m = { l with sleepPending := true, silenceDue := none, mutingDue := none })
    ∧ (transmitting l.queue = false → m = restedLineOf l)

/-- A SERVICE REQUEST from a station is taken: the part hears it, no intake entry takes topic 126 from the sender,
and the mailbox is EMPTY. -/
abbrev requestTaken (sender : BitVec 6) (s : State) : Prop :=
  hears sender.toNat s ∧ noIntake 126 sender.toNat s ∧ s.service.pendingReply = false

/-- A reply that is placed is no drop: LISTEN-ONLY discards it, or the queue has room (R151). -/
abbrev replyTaken (s : State) : Prop := s.line.state = .listenOnly ∨ s.line.queue.length < 8

/-- The reply to a request, whose execution leaves H9 at `h9`: it stands last in the queue and the mailbox is
PENDING; or LISTEN-ONLY discards it and the mailbox is EMPTY again; or a full queue drops it, which counts toward
H9, and the mailbox is EMPTY again (R151, R167). The sender is heard. -/
abbrev answered (sender : BitVec 6) (code : Nat) (r : Reply) (h9 : Nat) (s t : State) : Prop :=
  t.roster = (hearStation sender.toNat s).roster
    ∧ (s.line.state = .listenOnly → t.line = lineAfterFrame false s ∧ t.service.pendingReply = false)
    ∧ (s.line.state ≠ .listenOnly → s.line.queue.length < 8 → t.service.pendingReply = true
        ∧ t.line = { lineAfterFrame true s with
            lastOrder := s.line.lastOrder + 1
            queue := s.line.queue ++ [waitingEntry s .serviceReply
              (replyPayload sender.toNat code r.code r.data) (s.line.lastOrder + 1)] })
    ∧ (s.line.state ≠ .listenOnly → 8 ≤ s.line.queue.length → t.service.pendingReply = false
        ∧ t.line = lineAfterFrame true s ∧ oneMore h9 ≤ t.monitor[(9 : Fin 10)].raw)

/-- The readings of Table 11-3 and the unknown request: sender, code and reply. -/
def readingOf (c : Instr) (s : State) : Option (BitVec 6 × Nat × Reply) :=
  match c with
  | .readState sender args => some (sender, 1, replyReadState args s)
  | .readSlot sender args => some (sender, 2, replyReadSlot args s)
  | .readRoster sender args => some (sender, 3, replyReadRoster args s)
  | .readHealth sender args => some (sender, 4, replyReadHealth args s)
  | .readDistance sender args => some (sender, 6, replyReadDistance args s)
  | .unknownRequest sender code _ =>
    if knownRequest code then none else some (sender, code.toNat, .unknownRequest)
  | _ => none

/-- The sender of a SERVICE REQUEST command. -/
def requestSender (c : Instr) : Option (BitVec 6) :=
  match c with
  | .readState sender _ => some sender
  | .readSlot sender _ => some sender
  | .readRoster sender _ => some sender
  | .readHealth sender _ => some sender
  | .clearHealth sender _ => some sender
  | .readDistance sender _ => some sender
  | .testOverride sender _ => some sender
  | .endOverride sender _ => some sender
  | .ackErrorIndication sender _ => some sender
  | .unknownRequest sender _ _ => some sender
  | _ => none

/-- The command that a request code names (Table 11-3). -/
def requestOf (sender : BitVec 6) (code : Byte) (args : List Byte) : Instr :=
  match code.toNat with
  | 1 => .readState sender args
  | 2 => .readSlot sender args
  | 3 => .readRoster sender args
  | 4 => .readHealth sender args
  | 5 => .clearHealth sender args
  | 6 => .readDistance sender args
  | 7 => .testOverride sender args
  | 8 => .endOverride sender args
  | 9 => .ackErrorIndication sender args
  | _ => .unknownRequest sender code args

/-- The bits of a word, the most significant first. -/
def wordBits {n : Nat} (x : BitVec n) : List Bool := (List.range n).map (fun i => x.getMsbD i)

/-- The CRC of a run of bits: polynomial x^16 + x^12 + x^5 + 1, the register all ones at first (R170). -/
def crcOf (bits : List Bool) : BitVec 16 :=
  bits.foldl (fun r b => if r.msb = b then r <<< 1 else (r <<< 1) ^^^ 0x1021#16) 0xFFFF#16

/-- A descriptor is short for a payload of n bytes (R9). -/
abbrev shortFor (d : Descriptor) (n : Nat) : Prop := 8 * n < d.start + d.length

/-- An arrival of a rank is applied to a slot (R14): a PRIMARY one always, a BACKUP one unless the slot is FRESH with
a PRIMARY writer. -/
abbrev arrivalApplied (rank : Rank) (x : Slot) : Prop :=
  rank = .primary ∨ x.quality ≠ .fresh ∨ x.writer.map (fun w => w.rank) ≠ some .primary

/-- The Signal Table after one descriptor of a matching entry (R9, R14 to R16). -/
def slotsAfter (sender limit now : Nat) (payload : List Byte) (v : Vector Slot 64) (d : Descriptor) :
    Vector Slot 64 :=
  if ¬ shortFor d payload.length ∧ arrivalApplied d.rank v[d.target] then
    v.set d.target (v[d.target].apply (interpretField d (extractField d payload))
      { rank := d.rank, staleLimit := limit, station := sender, time := now })
  else v

/-- The Signal Table after one matching entry (R5). -/
def entrySlots (sender now : Nat) (payload : List Byte) (v : Vector Slot 64) (e : IntakeEntry) :
    Vector Slot 64 :=
  if e.sink = .signals then e.descriptors.foldl (slotsAfter sender e.staleLimit now payload) v else v

/-- The short results of a frame at the descriptors of its matching SIGNALS entries (R9). -/
def shortResults (payload : List Byte) (es : List IntakeEntry) : Nat :=
  ((es.filter (fun e => e.sink == .signals)).flatMap (fun e => e.descriptors)).countP
    (fun d => decide (shortFor d payload.length))

/-! ## The motion of a pointer -/

/-- The stopping distance at a speed (R27): the sum of s - a, s - 2a, s - 3a and so on over the terms greater than
0. -/
def stopping (a s : Nat) : Nat := ((List.range s).map (fun i => s - (i + 1) * a)).sum

/-- The speed of case 3 of R27 over a distance: of the candidates min(s + a, v), s and max(s - a, 0) the largest from
which the pointer can stop within the distance, max(s - a, 0) where none can; where that is 0, the creep
min(distance, a, v). -/
abbrev caseThreeSpeed (v a s distance chosen : Nat) : Prop :=
  ∃ x, x ∈ [min (s + a) v, s, s - a]
    ∧ ((∃ c ∈ [min (s + a) v, s, s - a], c + stopping a c ≤ distance) →
        x + stopping a x ≤ distance ∧ ∀ c ∈ [min (s + a) v, s, s - a], c + stopping a c ≤ distance → c ≤ x)
    ∧ ((∀ c ∈ [min (s + a) v, s, s - a], distance < c + stopping a c) → x = s - a)
    ∧ chosen = if x = 0 then min distance (min a v) else x

/-- A pointer moves by some microsteps in a direction, clamped to 0..full scale (R27). -/
abbrev moved (fullScale p n : Nat) (upward : Bool) (q : Nat) : Prop :=
  (q : Int) = max 0 (min (fullScale : Int) (if upward then (p : Int) + n else p - n))

/-! ## The recorder's bulletins and notices -/

/-- A frame of another station on a data topic, of which one entry of the intake map alone takes the frame; topic
126 apart, which the Service Responder takes too. -/
abbrev takenBy (f : Frame) (e : IntakeEntry) (s : State) : Prop :=
  isGood f = true ∧ hears (keySender f.key) s ∧ 8 ≤ keyTopic f.key ∧ keyTopic f.key ≠ 126
    ∧ s.tables.intake.filter (entryMatches (keyTopic f.key) (keySender f.key)) = [e]

/-- A frame that the Service Responder takes as CLEAR-HEALTH (R157, R167, Table 11-3): a SERVICE REQUEST to the part
with code 5, at an EMPTY mailbox. -/
abbrev takenAsClear (f : Frame) (s : State) : Prop :=
  keyTopic f.key = 126 ∧ f.payload.take 2 = [BitVec.ofNat 8 s.tables.ownStation, 5]
    ∧ s.service.pendingReply = false

/-! ## Postings -/

/-- Postings are made (R55): in RUN, and in START once proving has expired. -/
abbrev postsMade (s : State) : Prop :=
  s.control.part = .run ∨ s.control.part = .start ∧ s.telltale.provingDue = none

/-- The page is covered (R91): a pop-up is SHOWING, or the test display of an override in force. -/
abbrev coveredPage (s : State) : Prop :=
  (∃ e ∈ s.readout.queue, e.state ≠ .queued) ∨ s.service.override.inForce = true

/-- The pop-ups that START entry posts, in their order, with their classes (R82, Table 5-3). -/
def startPosts (s : State) : List (Nat × Grade) :=
  (if s.control.fallback then [(56, .urgent)] else [])
    ++ (if s.store.state ≠ .good then [(61, .caution)] else [])
    ++ match s.driver.mailbox with
      | .full _ cls _ => [(64, cls)]
      | .empty => []
      | .assembling _ => []

/-- The pop-ups that the end of LOADING leaves, the debounced ignition being on or off (R82, R159, R161): with it on
those of the START entry, over the store as the restore leaves it; with it off the queue as it was, where under
fallback pop-up 56 joins it. -/
abbrev popupsAfterLoading (on : Bool) (s t : State) : Prop :=
  (on = true → t.readout.queue.map (fun e => (e.message, e.cls, e.nonLatched))
      = (startPosts (s.setStore t.store)).map (fun x => (x.1, x.2, false)))
    ∧ (on = false → s.control.fallback = false → t.readout.queue = s.readout.queue)
    ∧ (on = false → s.control.fallback = true → s.readout.queue = [] → t.readout.queue
        = [{ message := 56, cls := .urgent, nonLatched := false, order := s.readout.lastOrder + 1,
             state := .showing 0 }])
    ∧ (on = false → s.control.fallback = true →
        s.readout.queue.length < 8 ∨ (∃ e ∈ s.readout.queue, e.message = 56) →
        ∃ e ∈ t.readout.queue, e.message = 56 ∧ e.cls = .urgent ∧ e.nonLatched = false)

/-- What preemption and selection make of a pop-up queue (R84): a SHOWING entry of the highest class present stays as
it is, and so does the queue; where none is SHOWING, or one of a class that a QUEUED entry exceeds, the oldest QUEUED
entry of the highest class among the QUEUED shows from time shown 0 and every other is QUEUED. -/
abbrev settledFrom (q after : List PopupEntry) : Prop :=
  (q = [] → after = [])
    ∧ (∀ e ∈ q, e.isShowing = true → (∀ f ∈ q, f.cls.rank ≤ e.cls.rank) → after = q)
    ∧ (q ≠ [] → (∀ e ∈ q, e.isShowing = true → ∃ f ∈ q, e.cls.rank < f.cls.rank) →
        ∃ e ∈ q, e.state = .queued
          ∧ (∀ f ∈ q, f.state = .queued → f.cls.rank < e.cls.rank ∨ f.cls = e.cls ∧ e.order ≤ f.order)
          ∧ after = q.map (fun x => { x with state := if x.message = e.message then .showing 0 else .queued }))

/-- What START entry leaves of the blocks, the line, the pop-ups and the counts apart: enabled channels HOMING with
their items cleared, bands INACTIVE and the never-grace timer running (R30, R40, R43), proved lamps PROVING and no
load fault recorded (R62, R65), the chime list empty and accepting (R75), the home page with the window stopped (R78,
R79), the census window open, the roster entries restarted and a reply delay stopped (R131, R136). -/
structure StartEntered (s t : State) : Prop where
  grace : t.gauges.grace = .running (s.now + 2000)
  channels : ∀ g : Fin 6, (gaugeRecord s g).enabled = true →
    (channelOf t g).state = .homing ∧ (channelOf t g).position = none ∧ (channelOf t g).speed = 0
      ∧ (channelOf t g).damped = 0 ∧ (channelOf t g).stalls = 0 ∧ (channelOf t g).holdSpent = false
      ∧ (channelOf t g).holdDue = none ∧ (channelOf t g).periodDue = some (s.now + 10)
  bands : ∀ (g : Fin 6) (i : Fin 2), (channelOf t g).bands[i] = .inactive
  proving : t.telltale.provingDue = some (s.now + 3000)
  lamps : ∀ l ∈ t.telltale.lamps, l.state = if l.proved then .proving else .showing
  loads : ∀ o : Fin 32, t.telltale.loads[o] = { openSeen := false, shortSeen := false }
  chimes : t.chime.entries = [] ∧ t.chime.accepting = true
  page : t.readout.page = homePage s.tables ∧ t.readout.windowDue = none
  census : t.roster.censusComplete = false ∧ t.roster.censusDue = some (s.now + 1500)
  unlisted : t.roster.unlisted = s.roster.unlisted
  entries : t.roster.entries = s.roster.entries.map (fun e =>
    { e with state := if e.uncoupled then .released else .unknown, acknowledged := false, quietStart := none })
  reply : s.roster.reply ≠ .queued → t.roster.reply = .none

/-- The ACTIVE demands in the order of output and index, with their chime identity, their lamp's class and their
record. -/
def activeDemands (s : State) : List (ChimeId × LampClass × DemandRecord) :=
  s.telltale.lamps.flatMap (fun l =>
    (l.demands.zipIdx.filter (fun x => x.1.state == .active)).map
      (fun x => (.demand l.output x.2, l.cls, x.1.record)))

/-- The RED lamps whose output has a load fault recorded (R66). -/
def faultyRedLamps (s : State) : List Lamp :=
  s.telltale.lamps.filter (fun l => l.cls == .red
    && (s.telltale.loads[l.output].openSeen || s.telltale.loads[l.output].shortSeen))

/-- The posting of a demand's chime (R55). -/
def chimePosted (u : State) (x : ChimeId × LampClass × DemandRecord) : State :=
  match x.2.2.chime with
  | some g => postChime x.1 g u
  | none => u

/-- The posting of a demand's pop-up, in the class of its lamp (R55, Table 3-8). -/
def popupPosted (u : State) (x : ChimeId × LampClass × DemandRecord) : State :=
  match x.2.2.message with
  | some m => postPopup m (popupClass x.2.1) (!x.2.2.latching) u
  | none => u

/-- The posting of pop-up 57 (R66). -/
def faultPosted (u : State) (_ : Lamp) : State := postPopup 57 .caution false u

/-! ## The screen -/

/-- The characters of a line as the module shows them. -/
def shown (cs : List Char) : List Glyph := cs.map (fun c => .char (BitVec.ofNat 7 c.toNat))

/-- A run of spaces. -/
def spaces (n : Nat) : List Char := List.replicate n ' '

/-- The last decimal digit of a number. -/
def lastDigit (n : Nat) : Char := Char.ofNat (48 + n % 10)

/-- Two digits with a leading zero. -/
def pair (n : Nat) : List Char := [lastDigit (n / 10), lastDigit n]

/-- A figure of whole minutes, or not available (R80). -/
def hourMinute : Option Nat → List Char
  | some m => pair (m / 60) ++ [':'] ++ pair (m % 60)
  | none => ['-', '-', ':', '-', '-']

/-- A distance in units of 10 m as kilometres to one decimal (R81). -/
def kilometres (d : Nat) : List Char := Nat.toDigits 10 (d / 100) ++ ['.', lastDigit (d / 10)]

/-- A line with a name, a distance that ends in column 17, and km in columns 19 and 20 (R81). -/
def kilometreLine (name : List Char) (d : Nat) : List Char :=
  name ++ spaces (17 - name.length - (kilometres d).length) ++ kilometres d ++ [' ', 'k', 'm']

/-- The two lines of a driver's page (R80). -/
def driverPage (n : Char) (r : DriverRecord) : List Char × List Char :=
  let fault : Bool := match r.snapshot with
    | some p => decide (r.state = .current ∧ p.card = .fault)
    | none => false
  ( ['D', n, if fault then '!' else ' ', 'C', 'D', ' '] ++ hourMinute (displayed r).continuous
      ++ [' ', 'R', 'B', ' '] ++ hourMinute (displayed r).toBreak,
    [' ', ' ', ' ', 'D', 'D', ' '] ++ hourMinute (displayed r).daily
      ++ [' ', 'R', 'D', ' '] ++ hourMinute (displayed r).toDaily )

/-- The local time of day as hh:mm:ss; dashes while UNSET (R81, R111). -/
def dayTime (c : Clock) : List Char :=
  let t := (((c.seconds : Int) + 900 * c.offset) % 86400).toNat
  if c.state = .unset then ['-', '-', ':', '-', '-', ':', '-', '-']
  else pair (t / 3600) ++ [':'] ++ pair (t / 60 % 60) ++ [':'] ++ pair (t % 60)

/-- The two lines of a page (R80, R81). -/
def pageShown (s : State) : Page → List Char × List Char
  | .driver1 => driverPage '1' (driverRecord s 0)
  | .driver2 => driverPage '2' (driverRecord s 1)
  | .distance => (kilometreLine ['O', 'D', 'O'] s.distance.total,
      kilometreLine ['T', 'R', 'I', 'P', ' ', 'A'] s.distance.tripA)
  | .tripB => (kilometreLine ['T', 'R', 'I', 'P', ' ', 'B'] s.distance.tripB, spaces 20)
  | .clock => (['T', 'I', 'M', 'E'] ++ spaces 6 ++ dayTime s.driver.clock
      ++ [' ', if s.driver.clock.state = .holdover then '?' else ' '], spaces 20)

/-- The built-in texts (Table 5-3). -/
def builtInTexts : List (Nat × List Char) :=
  [(56, ['C', 'L', 'U', 'S', 'T', 'E', 'R', ' ', 'C', 'O', 'N', 'F', 'I', 'G', ' ', 'F', 'A', 'U', 'L', 'T']),
   (57, ['W', 'A', 'R', 'N', 'I', 'N', 'G', ' ', 'L', 'A', 'M', 'P', ' ', 'F', 'A', 'U', 'L', 'T']),
   (58, ['R', 'E', 'C', 'O', 'R', 'D', 'E', 'R', ' ', 'D', 'A', 'T', 'A', ' ', 'L', 'O', 'S', 'T']),
   (59, ['G', 'A', 'U', 'G', 'E', ' ', 'F', 'A', 'U', 'L', 'T']),
   (60, ['T', 'R', 'A', 'I', 'L', 'E', 'R', ' ', 'L', 'I', 'N', 'K', ' ', 'L', 'O', 'S', 'T']),
   (61, ['O', 'D', 'O', 'M', 'E', 'T', 'E', 'R', ' ', 'S', 'T', 'O', 'R', 'E', ' ', 'F', 'A', 'U', 'L', 'T']),
   (62, ['C', 'H', 'E', 'C', 'K', ' ', 'C', 'L', 'U', 'S', 'T', 'E', 'R']),
   (63, ['B', 'R', 'E', 'A', 'K', ' ', 'D', 'U', 'E', ' ', 'N', 'O', 'W'])]

/-- A code as a position shows it: a character of the module's set, or the block symbol (R76). -/
def codeShown (c : CharCode) : Glyph := if 32 ≤ c.toNat ∧ c.toNat ≤ 126 then .char c else .block

/-- The lines of a SHOWING pop-up with its text: the text, completed with spaces; PRESS ACK from 1000 ms of time
shown, and the number of QUEUED entries (R85). -/
def popupShown (text : List CharCode) (time queued : Nat) : List Glyph × List Glyph :=
  ( (List.range 20).map (fun i => codeShown (text.getD i 0x20)),
    shown ((if 1000 ≤ time then ['P', 'R', 'E', 'S', 'S', ' ', 'A', 'C', 'K'] else spaces 9) ++ spaces 9
      ++ if queued = 0 then spaces 2 else ['+', lastDigit queued]) )

/-- The dark screen (R76). -/
def darkScreen : Screen :=
  { line1 := shown (spaces 20), line2 := shown (spaces 20),
    icons := { activity1 := none, activity2 := none, card1 := false, card2 := false, clock := false },
    lit := false }

/-- The icons of a driver: the activity shown, and whether the card is shown (R77). -/
abbrev driverIcons (r : DriverRecord) (activity : Option Activity) (card : Bool) : Prop :=
  (∀ a, activity = some a ↔
      a ≠ .unknown ∧ r.state = .current ∧ ∃ p, r.snapshot = some p ∧ p.activity = a)
    ∧ (card = true ↔ r.state = .current ∧ ∃ p, r.snapshot = some p ∧ p.card = .inserted)

/-- What the end of LOADING leaves of the blocks, the debounced ignition being on or off: each button found PRESSED
has the held mark (R89); the first write carries a dark screen, and the screen of START, where it is entered, is merged
behind it (R76); with the ignition on START is entered; with it off the lamps are OFF, the roster is as it was, and so
is the Gauge Engine with no override in force. The bulletins are placed in the line's empty queue, which under fallback
discards them (R131, R159, R166; their order is logs 28 and 29, DEDUCED). -/
structure LoadingOver (on : Bool) (s t : State) : Prop where
  popups : popupsAfterLoading on s t
  buttons : ∀ b : Button, buttonOf t b
    = if (buttonOf s b).pressed = true then { buttonOf s b with held := true } else buttonOf s b
  page : t.readout.page = homePage s.tables ∧ t.readout.windowDue = none
  screen : t.readout.writing = some darkScreen ∧ (s.readout.composed = darkScreen → t.readout.again = on)
  started : on = true → StartEntered s t
  listening : on = false → (∀ l ∈ t.telltale.lamps, l.state = .off) ∧ t.roster = s.roster
    ∧ (s.service.override.inForce = false → t.gauges = s.gauges)
  frames : t.line.queue.map (fun e => e.kind)
    = if s.control.fallback = true then []
      else if on = true then [.presence, .clusterStatus, .distanceReport] else [.clusterStatus, .distanceReport]

/-- The sink of a driver's status bulletins. -/
def statusSink (n : Fin 2) : Sink := if n = 0 then .driverStatus1 else .driverStatus2

/-- A bulletin is accepted as a snapshot (R96). -/
def snapshotAccepted (r : DriverRecord) (sequence : Nat) : Prop :=
  r.state = .current → ∀ q, r.snapshot = some q →
    1 ≤ ((sequence : Int) - q.sequence) % 256 ∧ ((sequence : Int) - q.sequence) % 256 ≤ 127

/-- The assembly that a part starts, in an EMPTY mailbox or after 500 ms (R104). -/
def startedAssembly (n : NoticeFields) (now : Nat) : Assembly :=
  { id := n.id, parts := [{ index := n.index, codes := n.codes }],
    last := if n.last then some (n.index, n.cls) else none, time := now }

/-- The assembly that a part joins (R104). -/
def joinedAssembly (a : Assembly) (n : NoticeFields) (now : Nat) : Assembly :=
  if n.last = true ∧ a.last = none then
    { a with
      parts := (a.parts ++ [({ index := n.index, codes := n.codes } : NoticePart)]).filter
        (fun p => decide (p.index ≤ n.index))
      last := some (n.index, n.cls), time := now }
  else { a with parts := a.parts ++ [{ index := n.index, codes := n.codes }], time := now }

/-- A part that an assembly of its id ignores (R104). -/
abbrev ignoredPart (a : Assembly) (n : NoticeFields) : Prop :=
  (∃ p ∈ a.parts, p.index = n.index)
    ∨ ∃ l cls, a.last = some (l, cls) ∧ (l < n.index ∨ n.last = true ∧ n.index ≠ l)

/-- The mailbox after the completion test on an assembly: FULL with the text once the parts of every index up to
the last are stored, else ASSEMBLING (R105). -/
abbrev testedAssembly (a : Assembly) (m : Mailbox) : Prop :=
  (∀ l cls, a.last = some (l, cls) → (∀ i, i ≤ l → ∃ p ∈ a.parts, p.index = i) →
      m = .full a.id cls (((((List.range (l + 1)).flatMap (fun i =>
        (a.parts.filter (fun p => p.index == i)).flatMap (fun p => p.codes))).takeWhile (fun c => c != 0)).take 20)))
    ∧ ((a.last = none ∨ ∃ l cls, a.last = some (l, cls) ∧ ∃ i, i ≤ l ∧ ∀ p ∈ a.parts, p.index ≠ i) →
      m = .assembling a)

/-! ## The limits of the configuration image -/

/-- A whole multiple of 10 ms in a range. -/
abbrev tensOfMs (low high x : Nat) : Prop := low ≤ x ∧ x ≤ high ∧ x % 10 = 0

/-- R20 with Tables 2-2 and 2-10. -/
abbrev gaugeAdmitted (r : GaugeRecord) : Prop :=
  gaugeWithinLimits r ∧ r.source.isSome = true ∧ 2 ≤ r.breakpoints.length ∧ r.breakpoints.length ≤ 8
    ∧ r.breakpoints.Pairwise (fun p q => p.value < q.value) ∧ tensOfMs 0 5000 r.holdTime
    ∧ ∀ b ∈ r.bands, tensOfMs 0 10000 b.persistence
      ∧ (b.direction = .high → b.clearLevel ≤ b.setLevel) ∧ (b.direction = .low → b.setLevel ≤ b.clearLevel)

/-- R2 with Table 1-4. -/
abbrev descriptorAdmitted (d : Descriptor) : Prop :=
  d.start ≤ 63 ∧ 1 ≤ d.length ∧ d.length ≤ 32 ∧ d.start + d.length ≤ 64 ∧ d.divisor ≠ 0
    ∧ (d.reserve = true → d.signed = false ∧ 2 ≤ d.length)

/-- R1 with Table 1-3. -/
abbrev intakeAdmitted (e : IntakeEntry) : Prop :=
  8 ≤ e.topic ∧ e.topic ≤ 127 ∧ (∀ n, e.sender = some n → n ≤ 63) ∧ tensOfMs 20 10000 e.staleLimit
    ∧ (e.sink = .signals → 1 ≤ e.descriptors.length ∧ e.descriptors.length ≤ 4)
    ∧ (e.sink ≠ .signals → e.descriptors = []) ∧ ∀ d ∈ e.descriptors, descriptorAdmitted d

/-- R47 with Table 3-5, over the tables that hold the demand. -/
abbrev demandAdmitted (t : Tables) (d : DemandRecord) : Prop :=
  (∀ g i, d.source = .band g i → i.val < t.gauges[g].bands.length)
    ∧ (∀ n, d.source = .station n → n < t.roster.length)
    ∧ (∀ n, d.pattern = .flash n → 1 ≤ n ∧ n ≤ 12)
    ∧ ∀ m, d.message = some m → m ≤ 63 ∧ (m ≤ 55 → ∃ x ∈ t.texts, x.message = m)

/-- R127 with Table 8-1. -/
abbrev rosterAdmitted (e : RosterRecord) : Prop :=
  e.station ≤ 63 ∧ tensOfMs 100 5000 e.silenceLimit
    ∧ ∀ c, e.coupling = some c → c.mask ≠ 0 ∧ (e.role = .trailer1 ∨ e.role = .trailer2 ∨ e.role = .trailer3)

/-- What the image check leaves of the tables (R1, R2, R20, R46, R47, R94, R127, R152, R159). -/
structure TablesAdmitted (t : Tables) : Prop where
  own : t.ownStation ≤ 63
  source : ∀ n, t.timeSource = some n → n ≤ 63
  lead : t.warningLead ≤ 60
  health : ∀ h : Fin 10, t.health[h].weight ≤ 255 ∧ t.health[h].threshold ≤ 99
  gauges : ∀ g : Fin 6, gaugeAdmitted t.gauges[g]
  intakeCount : t.intake.length ≤ 40
  intake : ∀ e ∈ t.intake, intakeAdmitted e
  lampCount : t.lamps.length ≤ 32
  outputs : (t.lamps.map (fun l => l.output)).Nodup
  lampDemands : ∀ l ∈ t.lamps, l.demands.length ≤ 4 ∧ ∀ d ∈ l.demands, demandAdmitted t d
  demandCount : (t.lamps.map (fun l => l.demands.length)).sum ≤ 64
  rosterCount : t.roster.length ≤ 24
  roster : ∀ e ∈ t.roster, rosterAdmitted e ∧ e.station ≠ t.ownStation
  stations : (t.roster.map (fun e => e.station)).Nodup

/-! ## The configuration image as bytes (R172) -/

/-- A signed number of `8 * n` bits fits a field of `n` bytes. -/
abbrev fitsBytes (n : Nat) (x : Int) : Prop := -(2 ^ (8 * n - 1)) ≤ x ∧ x < 2 ^ (8 * n - 1)

/-- One byte of an image. -/
def byteOf (n : Nat) : Byte := BitVec.ofNat 8 n

/-- A signed field of `n` bytes, least significant first, in two's complement. -/
def signedBytes (n : Nat) (x : Int) : List Byte := leBytes n (x % 2 ^ (8 * n)).toNat

/-- A flags byte, bit 0 first. -/
def flagsByte (flags : List Bool) : Byte :=
  byteOf (flags.foldr (fun f n => (if f then 1 else 0) + 2 * n) 0)

/-- A number, or 255 where it is absent. -/
def or255 (n : Option Nat) : Byte := byteOf (n.getD 255)

/-- A breakpoint (Table 12-9). -/
def breakpointImage (b : Breakpoint) : List Byte := signedBytes 4 b.value ++ leBytes 2 b.position

/-- A band record (Table 12-9). -/
def bandImage (b : BandRecord) : List Byte :=
  [flagsByte [b.direction == .low]] ++ signedBytes 4 b.setLevel ++ signedBytes 4 b.clearLevel
    ++ leBytes 2 b.persistence

/-- The standstill items of a gauge record (Table 12-9). -/
def standstillImage (st : Option StandstillConfig) : List Byte :=
  match st with
  | some c => [byteOf c.slot.val] ++ signedBytes 4 c.threshold ++ [byteOf c.kFast]
  | none => [255, 0, 0, 0, 0, 0]

/-- A gauge record (Table 12-9). -/
def gaugeImage (r : GaugeRecord) : List Byte :=
  [flagsByte [r.enabled], or255 (r.source.map (fun n => n.val))] ++ leBytes 2 r.fullScale ++ [byteOf r.k]
    ++ standstillImage r.standstill ++ [byteOf r.speedLimit, byteOf r.acceleration, byteOf r.homingSpeed]
    ++ leBytes 2 r.holdTime ++ leBytes 2 r.rest ++ [byteOf r.breakpoints.length, byteOf r.bands.length]
    ++ r.breakpoints.flatMap breakpointImage ++ r.bands.flatMap bandImage

/-- A descriptor (Table 12-10). -/
def descriptorImage (d : Descriptor) : List Byte :=
  [byteOf d.start, byteOf d.length, flagsByte [d.big, d.signed, d.reserve, d.rank == .backup]]
    ++ signedBytes 2 d.numerator ++ leBytes 2 d.divisor ++ signedBytes 4 d.offset ++ [byteOf d.target.val]

/-- The code of a sink (Table 12-10). -/
def sinkCode : Sink → Nat
  | .signals => 0
  | .driverStatus1 => 1
  | .driverStatus2 => 2
  | .recorderNotice => 3
  | .recorderDistance => 4

/-- An intake entry (Table 12-10). -/
def intakeImage (e : IntakeEntry) : List Byte :=
  [byteOf e.topic, or255 e.sender, byteOf (sinkCode e.sink)] ++ leBytes 2 e.staleLimit
    ++ [byteOf e.descriptors.length] ++ e.descriptors.flatMap descriptorImage

/-- The code of a lamp class (Table 12-11). -/
def classCode : LampClass → Nat
  | .red => 0
  | .amber => 1
  | .green => 2
  | .blue => 3

/-- The code of a warning kind (Table 12-11). -/
def kindCode : WarningKind → Nat
  | .breakSoon => 0
  | .breakOverdue => 1
  | .dailySoon => 2
  | .recorderLost => 3

/-- Source kind and source reference of a demand (Table 12-11). -/
def sourceImage : SourceRef → List Byte
  | .slotTest n mask invert unknown =>
    [0, byteOf n.val] ++ leBytes 4 mask.toNat ++ [flagsByte [invert, unknown]]
  | .band g i => [1, byteOf g.val, byteOf i.val, 0, 0, 0, 0]
  | .gaugeFault g => [2, byteOf g.val, 0, 0, 0, 0, 0]
  | .station n => [3, byteOf n, 0, 0, 0, 0, 0]
  | .health h => [4, or255 (h.map (fun x => x.val)), 0, 0, 0, 0, 0]
  | .driverTime d k => [5, byteOf (d.val + 1), byteOf (kindCode k), 0, 0, 0, 0]

/-- The code of a pattern (Table 11-3). -/
def patternCode : Pattern → Nat
  | .flicker => 0
  | .blink => 1
  | .flash n => n + 1
  | .steady => 14

/-- The code of a chime group (Table 12-11). -/
def chimeCode : Option Grade → Nat
  | some .urgent => 0
  | some .caution => 1
  | some .notice => 2
  | none => 3

/-- A demand (Table 12-11). -/
def demandImage (d : DemandRecord) : List Byte :=
  sourceImage d.source ++ [byteOf (patternCode d.pattern), flagsByte [d.latching], byteOf (chimeCode d.chime),
    or255 d.message]

/-- A lamp record (Table 12-11). -/
def lampImage (l : LampRecord) : List Byte :=
  [byteOf l.output.val, byteOf (classCode l.cls), flagsByte [l.proved, l.afterRun], byteOf l.demands.length]
    ++ l.demands.flatMap demandImage

/-- The code of a role (Table 8-4). -/
def roleNumber : Role → Nat
  | .other => 0
  | .engine => 1
  | .brake => 2
  | .gearbox => 3
  | .recorder => 4
  | .trailer1 => 5
  | .trailer2 => 6
  | .trailer3 => 7
  | .body => 8

/-- A roster entry (Table 12-12). -/
def rosterImage (e : RosterRecord) : List Byte :=
  [byteOf e.station, byteOf (roleNumber e.role), flagsByte [e.required]] ++ leBytes 2 e.silenceLimit
    ++ (match e.coupling with
        | some c => [byteOf c.slot.val] ++ leBytes 4 c.mask.toNat
        | none => [255, 0, 0, 0, 0])

/-- A text (Table 12-8). -/
def textImage (x : ConfigText) : List Byte := byteOf x.message :: x.codes.map (fun c => byteOf c.toNat)

/-- The items of an image in the order of Table 12-8. -/
def itemsImage (t : Tables) : List Byte :=
  [byteOf t.ownStation, byteOf t.roadSlot.val, or255 t.timeSource, byteOf t.warningLead,
    flagsByte [t.pages.driver1, t.pages.driver2, t.pages.tripB, t.pages.clock]]
    ++ t.health.toList.flatMap (fun h => [byteOf h.weight, byteOf h.threshold])
    ++ t.gauges.toList.flatMap gaugeImage
    ++ byteOf t.intake.length :: t.intake.flatMap intakeImage
    ++ byteOf t.lamps.length :: t.lamps.flatMap lampImage
    ++ byteOf t.roster.length :: t.roster.flatMap rosterImage
    ++ byteOf t.texts.length :: t.texts.flatMap textImage

/-- The image of tables: the length and the check of the items, then the items (R171). -/
def imageOf (t : Tables) : List Byte :=
  leBytes 2 (itemsImage t).length ++ leBytes 2 (memoryCheck (itemsImage t)) ++ itemsImage t

/-- The figures of the tables fit the bytes of Tables 12-8 to 12-12, and the image fits the configuration area. -/
structure TablesFit (t : Tables) : Prop where
  breakpoints : ∀ g : Fin 6, ∀ b ∈ t.gauges[g].breakpoints, fitsBytes 4 b.value
  bands : ∀ g : Fin 6, ∀ b ∈ t.gauges[g].bands, fitsBytes 4 b.setLevel ∧ fitsBytes 4 b.clearLevel
  standstill : ∀ g : Fin 6, ∀ st ∈ t.gauges[g].standstill, fitsBytes 4 st.threshold
  descriptors : ∀ e ∈ t.intake, ∀ d ∈ e.descriptors,
    fitsBytes 2 d.numerator ∧ d.divisor ≤ 65535 ∧ fitsBytes 4 d.offset
  texts : t.texts.length ≤ 255 ∧ ∀ x ∈ t.texts, x.message ≤ 55 ∧ x.codes.length = 20
  room : (itemsImage t).length ≤ 7164

/-! ## The target of a write -/

/-- The first LIVE slot after the newest in ascending slot order, slot 19 followed by slot 0, the newest itself
excluded; with no newest slot the first LIVE slot from slot 0 upward (R120). -/
abbrev firstLiveAfter (newest : Option (Fin 20)) (retired : BitVec 20) (target : Fin 20) : Prop :=
  slotLive retired target.val = true
    ∧ (newest = none → ∀ i, i < target.val → slotLive retired i = false)
    ∧ ∀ n, newest = some n → ∃ j, 1 ≤ j ∧ j ≤ 19 ∧ target.val = (n.val + j) % 20
        ∧ ∀ i, 1 ≤ i → i < j → slotLive retired ((n.val + i) % 20) = false

/-- The health block of a write's record is left out exactly where the reference holds the same worst values, in a slot
that this write does not go into; where it is present it holds the worst values at the write's start (R119). -/
abbrev blockDecided (reference : Option HealthReference) (w : Write) : Prop :=
  (w.record.health = some w.worst ∨ w.record.health = none)
    ∧ (w.record.health = none ↔ ∃ ref, reference = some ref ∧ ref.slot ≠ none ∧ ref.worst = w.worst
        ∧ ref.slot ≠ some w.target)

/-- A write stands at the start of its first attempt (R121): the record's bytes are sent, and the 20 ms run from now
(log 24); the attempt takes the next number (log 23). -/
abbrev firstAttemptOf (s : State) (w : Write) : Prop :=
  w.sent = encodeRecord w.record ∧ w.second = false ∧ w.phase = .programming ∧ w.due = s.now + 20
    ∧ w.number = s.store.attempts + 1

/-- A write that starts in a state with an idle store (R118 to R121): the record of the live values with the next
sequence, the slot map, the clock stamp and its health block; the target; and the first attempt. -/
abbrev writeBegun (s : State) (w : Write) : Prop :=
  w.record.sequence = s.store.newestSequence + 1 ∧ w.record.total = s.distance.total
    ∧ w.record.tripA = s.distance.tripA ∧ w.record.tripB = s.distance.tripB
    ∧ w.record.retired = s.store.retired
    ∧ w.record.stamp = (if s.driver.clock.state = .unset then none else some s.driver.clock.seconds)
    ∧ (∀ h : Fin 10, w.worst[h] = s.monitor[h].worst) ∧ blockDecided s.store.health w
    ∧ s.store.newest ≠ some w.target ∧ firstLiveAfter s.store.newest s.store.retired w.target
    ∧ firstAttemptOf s w

/-! ## Slew steps of the clock -/

/-- A slew step of a negative slew remaining is due at a moment (R109); one step each 100 ms is due until the slew
remaining is used up. -/
abbrev givesUpAt (c : Clock) (moment : Nat) : Prop :=
  ∃ r due, c.slew = some r ∧ r < 0 ∧ c.slewDue = some due
    ∧ ∃ j, j < r.natAbs ∧ moment = due + 100 * j

end Sys2Proof.Claims

open Sys2Proof Sys2Proof.Machine Sys2Proof.Claims

/-! ## The queue of commands, reset, the passing of time -/

/-- The command at the front of the queue is taken with the queue's rest. The queue is the model's own (log 1). -/
def Obligations.StepTakesFrontCommand : Prop :=
  ∀ (c : Instr) (rest : List Instr) (s : State), s.pending = c :: rest →
    step s = exec c (s.setPending rest)

/-- Every command, of all sixty-two kinds, in every state, answers a next state; the commands that wait
are left as they are and no report between blocks is left over. That exec is total is the model's reading, not
a rule: the queue and its commands (log 1), expiries of stopped timers (log 3), the reports between blocks (log
7) and commands that no event can bring (log 36). -/
def Obligations.EveryCommandCompletes : Prop :=
  ∀ (c : Instr) (s : State), ∃ t, exec c s = .next t ∧ t.pending = s.pending ∧ t.reports = []

/-- The tick on an empty queue (the model's choice, log 2). Where a timer from the present place on has been reached,
the command of the first one joins the queue and nothing else changes. Where none has, one millisecond passes: the
wall clock advances, but for a millisecond that a negative slew gives up, in which it stands (R109; that it is the one
that ends at the slew step is log 27), and the time shown of the SHOWING pop-up while the readout is lit (R85); the
search begins anew, and nothing else changes. -/
def Obligations.EmptyQueueTicks : Prop :=
  ∀ s : State, s.pending = [] →
    (∀ (i : Nat) (c : Instr), s.scan ≤ i → allTimers[i]? = some c → reached s c = true →
      (∀ (j : Nat) (c' : Instr), s.scan ≤ j → j < i → allTimers[j]? = some c' → reached s c' = false) →
      step s = .next { s with pending := [c], scan := i + 1 })
    ∧ ((∀ (j : Nat) (c' : Instr), s.scan ≤ j → allTimers[j]? = some c' → reached s c' = false) →
      ∃ c : Clock, step s = .next { s with
          now := s.now + 1
          scan := 0
          driver := { s.driver with clock := c }
          readout := if readoutLit s = true then
              { s.readout with queue := s.readout.queue.map (PopupEntry.age 1) }
            else s.readout }
        ∧ (ClockLaw s → givesUpAt s.driver.clock (s.now + 1) → c = s.driver.clock)
        ∧ (¬ givesUpAt s.driver.clock (s.now + 1) → c = s.driver.clock.addMs 1))

/-- The state right after reset is safe. That every law holds there rests in part on values that the model chose and
no rule gives: reset is a power-on with every input inactive (log 4), the tables are placeholders until the image is
read (log 16), and the worst values stand at 100 and the store's items at their first values until the restore (log
17). -/
def Obligations.ResetIsSafe : Prop := Safe State.reset

/-- POWER_ON: the part is in LOADING with its power-on values, whatever it was before. That the commands which wait
are kept is the model's choice (log 1), and so are that the command brings the five input levels (log 4) and that no
button has the held mark (log 17); that the debounce timer of a button found open does not run is log 30 (DEDUCED). -/
def Obligations.PowerOnGivesPowerOnValues : Prop :=
  ∀ (l : InputLevels) (s : State), ∃ t, exec (.powerOn l) s = .next t
    ∧ t.pending = s.pending
    ∧ t.control.part = .loading ∧ t.control.errorIndication = false ∧ t.control.fallback = false
    ∧ t.control.ready = false ∧ t.control.afterRunDue = none ∧ t.control.ignition = false
    ∧ t.control.ignitionRaw = l.ignition ∧ t.control.ignitionDue = some (t.now + 50)
    ∧ t.control.supplyLow = l.supplyLow
    ∧ (∀ n : Fin 64, t.slots[n] = { value := 0, quality := .never, writer := none })
    ∧ (∀ g : Fin 6, (channelOf t g).state = .unhomed ∧ (channelOf t g).position = none
        ∧ (channelOf t g).speed = 0 ∧ (channelOf t g).upward = true ∧ (channelOf t g).damped = 0
        ∧ (channelOf t g).stalls = 0 ∧ (channelOf t g).holdDue = none
        ∧ (channelOf t g).standDue = none ∧ (channelOf t g).holdSpent = false
        ∧ (channelOf t g).standMode = false ∧ (channelOf t g).periodDue = none
        ∧ ∀ i : Fin 2, (channelOf t g).bands[i] = .inactive)
    ∧ t.gauges.grace = .stopped
    ∧ (∀ o : Fin 32, outputLit t o = false ∧ t.telltale.loads[o] = { openSeen := false, shortSeen := false })
    ∧ t.telltale.provingDue = none ∧ t.telltale.red = false ∧ t.telltale.amber = false
    ∧ t.chime.entries = [] ∧ sounderOn t.chime = false ∧ t.chime.phaseDue = none ∧ t.chime.accepting = false
    ∧ t.readout.queue = [] ∧ t.readout.ackCount = 0 ∧ t.readout.windowDue = none
    ∧ t.readout.page = .distance ∧ t.readout.writing = none
    ∧ (∀ (b : Button) (raw : Bool), raw = (match b with
          | .ack => l.ack
          | .page => l.page
          | .trip => l.trip) →
        buttonOf t b = { raw := raw, pressed := false, longDue := none, held := false,
                         debounceDue := if raw then some (t.now + 20) else none })
    ∧ (∀ d : Fin 2, (driverRecord t d).state = .none ∧ (driverRecord t d).snapshot = none
        ∧ (driverRecord t d).elapsed = 0
        ∧ (driverRecord t d).warnings
          = { breakSoon := false, breakOverdue := false, dailySoon := false, recorderLost := false })
    ∧ t.driver.mailbox = .empty ∧ t.driver.lastConsumed = 0
    ∧ t.driver.clock.state = .unset ∧ t.driver.clock.seconds = 0 ∧ t.driver.clock.ms = 0
    ∧ t.driver.clock.offset = 0 ∧ t.driver.clock.slew = none ∧ t.driver.clock.holdoverDue = none
    ∧ t.distance.total = 0 ∧ t.distance.tripA = 0 ∧ t.distance.tripB = 0
    ∧ t.distance.accumulator = 0 ∧ t.distance.reference = 0 ∧ t.distance.sampleDue = none
    ∧ t.store.write = none ∧ t.store.requestPending = false
    ∧ t.roster.reply = .none ∧ t.roster.unlisted = [] ∧ t.roster.censusComplete = false
    ∧ t.line.state = .listenOnly ∧ t.line.queue = [] ∧ t.line.failures = 0
    ∧ t.line.mutingDue = none ∧ t.line.silenceDue = none
    ∧ (∀ h : Fin 10, t.monitor[h].raw = 0 ∧ t.monitor[h].normalized = 100
        ∧ t.monitor[h].exceeded = false)
    ∧ t.service.pendingReply = false ∧ t.service.override.inForce = false
    ∧ t.service.override.due = none ∧ t.service.override.red = false

/-! ## Invariants that every step keeps -/

/-- The first law (R27): a pointer whose position is known stands within its dial. -/
def Obligations.StepKeepsPointerLaw : Prop :=
  ∀ s t : State, PointerLaw s → step s = .next t → PointerLaw t

/-- The distances, the accumulator and the stored reference stay within the ranges of Table 7-1, the wall clock
with its offset and the slew remaining within those of Table 6-7. -/
def Obligations.StepKeepsRangesOfDistancesAndClock : Prop :=
  (∀ s t : State, DistanceLaw s → step s = .next t → DistanceLaw t)
  ∧ (∀ s t : State, ClockLaw s → step s = .next t → ClockLaw t)

/-- The third law (R120): a write goes neither into the newest slot nor into a RETIRED one. -/
def Obligations.StepKeepsStoreLaw : Prop :=
  ∀ s t : State, StoreLaw s → step s = .next t → StoreLaw t

/-- The sixth law (R84) of the pop-up queue, with its selection: a queue that is not empty has its SHOWING entry. What
preemption and selection make of a queue; and R83 with room in the queue: a posting for a message that is in it raises
the entry's class and clears its non-latched flag where the posting has it clear, any other joins the queue with the
next arrival order (R82); preemption and selection follow. -/
def Obligations.StepKeepsPopupLaw : Prop :=
  (∀ s t : State, PopupLaw s → step s = .next t → PopupLaw t)
  ∧ (∀ q : List PopupEntry, (q.map (fun e => e.message)).Nodup → (q.filter PopupEntry.isShowing).length ≤ 1 →
      settledFrom q (settlePopups q))
  ∧ ∀ (m : Nat) (cls : Grade) (nonLatched : Bool) (s : State), PopupLaw s →
      ((∃ e ∈ s.readout.queue, e.message = m) →
        ∃ q, postPopup m cls nonLatched s = s.setReadout { s.readout with queue := q }
          ∧ settledFrom (s.readout.queue.map (fun e =>
              if e.message = m then
                { e with
                  cls := if e.cls.rank < cls.rank then cls else e.cls, nonLatched := e.nonLatched && nonLatched }
              else e)) q)
      ∧ ((∀ e ∈ s.readout.queue, e.message ≠ m) → s.readout.queue.length < 8 →
        ∃ q, postPopup m cls nonLatched s
            = s.setReadout { s.readout with queue := q, lastOrder := s.readout.lastOrder + 1 }
          ∧ settledFrom (s.readout.queue ++
              [{ message := m, cls := cls, nonLatched := nonLatched, order := s.readout.lastOrder + 1,
                 state := .queued }]) q)

/-- The seventh law (R70) of the chime list, with its selection: where an entry competes one SOUNDS, the oldest of the
highest group among those that compete. An entry that a step leaves SOUNDING was SOUNDING before it, or was selected in
it and stands at its first beep, whose end is that of its group's beep from then on (R68, Table 4-3). -/
def Obligations.StepKeepsChimeLaw : Prop :=
  (∀ s t : State, ChimeLaw s → step s = .next t → ChimeLaw t)
  ∧ ∀ s t : State, ChimeLaw s → step s = .next t → ∀ e ∈ t.chime.entries, e.state = .sounding →
      (∃ x ∈ s.chime.entries, x.id = e.id ∧ x.order = e.order ∧ x.state = .sounding)
      ∨ t.chime.phase = 0 ∧ t.chime.phaseDue = some (t.now + match e.group with
          | .urgent => 150
          | .caution => 200
          | .notice => 300)

/-- The eighth law (R150) of the transmit queue. -/
def Obligations.StepKeepsQueueLaw : Prop :=
  ∀ s t : State, QueueLaw s → step s = .next t → QueueLaw t

/-- The ninth law (R130): only a required entry whose coupling reads COUPLED is LOST. -/
def Obligations.StepKeepsRosterLaw : Prop :=
  ∀ s t : State, RosterLaw s → step s = .next t → RosterLaw t

/-- The eleventh law (R155): a worst value lies in 1..100 and at or below the normalized value. R154: from the restore
on the normalized value and the exceedance are those of the raw count. R153: a report adds 1 to the raw count of its
attribute, up to 65 535, and forms the attribute anew; a change of its exceedance is told to the Telltale Unit,
through the list of reports that wait for the command's own work (the model's choice, log 7). -/
def Obligations.StepKeepsHealthLaw : Prop :=
  (∀ s t : State, HealthLaw s → step s = .next t → HealthLaw t)
  ∧ ∀ (h : Fin 10) (s : State),
      (count h s).monitor = s.monitor.set h (countedAttribute s.tables.health[h] s.monitor[h])
      ∧ (count h s).reports = s.reports ++
          (if (countedAttribute s.tables.health[h] s.monitor[h]).exceeded = s.monitor[h].exceeded then []
           else [{ source := .health h, on := (countedAttribute s.tables.health[h] s.monitor[h]).exceeded }])

/-- Six invariants that other statements take as premises: the GAUGE-FAULT condition kept is the one R40 gives,
the tables obey limits of the image check (R20, R159), the lamps stand in ascending order of output, no two on one
output (R46; the order in which R52 takes their demands), the line in LOADING is as
R146 says, the part never stays in LISTENING with the three conditions of R163 true (R163 has it enter SLEEP in the
event that makes them true; that every command tests them at its end is DEDUCED, log 9), and a snapshot that a driver
record keeps has a sequence number of one byte (R96, R97). -/
def Obligations.StepKeepsModelInvariants : Prop :=
  (∀ s t : State, FaultLaw s → step s = .next t → FaultLaw t)
  ∧ (∀ s t : State, TablesLaw s → step s = .next t → TablesLaw t)
  ∧ (∀ s t : State, OutputsLaw s → step s = .next t → OutputsLaw t)
  ∧ (∀ s t : State, LoadingLineLaw s → step s = .next t → LoadingLineLaw t)
  ∧ (∀ s t : State, AwakeLaw s → step s = .next t → AwakeLaw t)
  ∧ (∀ s t : State, SnapshotLaw s → step s = .next t → SnapshotLaw t)

/-- The second law (R115): out of LOADING, and but for power-on, no step lowers the live total. -/
def Obligations.TotalNeverDecreases : Prop :=
  ∀ s t : State, DistanceLaw s → s.control.part ≠ .loading →
    (∀ l rest, s.pending ≠ .powerOn l :: rest) → step s = .next t →
    s.distance.total ≤ t.distance.total

/-- The fourth law (R100): between two accepted snapshots no command raises a displayed remaining figure,
and none shows more than the snapshot's minutes. -/
def Obligations.RemainingMinutesNeverIncrease : Prop :=
  (∀ (c : Instr) (s t : State) (d : Fin 2), exec c s = .next t →
    (driverRecord s d).state = .current → (driverRecord t d).state = .current →
    (driverRecord t d).snapshot = (driverRecord s d).snapshot →
    (∀ m m', (displayed (driverRecord s d)).toBreak = some m →
      (displayed (driverRecord t d)).toBreak = some m' → m' ≤ m)
    ∧ ∀ m m', (displayed (driverRecord s d)).toDaily = some m →
      (displayed (driverRecord t d)).toDaily = some m' → m' ≤ m)
  ∧ ∀ (r : DriverRecord) (p : Snapshot) (m : Nat), r.snapshot = some p →
    ((displayed r).toBreak = some m → ∃ v, p.toBreak = some v ∧ m ≤ (v + 59) / 60)
    ∧ ((displayed r).toDaily = some m → ∃ v, p.toDaily = some v ∧ m ≤ (v + 59) / 60)

/-! ## Layouts and arithmetic -/

/-- R166, Tables 11-1 and 12-3: every field of a CLUSTER STATUS bulletin stands at its position with the code the
tables give it; the notice-busy bit is set exactly while the mailbox is FULL (the tenth law, R105). That each value is
read where its owner holds it is log 8 (DEDUCED). -/
def Obligations.ClusterStatusBits : Prop :=
  ∀ s : State, s.driver.lastConsumed < 256 → s.readout.ackCount < 16 →
    (statusPayload (statusFields s)).length = 4
    ∧ bitField (statusPayload (statusFields s)) 0 4 = partNumber s.control.part
    ∧ bitFlag (statusPayload (statusFields s)) 4 = s.control.ready
    ∧ bitFlag (statusPayload (statusFields s)) 5 = s.control.errorIndication
    ∧ (bitFlag (statusPayload (statusFields s)) 6 = true ↔
        ∃ id cls text, s.driver.mailbox = .full id cls text)
    ∧ bitFlag (statusPayload (statusFields s)) 7 = s.telltale.red
    ∧ bitField (statusPayload (statusFields s)) 8 8 = s.driver.lastConsumed
    ∧ bitFlag (statusPayload (statusFields s)) 16 = s.telltale.amber
    ∧ (bitFlag (statusPayload (statusFields s)) 17 = true ↔ ∃ g : Fin 6, (channelOf s g).fault = true)
    ∧ bitFlag (statusPayload (statusFields s)) 18 = s.service.override.inForce
    ∧ bitFlag (statusPayload (statusFields s)) 19 = s.roster.censusComplete
    ∧ (bitFlag (statusPayload (statusFields s)) 20 = true ↔ ∃ h : Fin 10, s.monitor[h].exceeded = true)
    ∧ bitField (statusPayload (statusFields s)) 21 2 = storeNumber s.store.state
    ∧ bitField (statusPayload (statusFields s)) 24 4 = s.readout.ackCount

/-- R7, R8: bit k of a raw field is bit start + k of the payload, byte by byte from the first for LITTLE and from the
eighth for BIG, a byte that the frame does not carry being 0. R10: the raw value of a field is sign-extended, or
compared with the reserved top codes. R11, R12: the scaled quotient is the nearest integer, exact halves away from
zero; the sum with the offset saturates to the signed 32-bit range; a value arrival makes its slot FRESH with that
value. R170: bit k of a field of any other layout, which names it by its first bit and its length, is bit start + k of
the bytes, byte by byte from the first. -/
def Obligations.RawFieldsAreInterpretedAndScaled : Prop :=
  (∀ d : Descriptor, 1 ≤ d.divisor → 1 ≤ d.length →
    (∀ r : Int, ∃ q : Int, 2 * (r * d.numerator - q * d.divisor).natAbs ≤ d.divisor
      ∧ (2 * (r * d.numerator - q * d.divisor).natAbs = d.divisor →
          (r * d.numerator).natAbs < (q * d.divisor).natAbs)
      ∧ (d.numerator = 0 → q = 0)
      ∧ (2147483647 < d.offset + q → scaleValue d r = 2147483647)
      ∧ (d.offset + q < -2147483648 → scaleValue d r = -2147483648)
      ∧ (-2147483648 ≤ d.offset + q → d.offset + q ≤ 2147483647 → scaleValue d r = d.offset + q))
    ∧ (∀ raw : Nat, raw < 2 ^ d.length →
      (d.signed = true → ∃ r : Int, interpretField d raw = .value (scaleValue d r)
        ∧ (r = raw ∨ r = (raw : Int) - 2 ^ d.length) ∧ -(2 ^ (d.length - 1)) ≤ r ∧ r < 2 ^ (d.length - 1))
      ∧ (d.signed = false → d.reserve = true → raw = 2 ^ d.length - 1 → interpretField d raw = .absent)
      ∧ (d.signed = false → d.reserve = true → 2 ≤ d.length → raw = 2 ^ d.length - 2 →
          interpretField d raw = .faulted)
      ∧ (d.signed = false → d.reserve = false ∨ raw + 2 < 2 ^ d.length →
          interpretField d raw = .value (scaleValue d raw)))
    ∧ (∀ (e : Int) (w : Writer) (x : Slot),
      (x.apply (.value e) w).value = e ∧ (x.apply (.value e) w).quality = .fresh)
    ∧ ∀ payload : List Byte, payload.length ≤ 8 → d.start + d.length ≤ 64 →
      extractField d payload < 2 ^ d.length
      ∧ ∀ k, k < d.length → (extractField d payload).testBit k
          = (payload.getD (if d.big then 7 - (d.start + k) / 8 else (d.start + k) / 8) 0).toNat.testBit
              ((d.start + k) % 8))
  ∧ ∀ (bytes : List Byte) (start length : Nat), bitField bytes start length < 2 ^ length
      ∧ ∀ k, k < length → (bitField bytes start length).testBit k
          = (bytes.getD ((start + k) / 8) 0).toNat.testBit ((start + k) % 8)

/-- R24: the characteristic at, below, between and above its breakpoints; the target lies on the dial. -/
def Obligations.CharacteristicInterpolates : Prop :=
  ∀ (points : List Breakpoint) (fullScale : Nat) (e : Int),
    points.Pairwise (fun p q => p.value < q.value) → (∀ p ∈ points, p.position ≤ fullScale) →
    (∀ p, points.head? = some p → e ≤ p.value → characteristic points e = p.position)
    ∧ (∀ p, points.getLast? = some p → p.value ≤ e → characteristic points e = p.position)
    ∧ (∀ k p q, points[k]? = some p → points[k + 1]? = some q → p.value ≤ e → e < q.value →
        (characteristic points e : Int)
          = p.position + ((e - p.value) * ((q.position : Int) - p.position)).tdiv (q.value - p.value))
    ∧ characteristic points e ≤ fullScale

/-- R25: one period of damping adds the truncated fraction of the difference, moves toward 256 × T and never
past it, at once with a shift of 0, and once F rests its goal is T. R27: one period of the motion rule by its three
cases: at the goal the pointer stands still with speed 0; a reversal brakes by a and moves on in dir; else dir takes
the sign of the distance and the pointer moves by the chosen candidate speed; a move is clamped to the dial, and a
pointer that arrives has speed 0. R27, R28: so one period moves at most v microsteps and stays on the dial, and the
speed changes by at most a but where the pointer arrives. -/
def Obligations.DampingAndMotionStayWithinLimits : Prop :=
  (∀ shift target damped : Nat,
     (damp shift target damped : Int) = damped + (256 * (target : Int) - damped).tdiv (2 ^ shift)
     ∧ (damped ≤ 256 * target → damped ≤ damp shift target damped ∧ damp shift target damped ≤ 256 * target)
     ∧ (256 * target ≤ damped → 256 * target ≤ damp shift target damped ∧ damp shift target damped ≤ damped)
     ∧ damp 0 target damped = 256 * target
     ∧ (shift ≤ 7 → damp shift target damped = damped → goalOf damped = target))
  ∧ (∀ (fullScale v a goal : Nat) (m : Motion), 1 ≤ v → 1 ≤ a → m.position ≤ fullScale →
     goal ≤ fullScale → m.speed ≤ v →
     (moveStep fullScale v a goal m).position ≤ fullScale
     ∧ (moveStep fullScale v a goal m).speed ≤ v
     ∧ (moveStep fullScale v a goal m).position ≤ m.position + v
     ∧ m.position ≤ (moveStep fullScale v a goal m).position + v
     ∧ ((moveStep fullScale v a goal m).position = goal → (moveStep fullScale v a goal m).speed = 0)
     ∧ (moveStep fullScale v a goal m).speed ≤ m.speed + a
     ∧ ((moveStep fullScale v a goal m).position ≠ goal →
         m.speed ≤ (moveStep fullScale v a goal m).speed + a))
  ∧ (∀ (fullScale v a goal : Nat) (m u : Motion), 1 ≤ v → 1 ≤ a → m.position ≤ fullScale →
     goal ≤ fullScale → m.speed ≤ v → u = moveStep fullScale v a goal m →
     ∀ reversal : Prop,
     (reversal ↔ 0 < m.speed ∧ (m.position < goal ∧ m.upward = false ∨ goal < m.position ∧ m.upward = true)) →
     (m.position = goal → u = { m with speed := 0 })
     ∧ (m.position ≠ goal → reversal →
         u.upward = m.upward ∧ moved fullScale m.position (m.speed - a) m.upward u.position
         ∧ u.speed = if u.position = goal then 0 else m.speed - a)
     ∧ (m.position ≠ goal → ¬ reversal →
         u.upward = decide (m.position < goal)
         ∧ ∃ chosen, caseThreeSpeed v a m.speed ((goal : Int) - m.position).natAbs chosen
           ∧ moved fullScale m.position chosen u.upward u.position
           ∧ u.speed = if u.position = goal then 0 else chosen))

/-! ## Power, LOADING, ignition, supply -/

/-- R89, R159: a change of a raw level restarts its debounce timer; a level that has not changed does
nothing. -/
def Obligations.InputChangeRestartsDebounce : Prop :=
  ∀ s : State, AwakeLaw s →
    (∀ level, ∃ t, exec (.ignitionInputChange level) s = .next t ∧ Kept [.control] s t
      ∧ t.control = if level = s.control.ignitionRaw then s.control
          else { s.control with ignitionRaw := level, ignitionDue := some (s.now + 50) })
    ∧ ∀ b raw, ∃ t, exec (.buttonInputChange b raw) s = .next t ∧ Kept [.readout] s t
      ∧ buttonOf t b = (if raw = (buttonOf s b).raw then buttonOf s b
          else { buttonOf s b with raw := raw, debounceDue := some (s.now + 20) })
      ∧ (∀ b', b' ≠ b → buttonOf t b' = buttonOf s b')
      ∧ t.readout.queue = s.readout.queue ∧ t.readout.page = s.readout.page
      ∧ t.readout.windowDue = s.readout.windowDue ∧ t.readout.ackCount = s.readout.ackCount
      ∧ t.readout.lastOrder = s.readout.lastOrder ∧ t.readout.moduleScreen = s.readout.moduleScreen

/-- R159, R160: the image that is read in LOADING is checked; the tables are the image's or the fallback's, and the
restore starts at slot 0. In any other state nothing changes. An image passes only where the header's length stays
within the configuration area, its check agrees (R159, R171), and every item keeps the limits of R1, R2, R20, R46,
R47, R94, R127 and R152. R172: the image that the bytes of Tables 12-8 to 12-12 make of tables within these limits
passes and is read as those tables, whatever stands behind it. The lamps are those of the records, in ascending order
of output (R52). That the 20 ms of the first restore read run from the end of the image read is the model's choice
(DESIGN CHOICE, log 4). The image is read as one run of bytes (DEDUCED, log 5), a text of a message number above 55
does not fail it (DEDUCED, log 31), and the warning lead, the hold times and the breakpoints that the fallback's tables
hold are the model's (DESIGN CHOICE, logs 50 and 53). -/
def Obligations.ImageIsCheckedAndHandedOut : Prop :=
  (∀ (area : List Byte) (s : State), AwakeLaw s →
    ∃ t, exec (.configImageRead area) s = .next t
      ∧ (s.control.part = .loading ∧ s.control.load = .readingImage →
          t.tables = (checkImage area).getD fallbackTables
          ∧ t.control = { s.control with
              fallback := (checkImage area).isNone, load := .restoring, readDue := some (s.now + 20) }
          ∧ t.telltale = { s.telltale with lamps := liveLamps t.tables.lamps }
          ∧ t.roster = { s.roster with entries := t.tables.roster.map liveEntry }
          ∧ t.store = { s.store with restoreNext := 0, found := [] }
          ∧ Kept [.tables, .control, .telltale, .roster, .store] s t)
      ∧ (¬ (s.control.part = .loading ∧ s.control.load = .readingImage) → Kept [] s t))
  ∧ (∀ (area : List Byte) (t : Tables), checkImage area = some t →
    ∃ n, n = leNat (area.take 2) ∧ n ≤ 7164 ∧ 4 + n ≤ area.length
      ∧ leNat ((area.drop 2).take 2) = memoryCheck ((area.drop 4).take n) ∧ TablesAdmitted t)
  ∧ (∀ (t : Tables) (rest : List Byte), TablesAdmitted t → TablesFit t → checkImage (imageOf t ++ rest) = some t)
  ∧ ∀ rs : List LampRecord, (liveLamps rs).Perm (rs.map liveLamp)
      ∧ (liveLamps rs).Pairwise (fun l m => l.output ≤ m.output)

/-- R125, R171: what the 36 bytes of a record are read as, once written, is the record; and a record is valid exactly
when its fields are in range. Bytes whose check disagrees with bytes 0 to 33, or that are not 36 (which no read
brings: log 36), are no valid record; others are one where the fields that Table 12-6 places in them are in range. -/
def Obligations.RecordIsReadBackAsWritten : Prop :=
  (∀ r : StoredRecord, r.sequence < 4294967296 → r.total < 4294967296 → r.tripA < 4294967296 →
    r.tripB < 4294967296 → (∀ n, r.stamp = some n → n < 4294967296) →
    (∀ b, r.health = some b → ∀ h : Fin 10, b[h] < 256) →
    (encodeRecord r).length = 36 ∧ decodeRecord (encodeRecord r) = r
    ∧ (validRecord (encodeRecord r) = some r ↔
        1 ≤ r.sequence ∧ r.inRange ∧ ∀ b, r.health = some b → blockInRange b))
  ∧ (∀ (bytes : List Byte) (check : Nat), check = (crcOf ((bytes.take 34).flatMap wordBits)).toNat →
      (bytes.length ≠ 36 ∨ leNat (bytes.drop 34) ≠ check → validRecord bytes = none)
      ∧ ∀ r, bytes.length = 36 → leNat (bytes.drop 34) = check → r = decodeRecord bytes →
        (validRecord bytes = some r ∨ validRecord bytes = none)
        ∧ (validRecord bytes = some r ↔
            1 ≤ r.sequence ∧ r.inRange ∧ ∀ b, r.health = some b → blockInRange b))
  ∧ ∀ (bytes : List Byte) (r : StoredRecord), bytes.length = 36 → r = decodeRecord bytes →
      r.sequence = bitField bytes 0 32 ∧ r.total = bitField bytes 32 32
      ∧ r.tripA = bitField bytes 64 32 ∧ r.tripB = bitField bytes 96 32
      ∧ r.retired = BitVec.ofNat 20 (bitField bytes 128 20)
      ∧ r.stamp = (if bitField bytes 152 1 = 1 then some (bitField bytes 160 32) else none)
      ∧ (bitField bytes 153 1 = 0 → r.health = none)
      ∧ (bitField bytes 153 1 = 1 → ∃ b, r.health = some b
          ∧ ∀ h : Fin 10, b[h] = (bytes.getD (24 + h.val) 0).toNat)

/-- R125, R126: a slot read in the restore joins the valid records and the next slot is read; the last one
sets the store, the distances and the worst values from the selected record, or from none. The selected record
is valid and has the highest sequence; of two that have it the one whose mask marks the other's slot, of two that
mark neither, or each the other's, the one in the lower slot (the latter case is log 15). The health reference is
that of the newest record with a block in a slot the mask leaves LIVE; of two with one sequence the one in the
lower slot (log 15). That the 20 ms of each restore read run from the end of the read before it is the model's choice
(DESIGN CHOICE, log 4). -/
def Obligations.RestoreSetsTheRecordedState : Prop :=
  (∀ (bytes : List Byte) (s : State), s.control.part = .loading → s.control.load = .restoring →
    ∃ t, exec (.restoreSlotRead bytes) s = .next t
      ∧ (s.store.restoreNext < 19 →
          t.store = { s.store with
              restoreNext := s.store.restoreNext + 1
              found := foundWith s.store.restoreNext bytes s.store.found }
          ∧ t.control = { s.control with readDue := some (s.now + 20) }
          ∧ Kept [.store, .control] s t)
      ∧ (s.store.restoreNext = 19 → s.control.debounced = false →
          t.control = { s.control with load := .restored, readDue := none }
          ∧ Kept [.store, .control, .distance, .monitor] s t
          ∧ t.store.write = none ∧ t.store.requestPending = false ∧ t.distance.accumulator = 0
          ∧ (∀ h : Fin 10, t.monitor[h].raw = 0 ∧ t.monitor[h].normalized = 100
              ∧ t.monitor[h].exceeded = false)
          ∧ (∀ slot r, selectRecord (foundWith 19 bytes s.store.found) = some (slot, r) →
              t.store.newest = some slot ∧ t.store.newestSequence = r.sequence
              ∧ t.store.retired = r.retired ∧ t.store.state = storeStateOf r.retired
              ∧ t.distance.total = r.total ∧ t.distance.tripA = r.tripA
              ∧ t.distance.tripB = r.tripB ∧ t.distance.reference = r.total
              ∧ t.store.health
                  = restoredReference r.retired (foundWith 19 bytes s.store.found)
              ∧ ∀ h : Fin 10, t.monitor[h].worst = match t.store.health with
                  | some ref => ref.worst[h]
                  | none => 100)
          ∧ (foundWith 19 bytes s.store.found = [] →
              t.store.newest = none ∧ t.store.newestSequence = 0 ∧ t.store.retired = 0
              ∧ t.store.health = none ∧ t.store.state = .good ∧ t.distance.total = 0
              ∧ t.distance.tripA = 0 ∧ t.distance.tripB = 0 ∧ t.distance.reference = 0
              ∧ ∀ h : Fin 10, t.monitor[h].worst = 100)))
  ∧ (∀ found : List (Fin 20 × StoredRecord), found.Pairwise (fun x y => x.1 < y.1) →
     (selectRecord found = none ↔ found = [])
     ∧ (∀ z, selectRecord found = some z → z ∈ found ∧ ∀ x ∈ found, x.2.sequence ≤ z.2.sequence)
     ∧ ∀ x ∈ found, ∀ y ∈ found, x.1 < y.1 → x.2.sequence = y.2.sequence →
        (∀ z ∈ found, z = x ∨ z = y ∨ z.2.sequence < x.2.sequence) →
        selectRecord found
          = some (if y.2.retired.getLsbD x.1.val = true ∧ x.2.retired.getLsbD y.1.val = false then y else x))
  ∧ ∀ (retired : BitVec 20) (found : List (Fin 20 × StoredRecord)), found.Pairwise (fun x y => x.1 < y.1) →
    ((restoredReference retired found = none ↔
        ∀ x ∈ found, retired.getLsbD x.1.val = false → x.2.health = none)
    ∧ ∀ ref, restoredReference retired found = some ref →
        ∃ x ∈ found, retired.getLsbD x.1.val = false ∧ x.2.health = some ref.worst ∧ ref.slot = some x.1
          ∧ ∀ y ∈ found, retired.getLsbD y.1.val = false → y.2.health.isSome = true →
              y.2.sequence < x.2.sequence ∨ y.2.sequence = x.2.sequence ∧ x.1 ≤ y.1)

/-- R159: with the first ignition debounce expiry taken, the last slot of the restore ends LOADING: START with the
ignition on, LISTENING with it off. With the restore complete, that expiry itself ends it. R125, R159: a LOADING read
that the memory does not answer in 20 ms is a failed image, or an unreadable memory whose store is FAILED with no
newest slot. R82, R159: under fallback the end of LOADING posts pop-up 56; a START entry clears the queue and posts
56, 61 and 64 anew as they apply. R52: demands which become ACTIVE there post nothing. R89, R76: a button found
PRESSED gets the held mark, and the first screen write carries a dark screen, with the screen of START merged behind
it. R30, R131, R161: a START that is entered homes the channels and restarts the roster as any START entry does. That
the 20 ms of the first restore read run from the end of the image read is the model's choice (DESIGN CHOICE, log 4),
and so are the warning lead, the hold times and the breakpoints that the fallback's tables hold (DESIGN CHOICE, logs
50 and 53); that the status bulletin is placed
before the distance report is logs 28 and 29 (DEDUCED), that the change which START brings to the screen is composed
in this event log 6 (DEDUCED). -/
def Obligations.LoadingEndsOrFails : Prop :=
  (∀ (bytes : List Byte) (s : State), s.control.part = .loading → s.control.load = .restoring →
     s.store.restoreNext = 19 → s.control.debounced = true → LoadingLineLaw s →
     ∃ t, exec (.restoreSlotRead bytes) s = .next t
       ∧ t.control.part = (if s.control.ignition then .start else .listening)
       ∧ t.control.statusPeriod = (if s.control.ignition then 100 else 1000)
       ∧ t.control.statusDue = some (s.now + t.control.statusPeriod)
       ∧ t.control.distanceDue = some (s.now + 1000)
       ∧ t.control.errorIndication
           = (s.control.errorIndication || s.control.fallback || (t.store.state == .failed))
       ∧ t.line.state = (if s.control.fallback then .listenOnly else .active)
       ∧ t.line.silenceDue = some (s.now + 10000)
       ∧ t.driver.sampleDue = some (s.now + 1000) ∧ t.distance.sampleDue = some (s.now + 100)
       ∧ t.telltale.evaluating = true
       ∧ LoadingOver s.control.ignition s t
       ∧ Kept ([.control, .line, .driver, .distance, .store, .roster] ++ told) s t
       ∧ t.driver = { s.driver with sampleDue := some (s.now + 1000) })
  ∧ (∀ (s : State) (d : Nat), cameDue .ignitionDebounceExpiry d s → s.control.part = .loading →
     s.control.load = .restored → LoadingLineLaw s →
     ∃ t, exec .ignitionDebounceExpiry s = .next t
       ∧ t.control.part = (if s.control.ignitionRaw then .start else .listening)
       ∧ t.control.ignition = s.control.ignitionRaw ∧ t.control.ignitionDue = none
       ∧ t.control.debounced = true
       ∧ t.control.statusPeriod = (if s.control.ignitionRaw then 100 else 1000)
       ∧ t.control.statusDue = some (s.now + t.control.statusPeriod)
       ∧ t.control.distanceDue = some (s.now + 1000)
       ∧ t.control.errorIndication
           = (s.control.errorIndication || s.control.fallback || (s.store.state == .failed))
       ∧ t.line.state = (if s.control.fallback then .listenOnly else .active)
       ∧ t.line.silenceDue = some (s.now + 10000)
       ∧ t.driver = { s.driver with sampleDue := some (s.now + 1000) }
       ∧ t.distance = { s.distance with sampleDue := some (s.now + 100) }
       ∧ t.telltale.evaluating = true
       ∧ LoadingOver s.control.ignitionRaw s t
       ∧ Kept ([.control, .line, .driver, .distance, .roster] ++ told) s t)
  ∧ (∀ (s : State) (d : Nat), cameDue .memoryReadTimeout d s → s.control.part = .loading →
     ∃ t, exec .memoryReadTimeout s = .next t
       ∧ (s.control.load = .readingImage →
           t.tables = fallbackTables ∧ t.control.fallback = true ∧ t.control.load = .restoring
           ∧ t.control.readDue = some (s.now + 20) ∧ t.telltale.lamps = [] ∧ t.roster.entries = []
           ∧ t.store = { s.store with restoreNext := 0, found := [] }
           ∧ Kept [.tables, .control, .telltale, .roster, .store] s t)
       ∧ (s.control.load = .restoring →
           t.store.state = .failed ∧ t.store.newest = none ∧ t.store.newestSequence = 0
           ∧ t.store.retired = 0 ∧ t.store.health = none ∧ t.store.write = none
           ∧ t.distance.total = 0 ∧ t.distance.tripA = 0 ∧ t.distance.tripB = 0
           ∧ t.distance.accumulator = 0 ∧ t.distance.reference = 0
           ∧ (∀ h : Fin 10, s.control.debounced = false → t.monitor[h].worst = 100)
           ∧ (s.control.debounced = false →
               t.control = { s.control with load := .restored, readDue := none }
               ∧ Kept [.store, .control, .distance, .monitor] s t)
           ∧ (s.control.debounced = true → t.control.part ≠ .loading
               ∧ t.control.errorIndication = true
               ∧ (LoadingLineLaw s →
                 t.control.part = (if s.control.ignition then .start else .listening)
                 ∧ LoadingOver s.control.ignition s t))))

/-- R30, R61, R75, R78, R79, R131, R161: the debounced ignition on causes a START entry out of AFTER-RUN, LISTENING
and SLEEP. R82: the pop-up queue is cleared, and pop-ups 56, 61 and 64 are posted anew as they apply. R131, R136: a
reply delay under way stops, and but under fallback the starting PRESENCE, role CLUSTER, is placed; then the cluster
status bulletin, and out of SLEEP the distance report (R161, R163, R166). The order of these frames and what the
bulletin holds of the part's own items are read from the order of the reports in R161 (DEDUCED, log 28). That of a
queue whose transmission outlasts the entry to SLEEP only the IN-TRANSMISSION entry stays at the wake, where a QUEUED
reply is left unstated, is log 12 (DEDUCED), and that the placing order runs on there log 45 (DESIGN CHOICE). A frame
that finds the queue full is dropped and counts toward H9 (R151). That a PRESENCE placed in SLEEP still waits is log
35 (DEDUCED). -/
def Obligations.IgnitionOnEntersStart : Prop :=
  ∀ (s : State) (d : Nat), cameDue .ignitionDebounceExpiry d s → s.control.ignitionRaw = true →
    s.control.ignition = false →
    s.control.part = .afterRun ∨ s.control.part = .listening ∨ s.control.part = .sleep →
    ∃ t, exec .ignitionDebounceExpiry s = .next t
      ∧ t.control.part = .start ∧ t.control.ready = false ∧ t.control.ignition = true
      ∧ t.control.ignitionDue = none ∧ t.control.afterRunDue = none
      ∧ t.control.statusPeriod = 100 ∧ t.control.statusDue = some (s.now + 100)
      ∧ t.control.errorIndication = s.control.errorIndication
      ∧ t.control.fallback = s.control.fallback
      ∧ t.control.distanceDue
          = (if s.control.part = .sleep then some (s.now + 1000) else s.control.distanceDue)
      ∧ (s.control.part = .sleep → t.line.settling = true)
      ∧ StartEntered s t
      ∧ t.readout.queue.map (fun e => (e.message, e.cls, e.nonLatched))
          = (startPosts s).map (fun x => (x.1, x.2, false))
      ∧ t.readout.queue.map (fun e => e.order) = (List.range (startPosts s).length).map (fun i => i + 1)
      ∧ t.readout.lastOrder = (startPosts s).length
      ∧ (∀ e ∈ t.readout.queue, (e.state = .showing 0 ∨ e.state = .queued)
          ∧ (e.state = .showing 0 ↔ ∀ f ∈ t.readout.queue,
              f = e ∨ f.cls.rank < e.cls.rank ∨ f.cls = e.cls ∧ e.order < f.order))
      ∧ (s.roster.reply = .queued → s.control.part ≠ .sleep ∨ s.line.sleepPending = false →
          t.roster.reply = .queued)
      ∧ (∀ q, q = (if s.control.part = .sleep ∧ s.line.sleepPending = true then
            s.line.queue.filter (fun e => e.state == .inTransmission) else s.line.queue) →
          (s.line.state = .listenOnly → t.line.queue = q ∧ t.line.lastOrder = s.line.lastOrder)
          ∧ (s.line.state ≠ .listenOnly → s.control.fallback = false →
            ∃ status, bitField status 0 4 = partNumber .start ∧ bitFlag status 4 = false
              ∧ bitFlag status 5 = s.control.errorIndication ∧ bitFlag status 19 = false
              ∧ ∀ q1 q2, q1 = (if q.length < 8 then
                  startedQueue (s.line.quiet && decide (s.control.part ≠ .sleep)) s.line.state
                    (q ++ [waitingEntry s .presence [0x13, 0x00] (s.line.lastOrder + 1)]) else q) →
                q2 = withPeriodic s .clusterStatus status (s.line.lastOrder + 1 + (q1.length - q.length)) q1 →
                t.line.queue = (if s.control.part = .sleep then
                    withPeriodic s .distanceReport (distancePayload s.distance.total s.distance.tripA)
                      (s.line.lastOrder + 1 + (q2.length - q.length)) q2
                  else q2)
                ∧ oneMore^[(if 8 ≤ q.length then 1 else 0) + (if dropsPeriodic .clusterStatus q1 then 1 else 0)
                    + (if decide (s.control.part = .sleep) && dropsPeriodic .distanceReport q2 then 1 else 0)]
                  s.monitor[(9 : Fin 10)].raw ≤ t.monitor[(9 : Fin 10)].raw))
      ∧ Kept ([.control, .line, .roster] ++ told) s t

/-- R38, R62, R162: the debounced ignition off in START or RUN enters AFTER-RUN; in other states, and where
the raw level agrees with the debounced one, only the level is taken. -/
def Obligations.IgnitionOffEntersAfterRun : Prop :=
  ∀ (s : State) (d : Nat), cameDue .ignitionDebounceExpiry d s → AwakeLaw s →
    (s.control.ignitionRaw = false → s.control.ignition = true →
      s.control.part = .start ∨ s.control.part = .run →
      ∃ t, exec .ignitionDebounceExpiry s = .next t
        ∧ t.control = { s.control with
            ignition := false, ignitionDue := none, debounced := true, part := .afterRun,
            afterRunDue := some (s.now + 30000) }
        ∧ t.telltale.provingDue = none ∧ (∀ l ∈ t.telltale.lamps, l.state = .afterRun)
        ∧ t.chime.entries = [] ∧ sounderOn t.chime = false
        ∧ t.service.override.inForce = false
        ∧ t.readout.page = homePage s.tables
        ∧ (∀ g : Fin 6, (gaugeRecord s g).enabled = true →
            ((channelOf s g).state.stallSensed = true → (channelOf s g).state ≠ .parking →
              (channelOf t g).state
                = if (channelOf s g).position = some 0 then .parked else .parking)
            ∧ ((channelOf s g).state.stallSensed = false →
              (channelOf t g).state = (channelOf s g).state))
        ∧ Kept ([.control] ++ told) s t)
    ∧ (s.control.ignitionRaw = false ∧ s.control.part ≠ .loading ∧ s.control.part ≠ .start
          ∧ s.control.part ≠ .run
        ∨ s.control.ignitionRaw = s.control.ignition ∧ s.control.part ≠ .loading
        ∨ s.control.part = .loading ∧ s.control.load ≠ .restored →
      ∃ t, exec .ignitionDebounceExpiry s = .next t
        ∧ t.control = { s.control with
            ignition := s.control.ignitionRaw, ignitionDue := none, debounced := true }
        ∧ Kept [.control] s t)

/-- R123, R162: the after-run expiry asks for the flush and enters LISTENING: lamps OFF, readout dark, status at 1000
ms (R60, R62a, R78). A busy store and an idle one take the request as R123 says. R78, R149, R163: where an expiry
makes the third of the three conditions true in LISTENING, it is the event that enters SLEEP, with the queue emptied
and the line at rest once nothing is in transmission (the timers that stop while a transmission runs on: log 12): the
after-run expiry with no write to await and the line quiet of peers, which enters LISTENING and goes on to SLEEP in
the same event (Table 11-1 does not list it; DEDUCED, log 9), the peer silence expiry, and the end of the listening
window. Else the write of the flush is awaited (Table 11-2), and the two expiries change their own item alone. -/
def Obligations.AfterRunExpiryFlushesAndListens : Prop :=
  (∀ (s : State) (d : Nat), cameDue .afterRunExpiry d s →
    ∃ t, exec .afterRunExpiry s = .next t
      ∧ t.control.afterRunDue = none ∧ t.control.ready = s.control.ready
      ∧ (∀ l ∈ t.telltale.lamps, l.state = .off) ∧ t.readout.windowDue = none
      ∧ readoutLit t = false
      ∧ t.store = (requestWrite s).store
      ∧ (s.store.state = .failed → t.store = s.store)
      ∧ (s.store.state ≠ .failed → s.store.write.isSome = true →
          t.store = { s.store with requestPending := true })
      ∧ (s.store.state ≠ .failed → s.store.write = none → s.store.newestSequence < 4294967295 →
          (∃ i : Fin 20, s.store.newest ≠ some i ∧ slotLive s.store.retired i.val = true) →
          ∃ w, t.store.write = some w ∧ w.second = false ∧ w.phase = .programming)
      ∧ (s.line.peersQuiet = false ∨ t.store.write.isSome = true →
          t.control.part = .listening ∧ t.control.statusPeriod = 1000
          ∧ t.control.statusDue = some (s.now + 1000) ∧ t.control.distanceDue = s.control.distanceDue
          ∧ Kept ([.control, .line, .store, .distance] ++ told) s t)
      ∧ (s.line.peersQuiet = true → t.store.write = none →
          t.control.part = .sleep ∧ t.control.statusDue = none ∧ t.control.distanceDue = none
          ∧ t.line.silenceDue = none ∧ t.line.mutingDue = none
          ∧ (transmitting s.line.queue = true → t.line.sleepPending = true)
          ∧ (s.line.quiet = false ∨ s.line.state ≠ .active → transmitting s.line.queue = false →
              lineAsleep s.line t.line)
          ∧ Kept ([.control, .line, .store, .distance, .roster] ++ told) s t))
  ∧ (∀ (s : State) (d : Nat), cameDue .peerSilenceExpiry d s →
     ∃ t, exec .peerSilenceExpiry s = .next t
       ∧ (s.control.part = .listening ∧ s.store.write = none ∧ s.readout.windowDue = none →
           t.control = { s.control with part := .sleep, statusDue := none, distanceDue := none }
           ∧ lineAsleep { s.line with silenceDue := none, peersQuiet := true } t.line
           ∧ Kept [.control, .line, .roster, .service] s t)
       ∧ (¬ (s.control.part = .listening ∧ s.store.write = none ∧ s.readout.windowDue = none) →
           t.line = { s.line with silenceDue := none, peersQuiet := true } ∧ Kept [.line] s t))
  ∧ (∀ (s : State) (d : Nat), cameDue .listeningWindowExpiry d s →
     ∃ t, exec .listeningWindowExpiry s = .next t
       ∧ readoutCore t.readout = readoutCore { s.readout with windowDue := none }
       ∧ (s.control.part = .listening ∧ s.line.peersQuiet = true ∧ s.store.write = none →
           t.control = { s.control with part := .sleep, statusDue := none, distanceDue := none }
           ∧ lineAsleep s.line t.line
           ∧ Kept [.control, .line, .roster, .service, .readout] s t)
       ∧ (¬ (s.control.part = .listening ∧ s.line.peersQuiet = true ∧ s.store.write = none) →
           Kept [.readout] s t))

/-- R164: a supply-low event asks for a write in START, RUN, AFTER-RUN and LISTENING, and makes no request in LOADING
and SLEEP; the part state does not change, and the level held stays low (log 13). R123: a FAILED store discards the
request, a write in flight keeps it pending, an idle store starts a write. R118 to R120: the record holds the live
values with the next sequence, the slot map, the clock stamp and, where one of three causes holds, the worst values;
its target is the first LIVE slot after the newest in slot order; a sequence beyond the top makes the store FAILED
instead (R124, R165). R121: its first attempt is in PROGRAMMING; that its 20 ms run from this event is log 24, that it
bears a number of its own log 23. -/
def Obligations.SupplyLowAsksForAWrite : Prop :=
  ∀ s : State, AwakeLaw s →
    ∃ t, exec .supplyLow s = .next t
      ∧ t.control.part = s.control.part ∧ t.control.supplyLow = true
      ∧ (s.control.part = .loading ∨ s.control.part = .sleep →
          t.control = { s.control with supplyLow := true } ∧ Kept [.control] s t)
      ∧ (s.control.part ≠ .loading → s.control.part ≠ .sleep →
          t.store = (requestWrite s).store ∧ t.distance = (requestWrite s).distance
          ∧ (s.store.state = .failed →
              t.control = { s.control with supplyLow := true } ∧ Kept [.control] s t)
          ∧ (s.store.state ≠ .failed → s.store.write.isSome = true →
              t.store = { s.store with requestPending := true }
              ∧ t.control = { s.control with supplyLow := true } ∧ Kept [.control, .store] s t)
          ∧ (s.store.state ≠ .failed → s.store.write = none → s.store.newestSequence < 4294967295 →
              (∃ i : Fin 20, s.store.newest ≠ some i ∧ slotLive s.store.retired i.val = true) →
              (∃ w, t.store = { s.store with write := some w, attempts := s.store.attempts + 1 }
                ∧ writeBegun s w)
              ∧ t.distance = { s.distance with reference := s.distance.total }
              ∧ t.control = { s.control with supplyLow := true }
              ∧ Kept [.control, .store, .distance] s t)
          ∧ (s.store.state ≠ .failed → s.store.write = none → 4294967295 ≤ s.store.newestSequence →
              t.store = { s.store with state := .failed }
              ∧ t.control = { s.control with supplyLow := true, errorIndication := true }
              ∧ Kept ([.control, .store] ++ told) s t))

/-! ## The vehicle line -/

/-- R149, R163: the first start mark in SLEEP enters LISTENING with both periodic timers restarted, and in any other
state there is nothing to wake. R142, R149: after the oscillator has settled the peer silence timer runs (from
OSCILLATOR_SETTLED: log 10); a start mark of a peer ends the quiet and restarts that timer. A transmission that is in
progress at the wake runs on, and the entries that wait are DISCARDED (log 12); that the placing
order runs on there is log 45 (DESIGN CHOICE). That the status bulletin is placed before the distance report is log 28
(DEDUCED), that its values are read where their owners hold them log 8 (DEDUCED). -/
def Obligations.LineWakesAndListens : Prop :=
  (∀ s : State, AwakeLaw s →
     ∃ t, exec .lineWake s = .next t
       ∧ (s.control.part = .sleep →
           t.control = { s.control with
             part := .listening, statusDue := some (s.now + 1000), statusPeriod := 1000,
             distanceDue := some (s.now + 1000) }
           ∧ t.line.settling = true ∧ t.line.quiet = false ∧ t.line.listening = false
           ∧ t.line.peersQuiet = false ∧ t.line.sleepPending = s.line.sleepPending
           ∧ t.readout.windowDue = s.readout.windowDue
           ∧ Kept ([.control, .line, .roster] ++ told) s t
           ∧ (s.line.sleepPending = false → s.line.queue = [] → s.line.state ≠ .listenOnly →
               t.line.queue = [
                 waitingEntry s .clusterStatus
                   (statusPayload { statusFields s with part := .listening }) (s.line.lastOrder + 1),
                 waitingEntry s .distanceReport
                   (distancePayload s.distance.total s.distance.tripA) (s.line.lastOrder + 2)]
               ∧ Kept [.control, .line] s t)
           ∧ (s.line.sleepPending = true → QueueLaw s → s.line.state ≠ .listenOnly →
               t.line.queue = s.line.queue.filter (fun e => e.state == .inTransmission) ++ [
                 waitingEntry s .clusterStatus
                   (statusPayload { statusFields s with part := .listening }) (s.line.lastOrder + 1),
                 waitingEntry s .distanceReport
                   (distancePayload s.distance.total s.distance.tripA) (s.line.lastOrder + 2)]
               ∧ Kept [.control, .line, .roster, .service] s t))
       ∧ (s.control.part ≠ .sleep → Kept [] s t))
  ∧ (∀ s : State, AwakeLaw s →
     (∃ t, exec .oscillatorSettled s = .next t ∧ Kept [.line] s t
       ∧ t.line = if s.control.part.awake = true ∧ s.line.settling = true then
           { s.line with settling := false, silenceDue := some (s.now + 10000) } else s.line)
     ∧ ∃ t, exec .peerStartMark s = .next t ∧ Kept [.line] s t
       ∧ t.line = if s.control.part.awake = true ∧ s.line.settling = false then
           { s.line with
             silenceDue := some (s.now + 10000), peersQuiet := false, quiet := false,
             receiving := true } else s.line)

/-- R142, R150: at a quiet line an ACTIVE controller starts the WAITING entry with the lowest key, the oldest among
equals, and with no entry WAITING the line stays quiet; that the line is not found quiet while the part transmits,
settles or is not awake is read from R142 and R149 (DEDUCED, log 22). -/
def Obligations.QuietLineStartsTheFirstWaitingFrame : Prop :=
  (∀ s : State, AwakeLaw s →
    ∃ t, exec .quietLine s = .next t ∧ Kept [.line] s t
      ∧ (s.control.part.awake = true → s.line.settling = false → transmitting s.line.queue = false →
          (∀ e, s.line.state = .active → firstWaiting s.line.queue = some e →
            t.line = { s.line with
              quiet := false, listening := true, receiving := false,
              queue := startEntry e s.line.queue })
          ∧ (s.line.state ≠ .active ∨ firstWaiting s.line.queue = none →
            t.line = { s.line with quiet := true, listening := true, receiving := false }))
      ∧ (s.control.part.awake = false ∨ s.line.settling = true ∨ transmitting s.line.queue = true →
          t.line = s.line))
  ∧ (∀ (q : List TxEntry) (e : TxEntry), firstWaiting q = some e →
      e ∈ q ∧ e.state = .waiting ∧ ∀ f ∈ q, f.state = .waiting →
        e.key.toNat < f.key.toNat ∨ e.key = f.key ∧ e.order ≤ f.order)
  ∧ (∀ q : List TxEntry, firstWaiting q = none ↔ ∀ e ∈ q, e.state ≠ .waiting)
  ∧ ∀ (q : List TxEntry) (e : TxEntry), q.Nodup →
      startEntry e q = q.map (fun f => if f = e then { f with state := .inTransmission } else f)

/-- R140, R143, R148: a corrupt frame counts toward H2 and is not acknowledged; a good one with the part's
own number counts toward H5 and is acknowledged; neither is heard or delivered. The line takes up the start mark
that the frame brings with it (R149, log 11). -/
def Obligations.CorruptAndClashingFramesAreNotDelivered : Prop :=
  ∀ (f : Frame) (s : State), AwakeLaw s →
    ∃ t, exec (.frameReceived f) s = .next t
      ∧ (hearing s = false → Kept [] s t)
      ∧ (hearing s = true → isGood f = false →
          t.monitor[(2 : Fin 10)].raw = oneMore s.monitor[(2 : Fin 10)].raw
          ∧ t.line = lineAfterFrame false s ∧ Kept ([.line] ++ told) s t)
      ∧ (hearing s = true → isGood f = true → keySender f.key = s.tables.ownStation →
          t.monitor[(5 : Fin 10)].raw = oneMore s.monitor[(5 : Fin 10)].raw
          ∧ t.line = lineAfterFrame (decide (s.line.state ≠ .listenOnly)) s
          ∧ Kept ([.line] ++ told) s t)

/-- R4, R5, R9, R14 to R16, R129, R143, R147: a good frame of another station is acknowledged and heard; a data topic
writes the slots of its matching SIGNALS entries in the order of the map, a system topic none. R9, R153: each
descriptor of these entries that is short for the frame counts once toward H4 (stated where the frame's matching
entries are all SIGNALS entries, as other sinks count short frames too, and where the frame is not itself taken as
CLEAR-HEALTH, which then sets the count to 0, R157). R140, R170: a frame is good when its length
is at most 4 and its check agrees with its key, length and payload, each most significant bit first. A good frame on
topic 1, 2 or 126 acts as the command TIME_MARK, PRESENCE or that of its request code does (Table 9-3; that these are
commands beside FRAME_RECEIVED is log 1). -/
def Obligations.GoodFrameIsHeardAndWritesSlots : Prop :=
  (∀ (f : Frame) (s : State), isGood f = true → hears (keySender f.key) s → AwakeLaw s →
    ∃ t, exec (.frameReceived f) s = .next t
      ∧ t.line.acknowledged = decide (s.line.state ≠ .listenOnly)
      ∧ t.slots = (if 8 ≤ keyTopic f.key then
          (s.tables.intake.filter (entryMatches (keyTopic f.key) (keySender f.key))).foldl
            (entrySlots (keySender f.key) s.now f.payload) s.slots
        else s.slots)
      ∧ (8 ≤ keyTopic f.key → ¬ takenAsClear f s →
          (∀ e ∈ s.tables.intake, entryMatches (keyTopic f.key) (keySender f.key) e = true → e.sink = .signals) →
          t.monitor[(4 : Fin 10)].raw = oneMore^[shortResults f.payload
            (s.tables.intake.filter (entryMatches (keyTopic f.key) (keySender f.key)))]
              s.monitor[(4 : Fin 10)].raw)
      ∧ (∀ e ∈ t.roster.entries, e.record.station = keySender f.key → e.lastHeard = some s.now)
      ∧ (keyTopic f.key < 8 → ∀ e ∈ t.roster.entries, e.record.station = keySender f.key →
          e.state = .present ∧ e.acknowledged = false ∧ e.quietStart = some s.now)
      ∧ t.roster.entries.map (fun e => e.record) = s.roster.entries.map (fun e => e.record)
      ∧ t.now = s.now ∧ t.tables = s.tables)
  ∧ (∀ (topic sender : Nat) (e : IntakeEntry), entryMatches topic sender e = true ↔
      e.topic = topic ∧ (e.sender = none ∨ e.sender = some sender))
  ∧ (∀ (e : Int) (w : Writer) (x : Slot),
      x.apply (.value e) w = { value := e, quality := .fresh, writer := some w }
      ∧ x.apply .absent w = { value := x.value, quality := .absent, writer := some w }
      ∧ x.apply .faulted w = { value := x.value, quality := .faulted, writer := some w })
  ∧ (∀ f : Frame, isGood f = true ↔ f.length.toNat ≤ 4
      ∧ f.check = crcOf (wordBits f.key ++ wordBits f.length ++ f.payload.flatMap wordBits))
  ∧ ∀ (f : Frame) (s : State), isGood f = true → ∀ sender : BitVec 6, sender.toNat = keySender f.key →
      (keyTopic f.key = 1 → exec (.frameReceived f) s = exec (.timeMark sender f.payload) s)
      ∧ (keyTopic f.key = 2 → exec (.frameReceived f) s = exec (.presence sender f.payload) s)
      ∧ (keyTopic f.key = 126 → ∀ (code : Byte) (args : List Byte),
          f.payload = BitVec.ofNat 8 s.tables.ownStation :: code :: args →
          exec (.frameReceived f) s = exec (requestOf sender code args) s)

/-- R144, R145, R151: the outcome of the transmission in progress, its failure count, H3, the muting that the
sixteenth failure starts, and what is reported to the placing block. R149: a transmission that outlasts the entry to
SLEEP has its outcome taken, a returning entry is not retried, and what that entry left to do follows: in SLEEP all of
it; where the part has been woken before, what touches neither the frames placed since nor the peer silence timer (log
12), and the placing order runs on (log 45); a report without a transmission in progress changes nothing (log 23);
what that work reports to the placing blocks is stated for a queue that obeys the eighth law. The end of a muting:
ACTIVE with a failure count of 0; the first WAITING entry starts where the line is quiet. -/
def Obligations.TransmissionOutcomesAndMuting : Prop :=
  (∀ (o : TxOutcome) (s : State), AwakeLaw s →
     ∃ t, exec (.transmissionEnd o) s = .next t
       ∧ (transmitting s.line.queue = false → Kept [] s t)
       ∧ (∀ e, sentEntry s.line.queue = some e →
           (o = .sent ∨ o = .lostArbitration → Kept [.line, .roster, .service] s t)
           ∧ (o = .corrupted ∨ o = .unheard → Kept ([.line, .roster] ++ told) s t
               ∧ t.monitor[(3 : Fin 10)].raw
                 = (if s.line.state = .active ∧ 16 ≤ s.line.failures + 1 then
                     oneMore (oneMore s.monitor[(3 : Fin 10)].raw)
                   else oneMore s.monitor[(3 : Fin 10)].raw))
           ∧ (o = .sent ∨ s.line.sleepPending = true → e.kind = .serviceReply → t.service.pendingReply = false)
           ∧ (o = .sent ∨ s.line.sleepPending = true → e.kind = .presence → bitFlag e.payload 0 = false →
               s.roster.reply = .queued → t.roster.reply = .none))
       ∧ (∀ e, sentEntry s.line.queue = some e → s.line.sleepPending = false →
           t.line.queue = (if o = .sent ∨ e.kind.periodic = true ∧ s.line.queue.any (waitingOfKind e.kind)
             then s.line.queue.filter (fun x => x.state != .inTransmission)
             else s.line.queue.map (fun x => { x with state := .waiting }))
           ∧ t.line.failures = (match o with
               | .sent => 0
               | .lostArbitration => s.line.failures
               | .corrupted => s.line.failures + 1
               | .unheard => s.line.failures + 1)
           ∧ (o = .sent ∨ o = .lostArbitration → t.line.state = s.line.state)
           ∧ (o = .corrupted ∨ o = .unheard → s.line.state = .active →
               (s.line.failures + 1 < 16 → t.line.state = .active)
               ∧ (16 ≤ s.line.failures + 1 → t.line.state = .muted
                 ∧ t.line.mutingDue = some (s.now + 1000))))
       ∧ (∀ e, sentEntry s.line.queue = some e → s.line.sleepPending = true →
           (s.control.part.awake = false → t.line = restedLineOf s.line
             ∧ (QueueLaw s → (∃ x ∈ s.line.queue, x.kind = .serviceReply) → t.service.pendingReply = false)
             ∧ (QueueLaw s → (∃ x ∈ s.line.queue, x.kind = .presence ∧ bitFlag x.payload 0 = false) →
                 t.roster.reply ≠ .queued))
           ∧ (s.control.part.awake = true → o ≠ .lostArbitration ∨ hearing s = false →
             t.line = { s.line with
               state := if s.line.state = .listenOnly then .listenOnly else .active
               queue := s.line.queue.filter (fun x => x.state != .inTransmission)
               failures := 0, mutingDue := none, sleepPending := false })))
  ∧ (∀ (s : State) (d : Nat), cameDue .mutingExpiry d s → AwakeLaw s →
     ∃ t, exec .mutingExpiry s = .next t ∧ Kept [.line] s t
       ∧ t.line = (match firstWaiting s.line.queue with
           | some e =>
             if s.line.quiet = true ∧ transmitting s.line.queue = false then
               { s.line with state := .active, failures := 0, mutingDue := none, quiet := false,
                             queue := startEntry e s.line.queue }
             else { s.line with state := .active, failures := 0, mutingDue := none }
           | none => { s.line with state := .active, failures := 0, mutingDue := none }))

/-- R95 to R97, R101, R102: a status bulletin of 8 bytes that is accepted is the driver's snapshot, its second count
and stale timer start anew, and the four warnings are formed on it; one that is not accepted changes nothing. R103 to
R106: a notice part starts an assembly, joins it or is ignored; a complete notice fills the mailbox and posts pop-up
64. R115, R117: the recorder's distance moves a live total that is behind, with the trips where it is behind by at
most 50 km, and a mismatch counts toward H7; a total that moves to 1 km or more past the reference asks for a write,
which a FAILED store discards, a write in flight keeps pending and an idle store starts; that a mismatch is counted
before the write starts is the model's choice (DESIGN CHOICE, log 44). A payload that is short counts toward H4 alone. R103, R170, Table 12-4:
the fields of a driver status and of a notice part, each at its bits. -/
def Obligations.RecorderBulletinsAreTaken : Prop :=
  (∀ (f : Frame) (e : IntakeEntry) (s : State), takenBy f e s → AwakeLaw s →
     ∃ t, exec (.frameReceived f) s = .next t
       ∧ ((∃ n, e.sink = statusSink n) ∨ e.sink = .recorderNotice → f.payload.length < 8 →
           t.driver = s.driver ∧ t.monitor[(4 : Fin 10)].raw = oneMore s.monitor[(4 : Fin 10)].raw)
       ∧ (e.sink = .recorderDistance → f.payload.length < 4 →
           t.distance = s.distance ∧ t.monitor[(4 : Fin 10)].raw = oneMore s.monitor[(4 : Fin 10)].raw)
       ∧ (∀ n, e.sink = statusSink n → 8 ≤ f.payload.length → SnapshotLaw s →
           ∀ p, p = decodeDriverStatus f.payload s.now →
           (snapshotAccepted (driverRecord s n) p.sequence →
             (driverRecord t n).state = .current ∧ (driverRecord t n).snapshot = some p
             ∧ (driverRecord t n).elapsed = 0
             ∧ driverStaleDue t n = some (s.now + 90000) ∧ secondMarkDue t n = some (s.now + 1000)
             ∧ ((driverRecord t n).warnings.breakSoon = true ↔ p.card = .inserted
                 ∧ ∃ v, p.toBreak = some v ∧ v ≤ s.tables.warningLead * 60)
             ∧ ((driverRecord t n).warnings.breakOverdue = true ↔ p.card = .inserted ∧ p.toBreak = some 0)
             ∧ ((driverRecord t n).warnings.dailySoon = true ↔ p.card = .inserted
                 ∧ ∃ v, p.toDaily = some v ∧ v ≤ s.tables.warningLead * 60)
             ∧ (driverRecord t n).warnings.recorderLost = false
             ∧ (∀ n', n' ≠ n → driverRecord t n' = driverRecord s n')
             ∧ t.driver = { s.driver with records := t.driver.records })
           ∧ (¬ snapshotAccepted (driverRecord s n) p.sequence → t.driver = s.driver))
       ∧ (e.sink = .recorderNotice → 8 ≤ f.payload.length → ∀ n, n = decodeNotice f.payload →
           t.driver = { s.driver with mailbox := t.driver.mailbox }
           ∧ (n.id = 0 → t.driver = s.driver)
           ∧ (n.id ≠ 0 → s.driver.mailbox = .empty →
               testedAssembly (startedAssembly n s.now) t.driver.mailbox)
           ∧ (∀ a, n.id ≠ 0 → s.driver.mailbox = .assembling a →
               (a.time + 500 ≤ s.now → testedAssembly (startedAssembly n s.now) t.driver.mailbox)
               ∧ (s.now < a.time + 500 → a.id ≠ n.id ∨ ignoredPart a n → t.driver = s.driver)
               ∧ (s.now < a.time + 500 → a.id = n.id → ¬ ignoredPart a n →
                   testedAssembly (joinedAssembly a n s.now) t.driver.mailbox))
           ∧ (∀ id cls text, s.driver.mailbox = .full id cls text → t.driver = s.driver)
           ∧ (∀ id cls text, t.driver.mailbox = .full id cls text → t.driver ≠ s.driver →
               presentAlready (keySender f.key) s → s.readout.queue.length < 8 →
               ∃ x ∈ t.readout.queue, x.message = 64 ∧ x.nonLatched = false ∧ cls.rank ≤ x.cls.rank))
       ∧ (e.sink = .recorderDistance → 4 ≤ f.payload.length → ∀ r, r = leNat (f.payload.take 4) / 10 →
           t.distance.accumulator = s.distance.accumulator
           ∧ (s.distance.total < r → t.distance.total = r)
           ∧ (s.distance.total < r → r ≤ s.distance.total + 5000 →
               t.distance.tripA = (s.distance.tripA + (r - s.distance.total)) % 10000000
               ∧ t.distance.tripB = (s.distance.tripB + (r - s.distance.total)) % 10000000
               ∧ t.monitor[(7 : Fin 10)] = s.monitor[(7 : Fin 10)]
               ∧ (s.distance.reference + 100 ≤ r →
                   t.store = (requestWrite { s with distance := { t.distance with
                     reference := s.distance.reference } }).store)
               ∧ (r < s.distance.reference + 100 → t.store = s.store))
           ∧ (s.distance.total + 5000 < r →
               t.distance.tripA = s.distance.tripA ∧ t.distance.tripB = s.distance.tripB
               ∧ t.monitor[(7 : Fin 10)].raw = oneMore s.monitor[(7 : Fin 10)].raw
               ∧ (r < s.distance.reference + 100 → t.store = s.store)
               ∧ (s.distance.reference + 100 ≤ r → ∀ u, u = { s with
                     distance := { s.distance with total := r },
                     monitor := s.monitor.set 7
                       (countedAttribute s.tables.health[(7 : Fin 10)] s.monitor[(7 : Fin 10)]) } →
                   t.store = (requestWrite u).store
                   ∧ (s.store.state = .failed → t.store = s.store)
                   ∧ (s.store.state ≠ .failed → s.store.write.isSome = true →
                       t.store = { s.store with requestPending := true })
                   ∧ (s.store.state ≠ .failed → s.store.write = none → s.store.newestSequence < 4294967295 →
                       (∃ i : Fin 20, s.store.newest ≠ some i ∧ slotLive s.store.retired i.val = true) →
                       (∃ w, t.store = { s.store with write := some w, attempts := s.store.attempts + 1 }
                         ∧ writeBegun u w)
                       ∧ t.distance = { s.distance with total := r, reference := r })))
           ∧ (r ≤ s.distance.total → s.distance.total ≤ r + 100 →
               t.distance = s.distance ∧ t.monitor[(7 : Fin 10)] = s.monitor[(7 : Fin 10)] ∧ t.store = s.store)
           ∧ (r + 100 < s.distance.total →
               t.distance = s.distance ∧ t.store = s.store
               ∧ t.monitor[(7 : Fin 10)].raw = oneMore s.monitor[(7 : Fin 10)].raw)))
  ∧ (∀ (payload : List Byte) (now : Nat) (p : Snapshot), p = decodeDriverStatus payload now →
      p.arrival = now ∧ p.sequence = bitField payload 8 8
      ∧ (bitField payload 0 3 = 0 → p.activity = .rest) ∧ (bitField payload 0 3 = 1 → p.activity = .available)
      ∧ (bitField payload 0 3 = 2 → p.activity = .work) ∧ (bitField payload 0 3 = 3 → p.activity = .drive)
      ∧ (3 < bitField payload 0 3 → p.activity = .unknown)
      ∧ (bitField payload 3 2 = 0 → p.card = .none) ∧ (bitField payload 3 2 = 1 → p.card = .inserted)
      ∧ (1 < bitField payload 3 2 → p.card = .fault)
      ∧ p.continuous = (if bitField payload 16 10 = 1023 then none else some (bitField payload 16 10 * 60))
      ∧ p.toBreak = (if bitField payload 26 10 = 1023 then none else some (bitField payload 26 10 * 60))
      ∧ p.daily = (if bitField payload 36 11 = 2047 then none else some (bitField payload 36 11 * 60))
      ∧ p.toDaily = (if bitField payload 47 11 = 2047 then none else some (bitField payload 47 11 * 60)))
  ∧ ∀ (payload : List Byte) (n : NoticeFields), n = decodeNotice payload →
      n.id = bitField payload 0 8 ∧ n.index = bitField payload 8 2
      ∧ (n.last = true ↔ bitField payload 10 1 = 1)
      ∧ (bitField payload 11 2 = 0 → n.cls = .urgent) ∧ (bitField payload 11 2 = 1 → n.cls = .caution)
      ∧ (1 < bitField payload 11 2 → n.cls = .notice)
      ∧ (8 ≤ payload.length → n.codes
          = (List.range 6).map (fun i => BitVec.ofNat 7 (bitField payload (16 + 8 * i) 7)))

/-- R151, R166: each periodic timer runs on from its moment and places its bulletin: into the WAITING copy
of its kind, else as a new entry, else as a drop that counts toward H9; LISTEN-ONLY discards it. That
each value of the bulletin is read where its owner holds it is log 8 (DEDUCED). -/
def Obligations.PeriodicBulletinsArePlaced : Prop :=
  ∀ (s : State) (d : Nat), AwakeLaw s →
    (cameDue .clusterStatusTimer d s → ∃ t, exec .clusterStatusTimer s = .next t
      ∧ t.control = { s.control with statusDue := some (d + s.control.statusPeriod) }
      ∧ Placed .clusterStatus (statusPayload (statusFields s)) s t)
    ∧ (cameDue .distanceReportTimer d s → ∃ t, exec .distanceReportTimer s = .next t
      ∧ t.control = { s.control with distanceDue := some (d + 1000) }
      ∧ Placed .distanceReport (leBytes 4 s.distance.total ++ leBytes 4 s.distance.tripA) s t)

/-! ## Presence and time marks -/

/-- R129, R136: a PRESENCE frame is heard; with its starting flag set and no reply under way it starts the reply delay
of 2 ms × the own station number. At its end, which for station 0 is the same event, the part's PRESENCE, with the
starting flag clear and role CLUSTER, is placed and the reply is QUEUED; LISTEN-ONLY discards it, which returns the
reply state to NONE. That a delay which ends in SLEEP places the reply too is log 35 (DEDUCED). The line takes up the
start mark that the frame brings with it (R149, log 11). -/
def Obligations.PresenceIsAnswered : Prop :=
  (∀ (sender : BitVec 6) (payload : List Byte) (s : State), hears sender.toNat s → AwakeLaw s →
     ∃ t, exec (.presence sender payload) s = .next t
       ∧ t.roster.entries = (hearStation sender.toNat s).roster.entries
       ∧ t.roster.unlisted = (hearStation sender.toNat s).roster.unlisted
       ∧ (s.control.fallback = false → bitFlag payload 0 = true → s.roster.reply = .none →
           1 ≤ s.tables.ownStation →
           t.roster.reply = .delaying (s.now + 2 * s.tables.ownStation))
       ∧ (s.control.fallback = true ∨ bitFlag payload 0 = false ∨ s.roster.reply ≠ .none →
           t.roster.reply = s.roster.reply)
       ∧ (s.control.fallback = false → bitFlag payload 0 = true → s.roster.reply = .none →
           s.tables.ownStation = 0 →
           (s.line.state = .listenOnly →
             t.roster.reply = .none ∧ t.line = lineAfterFrame false s)
           ∧ (s.line.state ≠ .listenOnly → s.line.queue.length < 8 →
             t.roster.reply = .queued
             ∧ t.line = { lineAfterFrame true s with
                 lastOrder := s.line.lastOrder + 1
                 queue := s.line.queue ++ [waitingEntry s .presence [0x12, 0x00] (s.line.lastOrder + 1)] })
           ∧ (s.line.state ≠ .listenOnly → 8 ≤ s.line.queue.length →
             t.roster.reply = .none ∧ t.line = lineAfterFrame true s
             ∧ oneMore s.monitor[(9 : Fin 10)].raw ≤ t.monitor[(9 : Fin 10)].raw))
       ∧ Kept ([.line, .roster] ++ told) s t
       ∧ (presentAlready sender.toNat s → 1 ≤ s.tables.ownStation →
           t.line = lineAfterFrame (decide (s.line.state ≠ .listenOnly)) s
           ∧ Kept [.line, .roster] s t))
  ∧ (∀ (s : State) (d : Nat), cameDue .presenceReplyDelayEnd d s → AwakeLaw s →
     ∃ t, exec .presenceReplyDelayEnd s = .next t
       ∧ (s.line.state ≠ .listenOnly → s.line.queue.length < 8 →
           t.roster = { s.roster with reply := .queued }
           ∧ t.line.queue.length = s.line.queue.length + 1
           ∧ (∃ e ∈ t.line.queue, e.kind = .presence ∧ e.payload = [0x12, 0x00]
               ∧ e.order = s.line.lastOrder + 1)
           ∧ Kept [.line, .roster] s t)
       ∧ (s.line.state = .listenOnly →
           t.roster = { s.roster with reply := .none } ∧ Kept [.roster] s t)
       ∧ (s.line.state ≠ .listenOnly → 8 ≤ s.line.queue.length →
           t.roster = { s.roster with reply := .none } ∧ t.line = s.line
           ∧ oneMore s.monitor[(9 : Fin 10)].raw ≤ t.monitor[(9 : Fin 10)].raw))

/-- R107, R108: a time mark of the configured source with fields in range sets, steps or slews the clock and restarts
the holdover timer; any other mark is heard and leaves the clock. R107, R153: a short mark of the source counts toward
H4, a step toward H8. R170, Table 12-3: the fields of a mark are read at their bits, and the error is the mark's time
minus the clock's, each as seconds × 1000 + milliseconds. That the error is a plain difference, with no wrap, is log
27. -/
def Obligations.TimeMarkSetsStepsOrSlews : Prop :=
  ∀ (sender : BitVec 6) (payload : List Byte) (s : State), hears sender.toNat s → AwakeLaw s →
    ∃ t, exec (.timeMark sender payload) s = .next t
      ∧ Kept ([.line, .roster, .driver] ++ told) s t
      ∧ t.driver = { s.driver with clock := t.driver.clock }
      ∧ ∀ (seconds ms : Nat) (offset error : Int),
        seconds = bitField payload 0 32 → ms = bitField payload 32 10 →
        offset = (if bitField payload 42 7 < 64 then (bitField payload 42 7 : Int)
          else (bitField payload 42 7 : Int) - 128) →
        error = ((seconds : Int) * 1000 + ms) - ((s.driver.clock.seconds : Int) * 1000 + s.driver.clock.ms) →
        (s.tables.timeSource ≠ some sender.toNat ∨ payload.length < 7 ∨ 999 < ms ∨ offset < -48 ∨ 56 < offset →
          t.driver.clock = s.driver.clock)
        ∧ (s.tables.timeSource = some sender.toNat → payload.length < 7 →
          t.monitor[(4 : Fin 10)].raw = oneMore s.monitor[(4 : Fin 10)].raw)
        ∧ (s.tables.timeSource = some sender.toNat → 7 ≤ payload.length →
          ms ≤ 999 → -48 ≤ offset → offset ≤ 56 →
          t.driver.clock.holdoverDue = some (s.now + 10000)
          ∧ t.driver.clock.offset = offset
          ∧ (s.driver.clock.state = .unset ∨ 2000 < error.natAbs →
              t.driver.clock.state = .locked ∧ t.driver.clock.seconds = seconds
              ∧ t.driver.clock.ms = ms ∧ t.driver.clock.slew = none ∧ t.driver.clock.slewDue = none)
          ∧ (s.driver.clock.state ≠ .unset → 2000 < error.natAbs →
              t.monitor[(8 : Fin 10)].raw = oneMore s.monitor[(8 : Fin 10)].raw)
          ∧ (s.driver.clock.state = .unset ∨ error.natAbs ≤ 2000 →
              t.monitor[(8 : Fin 10)] = s.monitor[(8 : Fin 10)])
          ∧ (s.driver.clock.state ≠ .unset → error.natAbs ≤ 2000 →
              t.driver.clock.seconds = s.driver.clock.seconds
              ∧ t.driver.clock.ms = s.driver.clock.ms
              ∧ (error = 0 → t.driver.clock.state = .locked ∧ t.driver.clock.slew = none
                  ∧ t.driver.clock.slewDue = none)
              ∧ (error ≠ 0 → t.driver.clock.state = .slewing ∧ t.driver.clock.slew = some error
                  ∧ t.driver.clock.slewDue = some (s.now + 100))))

/-! ## Service requests and the override -/

/-- R19, R139, R158, R167, R168: the five readings and an unknown request are answered; a reading changes nothing but
the line, the mailbox and what the hearing changes. That a reading is given as it stands once the requester has been
heard is the model's choice (log 41). In LISTEN-ONLY the reply is discarded, at a full queue it is dropped and counts
toward H9; either way the mailbox is EMPTY again (R151, R167). Any request taken while the mailbox is PENDING is
dropped unexecuted and unanswered, and counts toward H9: the health attributes but for H9 keep their figures, and the
override record and the mailbox stay as they are but where the report of H9's exceedance, or that of the station heard,
bears on a RED-class demand (R57, R169). The line takes up the start mark that the frame brings with
it (R149, log 11). -/
def Obligations.ReadingsAreAnsweredOrDropped : Prop :=
  (∀ (c : Instr) (sender : BitVec 6) (code : Nat) (r : Reply) (s : State),
     readingOf c (hearStation sender.toNat s) = some (sender, code, r) → requestTaken sender s →
     TablesLaw s → AwakeLaw s →
     ∃ t, exec c s = .next t ∧ answered sender code r s.monitor[(9 : Fin 10)].raw s t
       ∧ Kept ([.line, .roster] ++ told) s t
       ∧ (presentAlready sender.toNat s → replyTaken s →
           Kept [.line, .roster, .service] s t
           ∧ t.service = { s.service with pendingReply := decide (s.line.state ≠ .listenOnly) }))
  ∧ (∀ (c : Instr) (sender : BitVec 6) (s : State), requestSender c = some sender →
     hears sender.toNat s → noIntake 126 sender.toNat s → s.service.pendingReply = true →
     TablesLaw s → AwakeLaw s →
     ∃ t, exec c s = .next t
       ∧ oneMore s.monitor[(9 : Fin 10)].raw ≤ t.monitor[(9 : Fin 10)].raw
       ∧ t.line = lineAfterFrame (acknowledges s) s ∧ t.service.pendingReply = true
       ∧ t.roster = (hearStation sender.toNat s).roster
       ∧ (t.service.override.inForce = true → s.service.override.inForce = true)
       ∧ (∀ h : Fin 10, h ≠ 9 → t.monitor[h] = s.monitor[h])
       ∧ (LampLaw s → (∀ l ∈ s.telltale.lamps, l.cls = .red → ∀ x ∈ l.demands,
             x.record.source ≠ .health none ∧ x.record.source ≠ .health (some 9)
             ∧ ∀ n, x.record.source ≠ .station n) →
           t.service = s.service)
       ∧ (presentAlready sender.toNat s →
           (countedAttribute s.tables.health[(9 : Fin 10)] s.monitor[(9 : Fin 10)]).exceeded
             = s.monitor[(9 : Fin 10)].exceeded →
           t.monitor = s.monitor.set 9
             (countedAttribute s.tables.health[(9 : Fin 10)] s.monitor[(9 : Fin 10)])
           ∧ Kept [.line, .roster, .monitor] s t)
       ∧ Kept ([.line, .roster] ++ told) s t)

/-- R19, R139, R158, R168, Table 12-5: the data bytes of the readings, by item, with the codes of Tables 8-4, 11-1 and
12-5; an item outside the table's range, an index that names no roster entry and no unlisted record, or an argument
that is missing, draws BAD-ARGUMENT. The unlisted list is read with the most recently heard record first. That each
value is read where its owner holds it is log 8 (DEDUCED). -/
def Obligations.ReadingLayouts : Prop :=
  ∀ s : State,
    (∀ rest, ∃ d0 d1 : Byte, replyReadState (0 :: rest) s = .done [d0, d1]
      ∧ bitField [d0] 0 4 = partNumber s.control.part ∧ bitFlag [d0] 4 = s.control.ready
      ∧ bitFlag [d0] 5 = s.control.errorIndication ∧ bitFlag [d0] 6 = s.control.fallback
      ∧ bitFlag [d0] 7 = s.service.override.inForce
      ∧ bitField [d1] 0 2 = lineNumber s.line.state ∧ bitField [d1] 2 2 = clockNumber s.driver.clock.state
      ∧ bitField [d1] 4 2 = storeNumber s.store.state)
    ∧ (∀ (g : Fin 6) rest, replyReadState (BitVec.ofNat 8 (g.val + 1) :: rest) s
        = .done [BitVec.ofNat 8 (channelNumber (channelOf s g).state),
            BitVec.ofNat 8 (restNumber (channelOf s g).rest), BitVec.ofNat 8 (channelOf s g).stalls,
            if (channelOf s g).fault then 1 else 0])
    ∧ (∀ (n : Fin 64) rest, ∃ d : List Byte,
        replyReadSlot (BitVec.ofNat 8 n.val :: 0 :: rest) s
          = .done (d ++ [BitVec.ofNat 8 (qualityNumber s.slots[n].quality)]) ∧ d.length = 4
        ∧ (-2147483648 ≤ s.slots[n].value → s.slots[n].value ≤ 2147483647 →
            signExtend 32 (leNat d) = s.slots[n].value))
    ∧ (∀ (n : Fin 64) rest, ∃ d : List Byte,
        replyReadSlot (BitVec.ofNat 8 n.val :: 1 :: rest) s
          = .done (BitVec.ofNat 8 (qualityNumber s.slots[n].quality) :: d) ∧ d.length = 4
        ∧ leNat d = match s.slots[n].writer with
          | some w => min 4294967294 (s.now - w.time)
          | none => 4294967295)
    ∧ (∀ (n : Fin 64) rest, replyReadSlot (BitVec.ofNat 8 n.val :: 2 :: rest) s
        = .done [BitVec.ofNat 8 (qualityNumber s.slots[n].quality),
            match s.slots[n].writer with
              | some w => BitVec.ofNat 8 w.station
              | none => 255,
            match s.slots[n].writer with
              | some w => BitVec.ofNat 8 (rankNumber w.rank)
              | none => 255])
    ∧ (∀ (i : Fin 24) rest (e : RosterEntry), s.roster.entries[i.val]? = some e →
        ∃ (b : Byte) (d : List Byte), replyReadRoster (BitVec.ofNat 8 i.val :: rest) s
            = .done (BitVec.ofNat 8 e.record.station :: b :: BitVec.ofNat 8 (entryNumber e.state) :: d)
          ∧ bitField [b] 0 4 = roleNumber e.record.role ∧ bitFlag [b] 4 = e.record.required
          ∧ bitFlag [b] 5 = e.acknowledged ∧ d.length = 2
          ∧ leNat d = match e.lastHeard with
            | some t => min 65534 ((s.now - t) / 100)
            | none => 65535)
    ∧ (∀ (i : Fin 24) rest, s.roster.entries[i.val]? = none →
        replyReadRoster (BitVec.ofNat 8 i.val :: rest) s = .badArgument)
    ∧ ((byRecency s.roster.unlisted).Perm s.roster.unlisted
        ∧ (byRecency s.roster.unlisted).Pairwise (fun u v => v.time ≤ u.time))
    ∧ (∀ (i : Fin 8) rest (u : UnlistedRecord), (byRecency s.roster.unlisted)[i.val]? = some u →
        ∃ d : List Byte, replyReadRoster (BitVec.ofNat 8 (24 + i.val) :: rest) s
            = .done (BitVec.ofNat 8 u.station :: 255 :: 255 :: d)
          ∧ d.length = 2 ∧ leNat d = min 65534 ((s.now - u.time) / 100))
    ∧ (∀ (i : Fin 8) rest, (byRecency s.roster.unlisted)[i.val]? = none →
        replyReadRoster (BitVec.ofNat 8 (24 + i.val) :: rest) s = .badArgument)
    ∧ (∀ (i : Fin 3) rest, ∃ d : List Byte,
        replyReadDistance (BitVec.ofNat 8 i.val :: rest) s
          = .done (d ++ [BitVec.ofNat 8 (storeNumber s.store.state)]) ∧ d.length = 4
        ∧ (DistanceLaw s → leNat d
            = if i = 0 then s.distance.total else if i = 1 then s.distance.tripA else s.distance.tripB))
    ∧ (∀ (h : Fin 10) rest, replyReadHealth (BitVec.ofNat 8 h.val :: rest) s
        = .done [BitVec.ofNat 8 s.monitor[h].raw, BitVec.ofNat 8 (s.monitor[h].raw / 256),
            BitVec.ofNat 8 s.monitor[h].normalized, BitVec.ofNat 8 s.monitor[h].worst,
            BitVec.ofNat 8 s.tables.health[h].threshold])
    ∧ (∀ (b : Byte) rest, 6 < b.toNat → replyReadState (b :: rest) s = .badArgument)
    ∧ (∀ (b i : Byte) rest, 63 < b.toNat ∨ 2 < i.toNat → replyReadSlot (b :: i :: rest) s = .badArgument)
    ∧ (∀ (b : Byte) rest, 31 < b.toNat → replyReadRoster (b :: rest) s = .badArgument)
    ∧ (∀ (b : Byte) rest, 9 < b.toNat → replyReadHealth (b :: rest) s = .badArgument)
    ∧ (∀ (b : Byte) rest, 2 < b.toNat → replyReadDistance (b :: rest) s = .badArgument)
    ∧ replyReadState [] s = .badArgument ∧ replyReadSlot [] s = .badArgument
    ∧ replyReadRoster [] s = .badArgument ∧ replyReadHealth [] s = .badArgument
    ∧ replyReadDistance [] s = .badArgument

/-- R157, R168: CLEAR-HEALTH resets the attributes, asks the Record Store for a write and is answered DONE (H9, which
dropped postings can count at once, apart). R165: ACK-ERROR-INDICATION clears the error indication and is answered
DONE. In LISTEN-ONLY and at a full queue the request acts, and its reply is discarded or dropped (R151, R167). That a
write attempt bears a number of its own is log 23. The line takes up the start mark that the frame brings with it
(R149, log 11). -/
def Obligations.HealthAndErrorIndicationAreCleared : Prop :=
  (∀ (sender : BitVec 6) (args : List Byte) (s : State), requestTaken sender s →
     presentAlready sender.toNat s → TablesLaw s → AwakeLaw s →
     ∃ t, exec (.clearHealth sender args) s = .next t ∧ answered sender 5 (.done []) 0 s t
       ∧ (∀ h : Fin 10, h ≠ 9 → t.monitor[h]
           = { raw := 0, normalized := 100, worst := 100, exceeded := false })
       ∧ (s.store.state = .failed → t.store = s.store)
       ∧ (s.store.state ≠ .failed → s.store.write.isSome = true →
           t.store = { s.store with requestPending := true })
       ∧ (s.store.state ≠ .failed → s.store.write = none → s.store.newestSequence < 4294967295 →
           (∃ i : Fin 20, s.store.newest ≠ some i ∧ slotLive s.store.retired i.val = true) →
           ∃ w, t.store = { s.store with write := some w, attempts := s.store.attempts + 1 }
             ∧ (∀ a : Attribute, a = { raw := 0, normalized := 100, worst := 100, exceeded := false } →
                 writeBegun (s.setMonitor (Vector.replicate 10 a)) w)
             ∧ t.distance = { s.distance with reference := s.distance.total })
       ∧ Kept ([.line, .roster, .store, .distance, .control] ++ told) s t)
  ∧ (∀ (sender : BitVec 6) (args : List Byte) (s : State), requestTaken sender s →
     TablesLaw s → AwakeLaw s →
     ∃ t, exec (.ackErrorIndication sender args) s = .next t
       ∧ answered sender 9 (.done []) s.monitor[(9 : Fin 10)].raw s t
       ∧ t.control = { s.control with errorIndication := false }
       ∧ Kept ([.line, .roster, .control] ++ told) s t)

/-- R41, R63, R167 to R169: TEST-OVERRIDE is granted in RUN with no red demand active and none in force, refused with
NOT-NOW otherwise, and answered BAD-ARGUMENT without valid arguments: pattern codes 0 to 14, any fraction, beep 0 or 1
(Table 11-3). A grant takes every enabled channel in TRACKING, HOLDING or RESTING to OVERRIDDEN, which ends its
GAUGE-FAULT (R40). That F takes the override position with the state is log 14 (DEDUCED). R21, Table 2-11: under fallback
the pointers stay RESTING (log 39). In LISTEN-ONLY and at a full queue the request acts, and its reply is discarded or
dropped (R151, R167). The line takes up the start mark that the frame brings with it (R149, log 11). -/
def Obligations.TestOverrideIsGrantedOrRefused : Prop :=
  (∀ (sender : BitVec 6) (args : List Byte) (s : State), requestTaken sender s →
     presentAlready sender.toNat s → TablesLaw s → AwakeLaw s →
     ∃ t, exec (.testOverride sender args) s = .next t ∧ Kept ([.line, .roster] ++ told) s t
       ∧ (overrideArgs args = none →
           answered sender 7 .badArgument s.monitor[(9 : Fin 10)].raw s t
           ∧ (replyTaken s → Kept [.line, .roster, .service] s t ∧ t.service.override = s.service.override))
       ∧ (∀ p fraction beep, overrideArgs args = some (p, fraction, beep) →
           s.control.part ≠ .run ∨ s.service.override.red = true ∨ s.service.override.inForce = true →
           answered sender 7 .notNow s.monitor[(9 : Fin 10)].raw s t
           ∧ (replyTaken s → Kept [.line, .roster, .service] s t ∧ t.service.override = s.service.override))
       ∧ (∀ p fraction beep, overrideArgs args = some (p, fraction, beep) →
           s.control.part = .run → s.service.override.red = false → s.service.override.inForce = false →
           FaultLaw s → s.chime.entries.length < 16 →
           answered sender 7 (.done []) s.monitor[(9 : Fin 10)].raw s t
           ∧ (replyTaken s → LampLaw s →
             t.service.override = { inForce := true, pattern := p, fraction := fraction, beep := beep,
                                    due := some (s.now + 60000), red := false }
             ∧ t.telltale.lamps.map (fun l => (l.output, l.state))
                 = s.telltale.lamps.map (fun l =>
                     (l.output, if l.state = .showing then .overridden else l.state))
             ∧ (∀ l ∈ s.telltale.lamps, l.state = .showing → ∃ m ∈ t.telltale.lamps,
                 m.output = l.output ∧ m.state = .overridden ∧ m.shown = some p)
             ∧ (∀ g : Fin 6, s.control.fallback = false → (gaugeRecord s g).enabled = true →
                 (channelOf s g).state = .tracking ∨ (channelOf s g).state = .holding
                   ∨ (channelOf s g).state = .resting →
                 (channelOf t g).state = .overridden
                 ∧ (channelOf t g).damped = 256 * ((gaugeRecord s g).fullScale * fraction / 255)
                 ∧ (channelOf t g).holdDue = none ∧ (channelOf t g).rest = none
                 ∧ (channelOf t g).fault = false)
             ∧ (s.control.fallback = true → t.gauges = s.gauges))
           ∧ (replyTaken s → beep = true → s.chime.accepting = true →
               t.chime.entries.any (fun e => e.id == .test) = true)))
  ∧ ((∀ (p f b : Byte) (rest : List Byte), p.toNat ≤ 14 → b.toNat ≤ 1 →
     ∃ pat, overrideArgs (p :: f :: b :: rest) = some (pat, f.toNat, decide (b.toNat = 1))
       ∧ (p.toNat = 0 → pat = .flicker) ∧ (p.toNat = 1 → pat = .blink)
       ∧ (2 ≤ p.toNat → p.toNat ≤ 13 → pat = .flash (p.toNat - 1)) ∧ (p.toNat = 14 → pat = .steady))
   ∧ (∀ (p f b : Byte) (rest : List Byte), 14 < p.toNat ∨ 1 < b.toNat →
       overrideArgs (p :: f :: b :: rest) = none)
   ∧ ∀ args : List Byte, args.length < 3 → overrideArgs args = none)

/-- R31, R42, R64, R168, R169: END-OVERRIDE and the override timer end an override in force: the record; the
OVERRIDDEN lamps, which enter SHOWING; and the OVERRIDDEN channels, which enter the state they call for. With none
in force the request is answered NOT-NOW. In LISTEN-ONLY and at a full queue the request acts, and its reply is
discarded or dropped (R151, R167). The line takes up the start mark that the frame brings with it (R149, log 11). -/
def Obligations.OverrideEnds : Prop :=
  (∀ (sender : BitVec 6) (args : List Byte) (s : State), requestTaken sender s →
    presentAlready sender.toNat s → TablesLaw s → AwakeLaw s →
    ∃ t, exec (.endOverride sender args) s = .next t ∧ Kept ([.line, .roster] ++ told) s t
      ∧ (s.service.override.inForce = false →
          answered sender 8 .notNow s.monitor[(9 : Fin 10)].raw s t
          ∧ (replyTaken s → Kept [.line, .roster, .service] s t ∧ t.service.override = s.service.override))
      ∧ (s.service.override.inForce = true →
          answered sender 8 (.done []) s.monitor[(9 : Fin 10)].raw s t ∧ overrideOver s t))
  ∧ ∀ (s : State) (d : Nat), cameDue .overrideExpiry d s → AwakeLaw s →
    ∃ t, exec .overrideExpiry s = .next t
      ∧ (s.service.override.inForce = false → Kept [] s t)
      ∧ (s.service.override.inForce = true → overrideOver s t ∧ Kept told s t)

/-! ## Signal Table and Gauge Engine -/

/-- R17, R34, R45: a stale expiry changes the quality of its slot and no other field; an enabled TRACKING
channel that shows the slot goes to HOLDING, or to RESTING with a hold time of 0; a running persistence
timer of its bands pauses. R26, R33, R44: a notification of a slot at the Gauge Engine moves the channels and the
bands of the gauges whose source it is, and the standstill mode of the gauges whose standstill slot it is, as
Tables 2-12 and 2-14 give, and no other gauge; an arrival that is ABSENT or FAULTED, like the stale expiry, pauses a
running persistence timer and leaves the band in any other state as it is (R45). Of a disabled gauge whose source slot it is only the bands move (R33);
that a disabled gauge's standstill mode follows a standstill slot which is not its source slot is the model's choice
(DESIGN CHOICE, log 46). What a frame with one field notifies the Gauge Engine of is the arrival of that field. -/
def Obligations.StaleExpiryHoldsAndFreezes : Prop :=
  (∀ (n : Fin 64) (s : State) (d : Nat), cameDue (.staleExpiry n) d s → AwakeLaw s →
    ∃ t, exec (.staleExpiry n) s = .next t
      ∧ t.slots = s.slots.set n { s.slots[n] with quality := .stale }
      ∧ Kept ([.slots, .roster] ++ told) s t
      ∧ (∀ g : Fin 6, (gaugeRecord s g).source = some n → (gaugeRecord s g).enabled = true →
          (channelOf s g).state = .tracking →
          ((gaugeRecord s g).holdTime ≠ 0 → (channelOf t g).state = .holding
            ∧ (channelOf t g).holdDue = some (s.now + (gaugeRecord s g).holdTime))
          ∧ ((gaugeRecord s g).holdTime = 0 → (channelOf t g).state = .resting
            ∧ (channelOf t g).rest = some .stale ∧ (channelOf t g).holdSpent = true))
      ∧ (∀ (g : Fin 6) (i : Fin 2), (gaugeRecord s g).source = some n →
          i.val < (gaugeRecord s g).bands.length →
          (channelOf t g).bands[i] = match (channelOf s g).bands[i] with
            | .running start => .paused (s.now - start)
            | b => b))
  ∧ (∀ (n : Fin 64) (ev : SlotEvent) (e : Int) (g : Fin 6) (s t : State), t = gaugeSlot n ev e s →
      (channelOf t g).position = (channelOf s g).position ∧ (channelOf t g).damped = (channelOf s g).damped
      ∧ ((gaugeRecord s g).source ≠ some n ∨ (gaugeRecord s g).enabled = false →
          channelIn t g ((channelOf s g).state, (channelOf s g).rest)
          ∧ (channelOf t g).holdSpent = (channelOf s g).holdSpent
          ∧ (channelOf t g).holdDue = (channelOf s g).holdDue)
      ∧ ((gaugeRecord s g).source = some n → (gaugeRecord s g).enabled = true →
          (ev = .value → (channelOf t g).holdSpent = false)
          ∧ ((channelOf s g).state = .tracking ∨ (channelOf s g).state = .holding
                ∨ (channelOf s g).state = .resting →
              (ev = .value → (channelOf t g).state = .tracking
                ∧ ((channelOf s g).state ≠ .tracking → (channelOf t g).holdDue = none))
              ∧ (ev = .absent → channelIn t g (.resting, some .absent) ∧ (channelOf t g).holdDue = none)
              ∧ (ev = .faulted → channelIn t g (.resting, some .faulted) ∧ (channelOf t g).holdDue = none))
          ∧ ((channelOf s g).state ≠ .tracking → (channelOf s g).state ≠ .holding →
              (channelOf s g).state ≠ .resting → channelIn t g ((channelOf s g).state, (channelOf s g).rest)))
      ∧ (∀ i : Fin 2, (gaugeRecord s g).source ≠ some n ∨ (gaugeRecord s g).bands.length ≤ i.val →
          (channelOf t g).bands[i] = (channelOf s g).bands[i])
      ∧ (∀ (i : Fin 2) (r : BandRecord), (gaugeRecord s g).source = some n →
          (gaugeRecord s g).bands[i.val]? = some r → ev ≠ .value →
          (∀ start, (channelOf s g).bands[i] = .running start →
            (channelOf t g).bands[i] = .paused (s.now - start))
          ∧ ((∀ start, (channelOf s g).bands[i] ≠ .running start) →
            (channelOf t g).bands[i] = (channelOf s g).bands[i]))
      ∧ (∀ (i : Fin 2) (r : BandRecord), (gaugeRecord s g).source = some n →
          (gaugeRecord s g).bands[i.val]? = some r → ev = .value →
          ∀ set clear : Prop,
            (set ↔ (r.direction = .high ∧ r.setLevel ≤ e ∨ r.direction = .low ∧ e ≤ r.setLevel)) →
            (clear ↔ (r.direction = .high ∧ e < r.clearLevel ∨ r.direction = .low ∧ r.clearLevel < e)) →
            ((channelOf s g).bands[i] = .inactive →
                (set → r.persistence = 0 → (channelOf t g).bands[i] = .active)
                ∧ (set → r.persistence ≠ 0 → (channelOf t g).bands[i] = .running s.now)
                ∧ (¬ set → (channelOf t g).bands[i] = .inactive))
            ∧ (∀ start, (channelOf s g).bands[i] = .running start →
                (set → (channelOf t g).bands[i] = .running start)
                ∧ (¬ set → (channelOf t g).bands[i] = .inactive))
            ∧ (∀ elapsed, (channelOf s g).bands[i] = .paused elapsed →
                (set → (channelOf t g).bands[i] = .running (s.now - elapsed))
                ∧ (¬ set → (channelOf t g).bands[i] = .inactive))
            ∧ ((channelOf s g).bands[i] = .active →
                (clear → (channelOf t g).bands[i] = .inactive)
                ∧ (¬ clear → (channelOf t g).bands[i] = .active)))
      ∧ ((∀ st, (gaugeRecord s g).standstill = some st →
            st.slot ≠ n ∨ (gaugeRecord s g).enabled = false ∧ (gaugeRecord s g).source = some n) →
          (channelOf t g).standDue = (channelOf s g).standDue
          ∧ (channelOf t g).standMode = (channelOf s g).standMode)
      ∧ (∀ st, (gaugeRecord s g).standstill = some st → st.slot = n →
          (gaugeRecord s g).enabled = true ∨ (gaugeRecord s g).source ≠ some n →
          (ev = .value → e ≤ st.threshold →
            (channelOf t g).standMode = (channelOf s g).standMode
            ∧ (channelOf t g).standDue
              = if (channelOf s g).standDue = none ∧ (channelOf s g).standMode = false then some (s.now + 2000)
                else (channelOf s g).standDue)
          ∧ (ev ≠ .value ∨ st.threshold < e →
            (channelOf t g).standDue = none ∧ (channelOf t g).standMode = false)))
  ∧ ∀ (f : Frame) (e : IntakeEntry) (d : Descriptor) (s : State), takenBy f e s → AwakeLaw s →
      e.sink = .signals → e.descriptors = [d] → ¬ shortFor d f.payload.length →
      arrivalApplied d.rank s.slots[d.target] → s.service.override.inForce = false →
      ∃ t, exec (.frameReceived f) s = .next t
        ∧ t.gauges = (gaugeSlot d.target
            (match interpretField d (extractField d f.payload) with
              | .value _ => .value
              | .absent => .absent
              | .faulted => .faulted)
            t.slots[d.target].value s).gauges

/-- R23, R25, R27, R41: a motion period of TRACKING, HOLDING, RESTING and OVERRIDDEN damps toward the target of the
state and moves by the motion rule toward the goal; nothing else changes, and the next period runs on from this one.
R29, R30, R39: the homing run, the sweep it leads to, and PARKING, which ends PARKED; a first run that ends with the
ignition off parks (R31, R38). A period of the sweep or of PARKING that does not end it drives the pointer by the
motion rule toward full scale or 0 and keeps F. R21, R31, R32: a re-homing run, a first run under fallback and the
sweep end in the state the channel calls for, all but the re-homing of a channel that was past its sweep with a
start-sequence report, which may be the event that enters RUN. The stepping mark is the model's reading of R36
(DEDUCED, log 21), the coil drive its form of the coil outputs (DESIGN CHOICE, log 37), and that a homing period's
microsteps are driven in the period after its expiry is the model's choice (DESIGN CHOICE, log 54); that F takes the override
position with the entry to OVERRIDDEN is log 14 (DEDUCED). -/
def Obligations.MotionPeriodHomesSweepsAndParks : Prop :=
  (∀ (g : Fin 6) (s : State) (d : Nat), cameDue (.motionPeriod g) d s → AwakeLaw s → FaultLaw s →
    (channelOf s g).state = .tracking ∨ (channelOf s g).state = .holding
      ∨ (channelOf s g).state = .resting ∨ (channelOf s g).state = .overridden →
    ∃ t, exec (.motionPeriod g) s = .next t
      ∧ Kept [.gauges] s t ∧ t.gauges.grace = s.gauges.grace
      ∧ (∀ g', g' ≠ g → channelOf t g' = channelOf s g')
      ∧ (channelOf t g).state = (channelOf s g).state ∧ (channelOf t g).rest = (channelOf s g).rest
      ∧ (channelOf t g).bands = (channelOf s g).bands ∧ (channelOf t g).stalls = (channelOf s g).stalls
      ∧ (channelOf t g).holdDue = (channelOf s g).holdDue
      ∧ (channelOf t g).holdSpent = (channelOf s g).holdSpent
      ∧ (channelOf t g).standDue = (channelOf s g).standDue
      ∧ (channelOf t g).standMode = (channelOf s g).standMode
      ∧ (channelOf t g).leg = (channelOf s g).leg ∧ (channelOf t g).progress = (channelOf s g).progress
      ∧ (channelOf t g).run = (channelOf s g).run ∧ (channelOf t g).fault = (channelOf s g).fault
      ∧ (channelOf t g).periodDue = some (d + 10)
      ∧ (channelOf t g).damped = (match (channelOf s g).state with
          | .overridden =>
            256 * ((gaugeRecord s g).fullScale * s.service.override.fraction / 255)
          | .resting => damp (dampingShift (gaugeRecord s g) (channelOf s g)) (gaugeRecord s g).rest
              (channelOf s g).damped
          | _ => damp (dampingShift (gaugeRecord s g) (channelOf s g))
              (characteristic (gaugeRecord s g).breakpoints (sourceSlot s g).value)
              (channelOf s g).damped)
      ∧ (∀ p, (channelOf s g).position = some p →
          ∀ m, m = moveStep (gaugeRecord s g).fullScale (gaugeRecord s g).speedLimit
              (gaugeRecord s g).acceleration (goalOf (channelOf t g).damped)
              { position := p, speed := (channelOf s g).speed, upward := (channelOf s g).upward } →
            (channelOf t g).position = some m.position ∧ (channelOf t g).speed = m.speed
            ∧ (channelOf t g).upward = m.upward
            ∧ (channelOf t g).drive = (m.position : Int) - p
            ∧ (channelOf t g).stepping = decide (m.position ≠ p)))
  ∧ ∀ (g : Fin 6) (s : State) (d : Nat), cameDue (.motionPeriod g) d s → AwakeLaw s → FaultLaw s →
    TablesLaw s →
    ∃ t, exec (.motionPeriod g) s = .next t
      ∧ ((channelOf s g).state = .homing →
          (channelOf s g).progress + (gaugeRecord s g).homingSpeed < (gaugeRecord s g).fullScale + 200 →
          channelOf t g = { channelOf s g with
            progress := (channelOf s g).progress + (gaugeRecord s g).homingSpeed,
            drive := -((gaugeRecord s g).homingSpeed : Int), stepping := false,
            periodDue := some (d + 10) }
          ∧ (∀ g', g' ≠ g → channelOf t g' = channelOf s g') ∧ Kept [.gauges] s t)
      ∧ ((channelOf s g).state = .homing →
          (gaugeRecord s g).fullScale + 200 ≤ (channelOf s g).progress + (gaugeRecord s g).homingSpeed →
          (channelOf s g).run = .first → s.control.part.ignitionOff = false →
          s.control.fallback = false →
          (channelOf t g).state = .sweeping ∧ (channelOf t g).leg = some .up
          ∧ (channelOf t g).position = some 0 ∧ (channelOf t g).speed = 0 ∧ Kept [.gauges] s t)
      ∧ ((channelOf s g).state = .homing →
          (gaugeRecord s g).fullScale + 200 ≤ (channelOf s g).progress + (gaugeRecord s g).homingSpeed →
          s.control.part.ignitionOff = true →
          (channelOf t g).state = .parked ∧ (channelOf t g).position = some 0
          ∧ (channelOf t g).periodDue = none)
      ∧ ((channelOf s g).state = .sweeping → (channelOf s g).leg = some .up →
          ∀ p c, (channelOf s g).position = some p →
          c = drivenChannel (gaugeRecord s g) (gaugeRecord s g).fullScale p d (channelOf s g) →
          channelOf t g = { c with
            leg := if c.position = some (gaugeRecord s g).fullScale then some .down else some .up }
          ∧ (∀ g', g' ≠ g → channelOf t g' = channelOf s g') ∧ Kept [.gauges] s t)
      ∧ ((channelOf s g).state = .sweeping ∧ (channelOf s g).leg = some .down
            ∨ (channelOf s g).state = .parking →
          ∀ p c, (channelOf s g).position = some p →
          c = drivenChannel (gaugeRecord s g) 0 p d (channelOf s g) → c.position ≠ some 0 →
          channelOf t g = c
          ∧ (∀ g', g' ≠ g → channelOf t g' = channelOf s g') ∧ Kept [.gauges] s t)
      ∧ ((channelOf s g).state = .homing →
          (gaugeRecord s g).fullScale + 200 ≤ (channelOf s g).progress + (gaugeRecord s g).homingSpeed →
          s.control.part.ignitionOff = false →
          (channelOf s g).run ≠ .first ∨ s.control.fallback = true →
          channelIn t g (calledFor s g s.service.override.inForce (channelOf s g))
          ∧ (channelOf t g).position = some 0 ∧ (channelOf t g).speed = 0
          ∧ (channelOf t g).damped = (if (channelOf t g).state = .overridden then
              256 * ((gaugeRecord s g).fullScale * s.service.override.fraction / 255)
              else (channelOf s g).damped)
          ∧ t.control = (if (channelOf s g).run = .rehoming then s.control
              else afterStartReport s.tables.gauges g s.control)
          ∧ Kept ([.control] ++ told) s t)
      ∧ ((channelOf s g).state = .sweeping → (channelOf s g).leg = some .down →
          ∀ p, (channelOf s g).position = some p →
          (drivenChannel (gaugeRecord s g) 0 p d (channelOf s g)).position = some 0 →
          s.control.part.ignitionOff = false →
          channelIn t g (calledFor s g s.service.override.inForce (channelOf s g))
          ∧ (channelOf t g).position = some 0 ∧ (channelOf t g).leg = none
          ∧ t.control = afterStartReport s.tables.gauges g s.control
          ∧ Kept ([.control] ++ told) s t)
      ∧ ((channelOf s g).state = .parking → ∀ p, (channelOf s g).position = some p →
          (drivenChannel (gaugeRecord s g) 0 p d (channelOf s g)).position = some 0 →
          (channelOf t g).state = .parked ∧ (channelOf t g).position = some 0
          ∧ (channelOf t g).periodDue = none)
      ∧ ((channelOf s g).state.moving = false → Kept [] s t)

/-- R36, R37: a stall of a stepping channel counts toward H0 and re-homes it; the fourth since START entry
sends it to FAILED, sets the error indication and is its start-sequence report (R32), which may enter RUN. A stall and a
hold expiry that has come due leave the channel the same in either order, with hold spent; that the stall itself spends
the hold where it is taken first is read from R36 (DEDUCED, log 48). No other stall is sensed: that a stall of a channel whose coils did not step in its last motion period changes nothing is read
from R36 (DEDUCED, log 21). That a channel entering FAILED keeps its speed is log 38 (DEDUCED). -/
def Obligations.StallRehomesOrFails : Prop :=
  (∀ (g : Fin 6) (s : State), AwakeLaw s →
    ∃ t, exec (.stall g) s = .next t
      ∧ ((gaugeRecord s g).enabled = true → (channelOf s g).state.stallSensed = true →
          (channelOf s g).stepping = true →
          t.monitor[(0 : Fin 10)].raw = oneMore s.monitor[(0 : Fin 10)].raw
          ∧ (channelOf t g).stalls = (channelOf s g).stalls + 1
          ∧ (channelOf t g).position = none
          ∧ (channelOf t g).holdDue = none ∧ (channelOf t g).damped = (channelOf s g).damped
          ∧ ((channelOf t g).holdSpent = true ↔ (channelOf s g).holdSpent = true
              ∨ (channelOf s g).state = .holding ∧ ∃ d, (channelOf s g).holdDue = some d ∧ d ≤ s.now)
          ∧ ((channelOf s g).stalls < 3 → (channelOf t g).state = .homing
              ∧ (channelOf t g).speed = 0 ∧ (channelOf t g).progress = 0
              ∧ (channelOf t g).run
                = (if (channelOf s g).state = .sweeping then .afterSweepStall else .rehoming)
              ∧ Kept told s t)
          ∧ (3 ≤ (channelOf s g).stalls → (channelOf t g).state = .failed
              ∧ (channelOf t g).speed = (channelOf s g).speed
              ∧ (channelOf t g).periodDue = none ∧ (channelOf t g).fault = true
              ∧ t.control = afterStartReport s.tables.gauges g { s.control with errorIndication := true }
              ∧ Kept ([.control] ++ told) s t))
      ∧ ((gaugeRecord s g).enabled = false ∨ (channelOf s g).state.stallSensed = false
            ∨ (channelOf s g).stepping = false → Kept [] s t))
  ∧ ∀ (g : Fin 6) (s : State) (d : Nat), AwakeLaw s → cameDue (.holdExpiry g) d s →
    (gaugeRecord s g).enabled = true → (channelOf s g).state = .holding → (channelOf s g).stepping = true →
    ∃ t u t' u', exec (.stall g) s = .next t ∧ exec (.holdExpiry g) t = .next u
      ∧ exec (.holdExpiry g) s = .next t' ∧ exec (.stall g) t' = .next u'
      ∧ channelOf u g = channelOf u' g
      ∧ (channelOf u g).holdSpent = true ∧ Kept [] t u

/-- R26, R34, R40: the hold expiry rests a HOLDING channel with reason STALE; the standstill expiry turns the
mode on; the grace expiry raises the GAUGE-FAULT of every enabled channel RESTING with reason NEVER. R43, R44:
the expiry of a running persistence timer makes the band ACTIVE and no other band. That a hold expiry outside HOLDING
changes nothing is read from R34 and R36, which stop the timer there (DEDUCED, log 48). -/
def Obligations.GaugeTimersExpire : Prop :=
  (∀ (s : State) (d : Nat), AwakeLaw s → FaultLaw s →
     (∀ g, cameDue (.holdExpiry g) d s → ∃ t, exec (.holdExpiry g) s = .next t
       ∧ ((channelOf s g).state = .holding →
           (channelOf t g).state = .resting ∧ (channelOf t g).rest = some .stale
           ∧ (channelOf t g).holdSpent = true ∧ (channelOf t g).holdDue = none
           ∧ (channelOf t g).fault = (gaugeRecord s g).enabled ∧ Kept told s t)
       ∧ ((channelOf s g).state ≠ .holding → Kept [] s t))
     ∧ (∀ g, cameDue (.standstillExpiry g) d s → ∃ t, exec (.standstillExpiry g) s = .next t
       ∧ channelOf t g = { channelOf s g with standDue := none, standMode := true }
       ∧ (∀ g', g' ≠ g → channelOf t g' = channelOf s g') ∧ Kept [.gauges] s t)
     ∧ (cameDue .neverGraceExpiry d s → ∃ t, exec .neverGraceExpiry s = .next t
       ∧ t.gauges.grace = .expired
       ∧ (∀ g, (gaugeRecord s g).enabled = true → (channelOf s g).state = .resting →
           (channelOf s g).rest = some .never → (channelOf t g).fault = true)
       ∧ Kept told s t))
  ∧ (∀ (g : Fin 6) (i : Fin 2) (s : State) (d : Nat), cameDue (.persistenceExpiry g i) d s → AwakeLaw s →
     ∃ t, exec (.persistenceExpiry g i) s = .next t
       ∧ (channelOf t g).bands[i] = .active
       ∧ (∀ (g' : Fin 6) (i' : Fin 2), g' ≠ g ∨ i' ≠ i →
           (channelOf t g').bands[i'] = (channelOf s g').bands[i'])
       ∧ Kept told s t)

/-! ## Telltales and chimes -/

/-- R49 to R51: a report of a source sets the condition of the demands that name it, ANY by the ten reports held; a
notification of a slot sets that of its SLOT-TEST demands. R52, R53, Table 3-7: each demand whose condition changes
moves as its state gives. R57: the flags follow the demands; a RED-class entry ends the override (R64). R55, R56: with
no demand entering or leaving ACTIVE nothing is posted; one that enters posts its chime and its pop-up in RUN and,
once proving has expired, in START, one that leaves takes its chime entry and its non-latched pop-up away; of two that
enter the one of the lower output and index posts first, since the changes of lamps that stand in ascending order of
output (OutputsLaw) come in ascending order of output and index. R74: a posting of a new identity at a full chime list
drops the newest entry of the lowest group, which a higher newcomer replaces, or the newcomer itself; one drop counts
toward H9. The persistence expiry, the loss mark and the stale expiry are such reports. -/
def Obligations.DemandsFollowTheirConditions : Prop :=
  (∀ (f : Demand → Bool) (s t : State), t = applyConditions f s →
     t.telltale.lamps.map (fun l => (l.output, l.cls, l.proved, l.showAfterRun, l.demands))
        = s.telltale.lamps.map (fun l => (l.output, l.cls, l.proved, l.showAfterRun,
            l.demands.map (fun d => d.update s.telltale.evaluating s.telltale.provingDue.isSome (f d))))
     ∧ t.telltale.red = classActive .red t.telltale.lamps
     ∧ t.telltale.amber = classActive .amber t.telltale.lamps
     ∧ (s.service.override.red = s.telltale.red → t.service.override.red = t.telltale.red)
     ∧ ∀ cs, cs = lampChanges s.telltale.lamps t.telltale.lamps →
        ((∀ c ∈ cs, c.cls = .red → c.entered = false) → t.service.override.inForce = s.service.override.inForce
          ∧ t.telltale.lamps.map (fun l => l.state) = s.telltale.lamps.map (fun l => l.state))
        ∧ ((∃ c ∈ cs, c.cls = .red ∧ c.entered = true) → t.service.override.inForce = false
          ∧ t.telltale.lamps.map (fun l => l.state)
            = s.telltale.lamps.map (fun l => if l.state = .overridden then .showing else l.state))
        ∧ (cs = [] → t.chime = s.chime ∧ t.readout = s.readout ∧ t.monitor = s.monitor)
        ∧ (∀ c, cs = [c] → c.entered = true → ¬ postsMade s →
            t.chime = s.chime ∧ t.readout = s.readout ∧ t.monitor = s.monitor)
        ∧ (∀ c, cs = [c] → c.entered = true → postsMade s →
            (c.record.chime = none → t.chime = s.chime)
            ∧ (∀ g, c.record.chime = some g → s.chime.accepting = true → s.chime.entries.length < 16 →
                ∃ x ∈ t.chime.entries, x.id = .demand c.output c.index ∧ x.group = g
                  ∧ x.order = s.chime.lastOrder + 1 ∧ x.bursts = 0)
            ∧ (c.record.message = none → t.readout = s.readout)
            ∧ (∀ m, c.record.message = some m → s.readout.queue.length < 8 →
                ∃ x ∈ t.readout.queue, x.message = m ∧ (popupClass c.cls).rank ≤ x.cls.rank
                  ∧ ((∀ y ∈ s.readout.queue, y.message ≠ m) → x.cls = popupClass c.cls
                      ∧ x.nonLatched = !c.record.latching ∧ x.order = s.readout.lastOrder + 1)))
        ∧ (∀ c, cs = [c] → c.entered = false →
            t.monitor = s.monitor
            ∧ (c.record.chime = none → t.chime = s.chime)
            ∧ (c.record.chime.isSome = true → t.chime.entries.map (fun x => x.id)
                = (s.chime.entries.map (fun x => x.id)).filter (fun i => i != .demand c.output c.index))
            ∧ (c.record.message = none ∨ c.record.latching = true → t.readout = s.readout)
            ∧ (∀ m, c.record.message = some m → c.record.latching = false →
                t.readout.queue = if s.readout.queue.any (fun x => x.message == m && x.nonLatched) = true then
                    settlePopups (s.readout.queue.filter (fun x => x.message != m))
                  else s.readout.queue))
        ∧ (∀ c c' m m', cs = [c, c'] → c.entered = true → c'.entered = true → postsMade s →
            c.record.message = some m → c'.record.message = some m' → m ≠ m' → s.readout.queue.length < 7 →
            (∀ y ∈ s.readout.queue, y.message ≠ m ∧ y.message ≠ m') →
            (∃ x ∈ t.readout.queue, x.message = m ∧ x.order = s.readout.lastOrder + 1)
            ∧ ∃ x ∈ t.readout.queue, x.message = m' ∧ x.order = s.readout.lastOrder + 2))
  ∧ (∀ (ls ms : List Lamp) (c : DemandChange), c ∈ lampChanges ls ms ↔
     ∃ (k : Nat) (l m : Lamp) (d e : Demand), ls[k]? = some l ∧ ms[k]? = some m
       ∧ l.demands[c.index]? = some d ∧ m.demands[c.index]? = some e
       ∧ c.output = l.output ∧ c.cls = l.cls ∧ c.record = d.record
       ∧ (c.entered = true ∧ d.state ≠ .active ∧ e.state = .active
           ∨ c.entered = false ∧ d.state = .active ∧ e.state ≠ .active))
  ∧ (∀ ls ms : List Lamp, (ls.map (fun l => l.output)).Pairwise (fun o p => o < p) →
     (lampChanges ls ms).Pairwise (fun c c' => c.output < c'.output ∨ c.output = c'.output ∧ c.index < c'.index))
  ∧ (∀ (id : ChimeId) (g : Grade) (s u : State), u = postChime id g s → s.chime.accepting = true →
     s.chime.entries.length = 16 → (∀ y ∈ s.chime.entries, y.id ≠ id) →
     (s.chime.entries.map (fun y => y.id)).Nodup → (s.chime.entries.map (fun y => y.order)).Nodup →
     u.monitor = s.monitor.set 9 (countedAttribute s.tables.health[(9 : Fin 10)] s.monitor[(9 : Fin 10)])
     ∧ Kept [.chime, .monitor] s u
     ∧ ((∀ y ∈ s.chime.entries, g.rank ≤ y.group.rank) → u.chime = s.chime)
     ∧ ∀ x ∈ s.chime.entries, x.group.rank < g.rank →
        (∀ y ∈ s.chime.entries, y = x ∨ x.group.rank < y.group.rank ∨ x.group = y.group ∧ y.order < x.order) →
        u.chime.entries.map (fun y => y.id)
          = (s.chime.entries.filter (fun y => y.id != x.id
              && !(y.state == .sounding && y.group == .notice))).map (fun y => y.id) ++ [id]
        ∧ ∃ y ∈ u.chime.entries, y.id = id ∧ y.group = g ∧ y.bursts = 0 ∧ y.order = s.chime.lastOrder + 1)
  ∧ (∀ (evaluating proving on : Bool) (d : Demand),
     (d.update evaluating proving on).record = d.record ∧ (d.update evaluating proving on).condition = on
     ∧ (evaluating = false ∨ on = d.condition → (d.update evaluating proving on).state = d.state)
     ∧ (evaluating = true → on ≠ d.condition → on = true → (d.update evaluating proving on).state = .active)
     ∧ (evaluating = true → on ≠ d.condition → on = false → d.state = .active →
         (d.update evaluating proving on).state
           = if d.record.latching = true ∧ proving = false then .latched else .inactive))
  ∧ (∀ (src : Source) (on : Bool) (s : State), ∃ f : Demand → Bool,
     takeSource src on s
        = applyConditions f (s.setTelltale { s.telltale with health := heldHealth src on s.telltale.health })
     ∧ ∀ d : Demand,
        (∀ g i, d.record.source = .band g i → f d = if src = .band g i then on else d.condition)
        ∧ (∀ g, d.record.source = .gaugeFault g → f d = if src = .gaugeFault g then on else d.condition)
        ∧ (∀ n, d.record.source = .station n → f d = if src = .station n then on else d.condition)
        ∧ (∀ n k, d.record.source = .driverTime n k → f d = if src = .driverTime n k then on else d.condition)
        ∧ (∀ h, d.record.source = .health (some h) → f d = if src = .health h then on else d.condition)
        ∧ (∀ h, d.record.source = .health none → src = .health h →
            (f d = true ↔ on = true ∨ ∃ h', h' ≠ h ∧ s.telltale.health[h'] = true))
        ∧ (d.record.source = .health none → (∀ h, src ≠ .health h) → f d = d.condition)
        ∧ ∀ n m i u, d.record.source = .slotTest n m i u → f d = d.condition)
  ∧ (∀ (n : Fin 64) (e : Int) (q : Quality) (s : State), ∃ f : Demand → Bool,
     telltaleSlot n e q s = applyConditions f s
     ∧ ∀ d : Demand,
        (∀ m invert unknown, d.record.source = .slotTest n m invert unknown →
          (q ≠ .fresh → f d = unknown)
          ∧ (q = .fresh → f d = if BitVec.ofInt 32 e &&& m = 0 then invert else !invert))
        ∧ ((∀ m invert unknown, d.record.source ≠ .slotTest n m invert unknown) → f d = d.condition))
  ∧ (∀ (g : Fin 6) (i : Fin 2) (s : State) (d : Nat), cameDue (.persistenceExpiry g i) d s → AwakeLaw s →
     ∃ t, exec (.persistenceExpiry g i) s = .next t
       ∧ ∀ l ∈ t.telltale.lamps, ∀ x ∈ l.demands, x.record.source = .band g i → x.condition = true)
  ∧ (∀ (i : Fin 24) (e : RosterEntry) (s : State) (d : Nat), cameDue (.lossMark i) d s → AwakeLaw s →
     s.roster.entries[i.val]? = some e → e.state = .silent → e.record.required = true → e.uncoupled = false →
     ∃ t, exec (.lossMark i) s = .next t
       ∧ ∀ l ∈ t.telltale.lamps, ∀ x ∈ l.demands, x.record.source = .station i.val → x.condition = true)
  ∧ ∀ (n : Fin 64) (s : State) (d : Nat), cameDue (.staleExpiry n) d s → AwakeLaw s →
     ∃ t, exec (.staleExpiry n) s = .next t
       ∧ ∀ l ∈ t.telltale.lamps, ∀ x ∈ l.demands, ∀ m invert unknown,
           x.record.source = .slotTest n m invert unknown → x.condition = unknown

/-- R62, R161: the proving expiry ends proving on every lamp; with every enabled channel's start-sequence report taken
it is the event that enters RUN. R55, R62: it makes the deferred postings of every ACTIVE demand, in the order of
output and index; R66: then that of pop-up 57 for each RED lamp whose output has a load fault recorded. The postings
are followed here where the lamps stand in ascending order of output (R46, R52; an invariant of
StepKeepsModelInvariants), so that the demands do so in output and index, and none can overflow its list; an overflow
is R74's or R87's. -/
def Obligations.ProvingExpiryMayEnterRun : Prop :=
  ∀ (s : State) (d : Nat), cameDue .provingExpiry d s → AwakeLaw s →
    ∃ t, exec .provingExpiry s = .next t
      ∧ t.telltale.provingDue = none ∧ (∀ l ∈ t.telltale.lamps, l.state ≠ .proving)
      ∧ (s.control.part = .start →
          (∀ g : Fin 6, (gaugeRecord s g).enabled = true → s.control.startDone[g] = true) →
          t.control = { s.control with part := .run, ready := true, provingEnded := true })
      ∧ (s.control.part = .start →
          (∃ g : Fin 6, (gaugeRecord s g).enabled = true ∧ s.control.startDone[g] = false) →
          t.control = { s.control with provingEnded := true })
      ∧ (s.control.part ≠ .start → t.control = s.control)
      ∧ (OutputsLaw s → (activeDemands s).Pairwise (fun x y => ∀ o i o' i',
          x.1 = .demand o i → y.1 = .demand o' i' → o < o' ∨ o = o' ∧ i < i'))
      ∧ (∀ ds, ds = activeDemands s → OutputsLaw s →
          s.chime.entries.length + (ds.filter (fun x => x.2.2.chime.isSome)).length ≤ 16 →
          s.readout.queue.length + (ds.filter (fun x => x.2.2.message.isSome)).length
            + (faultyRedLamps s).length ≤ 8 →
          t.chime = (ds.foldl chimePosted s).chime
          ∧ readoutCore t.readout
            = readoutCore ((faultyRedLamps s).foldl faultPosted (ds.foldl popupPosted s)).readout
          ∧ (∀ x ∈ ds, ∀ g, x.2.2.chime = some g → g ≠ .notice → s.chime.accepting = true →
              ∃ e ∈ t.chime.entries, e.id = x.1 ∧ e.group = g)
          ∧ (∀ x ∈ ds, ∀ m, x.2.2.message = some m →
              ∃ e ∈ t.readout.queue, e.message = m ∧ (popupClass x.2.1).rank ≤ e.cls.rank)
          ∧ (faultyRedLamps s ≠ [] →
              ∃ e ∈ t.readout.queue, e.message = 57 ∧ 1 ≤ e.cls.rank ∧ e.nonLatched = false)
          ∧ (faultyRedLamps s = [] → (∀ x ∈ ds, x.2.2.message ≠ some 57) →
              (∀ e ∈ s.readout.queue, e.message ≠ 57) → ∀ e ∈ t.readout.queue, e.message ≠ 57))
      ∧ Kept ([.control] ++ told) s t

/-- R58: a phase of the pattern an output shows ends: the next phase of its cycle, with its length; every other lamp
is as it was. R65: a load fault of a lit output is recorded and counts toward H1 once of each kind; a kind already
recorded yields nothing. R66: the first of either kind on the output of a RED lamp posts pop-up 57 at once in RUN and,
after proving, in START; any other posts nothing (what a change of H1's exceedance posts apart). That a report of a
dark output yields nothing is read from the prose of 3.8 (log 20). -/
def Obligations.LampPhasesAndLoadFaults : Prop :=
  (∀ (o : Fin 32) (s : State) (d : Nat), cameDue (.lampPhaseExpiry o) d s → AwakeLaw s →
     ∃ t, exec (.lampPhaseExpiry o) s = .next t
       ∧ Kept [.telltale] s t
       ∧ t.telltale = { s.telltale with
           lamps := s.telltale.lamps.map (fun l => if l.output = o then l.nextPhase d else l) }
       ∧ ∀ l ∈ s.telltale.lamps, ∀ p, l.shown = some p →
           (l.nextPhase d).shown = some p ∧ (l.nextPhase d).demands = l.demands
           ∧ (l.nextPhase d).phase = (match p with
               | .flicker => (l.phase + 1) % 2
               | .blink => (l.phase + 1) % 2
               | .flash n => (l.phase + 1) % (2 * n)
               | .steady => l.phase + 1)
           ∧ (p = .flicker → (l.nextPhase d).phaseDue = some (d + 125))
           ∧ (p = .blink → (l.nextPhase d).phaseDue = some (d + 500))
           ∧ ∀ n, p = .flash n → (l.nextPhase d).phaseDue
               = some (d + if (l.nextPhase d).phase + 1 = 2 * n then 1800 else 200))
  ∧ (∀ (o : Fin 32) (k : LoadKind) (s : State), AwakeLaw s →
     ∃ t, exec (.lampLoadFault o k) s = .next t
       ∧ (outputLit s o = true → s.telltale.loads[o].has k = false →
           t.telltale.loads = s.telltale.loads.set o (s.telltale.loads[o].add k)
           ∧ t.monitor[(1 : Fin 10)].raw = oneMore s.monitor[(1 : Fin 10)].raw
           ∧ Kept told s t
           ∧ ((countedAttribute s.tables.health[(1 : Fin 10)] s.monitor[(1 : Fin 10)]).exceeded
                = s.monitor[(1 : Fin 10)].exceeded →
             ∀ posts : Prop,
             (posts ↔ (∀ k', s.telltale.loads[o].has k' = false)
               ∧ (∃ l ∈ s.telltale.lamps, l.output = o ∧ l.cls = .red)
               ∧ (s.control.part = .run ∨ s.control.part = .start ∧ s.telltale.provingDue = none)) →
             (¬ posts → Kept [.telltale, .monitor] s t)
             ∧ (posts → s.readout.queue.length < 8 ∨ (∃ e ∈ s.readout.queue, e.message = 57) →
               Kept [.telltale, .monitor, .readout] s t
               ∧ ∃ e ∈ t.readout.queue, e.message = 57 ∧ e.nonLatched = false
                 ∧ ((∀ x ∈ s.readout.queue, x.message ≠ 57) → e.cls = .caution
                     ∧ e.order = s.readout.lastOrder + 1)
                 ∧ 1 ≤ e.cls.rank)))
       ∧ (outputLit s o = false ∨ s.telltale.loads[o].has k = true → Kept [] s t))

/-- R68, Table 4-3: the pattern of the SOUNDING entry: URGENT repeats three beeps, CAUTION counts its
bursts and is FINISHED after the third, NOTICE is removed after its beep. -/
def Obligations.ChimePatternRunsOn : Prop :=
  ∀ (s : State) (d : Nat), cameDue .chimePatternTimer d s → ChimeLaw s → AwakeLaw s →
    ∃ t, exec .chimePatternTimer s = .next t ∧ Kept [.chime] s t
      ∧ ∀ e, soundingEntry s.chime.entries = some e →
        (e.group = .urgent → t.chime.entries = s.chime.entries
          ∧ t.chime.phase = (s.chime.phase + 1) % 6
          ∧ t.chime.phaseDue = some (d + if t.chime.phase = 5 then 650
              else if t.chime.phase % 2 = 0 then 150 else 100))
        ∧ (e.group = .caution → s.chime.phase ≠ 2 → t.chime.entries = s.chime.entries
          ∧ t.chime.phase = (s.chime.phase + 1) % 4
          ∧ t.chime.phaseDue = some (d + if t.chime.phase = 3 then 9400 else 200))
        ∧ (e.group = .caution → s.chime.phase = 2 → e.bursts < 2 →
          t.chime.entries = s.chime.entries.map
            (fun x => if x.id = e.id then { x with bursts := e.bursts + 1 } else x)
          ∧ t.chime.phase = 3 ∧ t.chime.phaseDue = some (d + 9400))
        ∧ (e.group = .caution → s.chime.phase = 2 → 2 ≤ e.bursts →
          ∃ x ∈ t.chime.entries, x.id = e.id ∧ x.state = .finished ∧ x.bursts = e.bursts + 1)
        ∧ (e.group = .notice →
          t.chime.entries.map (fun x => x.id)
            = (s.chime.entries.filter (fun x => x.id != e.id)).map (fun x => x.id))

/-! ## Readout and buttons -/

/-- R85, R88, R106: a mark reached by a lit SHOWING entry: the 1000 ms mark changes the screen alone, the end of a
life removes the entry, and that of entry 64 is a consumption. R76: a screen write completes: the module holds what
was sent, and one further write follows a change merged behind it. R87: a posting of a new message at a full queue
drops the newest entry of the lowest class, which a higher newcomer replaces, or the newcomer itself; one drop counts
toward H9. R76 to R78, R80, R81, R85, R111, R172: every command leaves the screen composed: dark, or lit with the
icons and the lines of the SHOWING pop-up, else of the test display, else of the page. That a command composes the
screen at its end is log 6, that a text is completed with spaces log 19, that a mark which is not reached changes
nothing log 33 (each DEDUCED). -/
def Obligations.PopupMarksAndScreenWrites : Prop :=
  (∀ (m : PopupMark) (e : PopupEntry) (shown : Nat) (s : State), AwakeLaw s → ClockLaw s →
     showingPopup s.readout.queue = some e → e.state = .showing shown → popupMarkMs m ≤ shown →
     ∃ t, exec (.popupTimeMark m) s = .next t
       ∧ (readoutLit s = false ∨ markApplies m e = false → Kept [] s t)
       ∧ (m = .ms1000 → Kept [] s t)
       ∧ (readoutLit s = true → markApplies m e = true → m = .ms5000 →
           t.readout.queue = settlePopups (s.readout.queue.filter (fun x => x.message != e.message))
           ∧ Kept [.readout] s t)
       ∧ (readoutLit s = true → markApplies m e = true → m = .ms10000 →
           t.readout.queue = settlePopups (s.readout.queue.filter (fun x => x.message != 64))
           ∧ (∀ id cls text, s.driver.mailbox = .full id cls text →
               t.driver = { s.driver with mailbox := .empty, lastConsumed := id })
           ∧ Kept [.readout, .driver] s t))
  ∧ (∀ (s : State) (w : Screen), AwakeLaw s → s.readout.writing = some w →
     s.readout.composed = composeScreen s →
     ∃ t, exec .displayWriteComplete s = .next t ∧ Kept [.readout] s t
       ∧ t.readout = (if s.readout.again then
           { s.readout with moduleScreen := some w, writing := some s.readout.composed, again := false }
         else { s.readout with moduleScreen := some w, writing := none }))
  ∧ (∀ (m : Nat) (cls : Grade) (nonLatched : Bool) (s u : State), u = postPopup m cls nonLatched s →
     s.readout.queue.length = 8 → (∀ y ∈ s.readout.queue, y.message ≠ m) →
     (s.readout.queue.map (fun y => y.message)).Nodup → (s.readout.queue.map (fun y => y.order)).Nodup →
     u.monitor = s.monitor.set 9 (countedAttribute s.tables.health[(9 : Fin 10)] s.monitor[(9 : Fin 10)])
     ∧ Kept [.readout, .monitor] s u
     ∧ ((∀ y ∈ s.readout.queue, cls.rank ≤ y.cls.rank) → u.readout = s.readout)
     ∧ ∀ x ∈ s.readout.queue, x.cls.rank < cls.rank →
        (∀ y ∈ s.readout.queue, y = x ∨ x.cls.rank < y.cls.rank ∨ x.cls = y.cls ∧ y.order < x.order) →
        u.readout = { s.readout with
          lastOrder := s.readout.lastOrder + 1
          queue := settlePopups (s.readout.queue.filter (fun y => y.message != x.message)
            ++ [{ message := m, cls := cls, nonLatched := nonLatched, order := s.readout.lastOrder + 1,
                  state := .queued }]) })
  ∧ (∀ (c : Instr) (s t : State), exec c s = .next t → t.readout.composed = composeScreen t)
  ∧ (∀ s : State, composeScreen s ≠ s.readout.composed → (refreshScreen s).readout
      = (if s.readout.writing.isSome then { s.readout with composed := composeScreen s, again := true }
         else { s.readout with composed := composeScreen s, writing := some (composeScreen s) }))
  ∧ (∀ s : State, readoutLit s = true ↔ s.control.part = .start ∨ s.control.part = .run
      ∨ s.control.part = .afterRun ∨ s.control.part = .listening ∧ s.readout.windowDue.isSome = true)
  ∧ (∀ s : State, readoutLit s = false → composeScreen s = darkScreen)
  ∧ ∀ (s : State) (w : Screen), readoutLit s = true → w = composeScreen s →
      w.lit = true
      ∧ driverIcons (driverRecord s 0) w.icons.activity1 w.icons.card1
      ∧ driverIcons (driverRecord s 1) w.icons.activity2 w.icons.card2
      ∧ (w.icons.clock = true ↔ s.driver.clock.state ≠ .unset)
      ∧ (∀ e time text, showingPopup s.readout.queue = some e → e.state = .showing time →
          (e.message = 64 ∧ (∃ id cls, s.driver.mailbox = .full id cls text)
            ∨ (∃ x ∈ builtInTexts, e.message = x.1 ∧ text = x.2.map (fun c => BitVec.ofNat 7 c.toNat))
            ∨ e.message < 56 ∧ ∃ x : ConfigText, (s.tables.texts.filter (fun x => x.message == e.message)).getLast?
                = some x ∧ text = x.codes) →
          (w.line1, w.line2) = popupShown text time
            (s.readout.queue.filter (fun x => x.state == .queued)).length)
      ∧ (showingPopup s.readout.queue = none → s.service.override.inForce = true →
          w.line1 = shown (spaces 8 ++ ['T', 'E', 'S', 'T'] ++ spaces 8) ∧ w.line2 = shown (spaces 20))
      ∧ (showingPopup s.readout.queue = none → s.service.override.inForce = false → DistanceLaw s →
          w.line1 = shown (pageShown s s.readout.page).1 ∧ w.line2 = shown (pageShown s s.readout.page).2)

/-- R89, R92: a debounced press starts the long-press timer; the press of PAGE in SLEEP is the wake into LISTENING
with the window started on the home page, and is held; a level that agrees stops the debounce timer and changes
nothing else. R54, R72, R86, R88, R90, R106, R135: the release that ends an ACK short press in START, RUN or
AFTER-RUN, or in LISTENING with the window running, is one ACK event at the readout, the chimes, the telltales and the
roster; the ACK count rises by 1 modulo 16; in LISTENING the window restarts (Table 5-5); where it removes entry 64
that is a consumption. In any other state it is refused. R89: the release of a held button, the release after a long
press, and any release of TRIP give nothing; the release clears the held mark. -/
def Obligations.AckShortPressAcknowledges : Prop :=
  (∀ (b : Button) (s : State) (d : Nat), cameDue (.buttonDebounceExpiry b) d s → AwakeLaw s →
    ((buttonOf s b).raw = true → (buttonOf s b).pressed = false →
      ∃ t, exec (.buttonDebounceExpiry b) s = .next t
        ∧ (buttonOf t b).pressed = true ∧ (buttonOf t b).longDue = some (s.now + 2000)
        ∧ (buttonOf t b).debounceDue = none ∧ (∀ b', b' ≠ b → buttonOf t b' = buttonOf s b')
        ∧ (b ≠ .page ∨ s.control.part ≠ .sleep →
            Kept [.readout] s t ∧ (buttonOf t b).held = (buttonOf s b).held
            ∧ t.readout.queue = s.readout.queue ∧ t.readout.page = s.readout.page
            ∧ t.readout.windowDue = s.readout.windowDue ∧ t.readout.ackCount = s.readout.ackCount
            ∧ t.readout.lastOrder = s.readout.lastOrder ∧ t.readout.moduleScreen = s.readout.moduleScreen)
        ∧ (b = .page → s.control.part = .sleep →
            t.control.part = .listening ∧ t.readout.windowDue = some (s.now + 30000)
            ∧ t.readout.page = homePage s.tables ∧ readoutLit t = true
            ∧ (buttonOf t b).held = true ∧ t.line.settling = true
            ∧ t.control.statusDue = some (s.now + 1000) ∧ t.control.distanceDue = some (s.now + 1000)
            ∧ Kept ([.control, .line, .roster] ++ told) s t))
    ∧ ((buttonOf s b).raw = (buttonOf s b).pressed →
      ∃ t, exec (.buttonDebounceExpiry b) s = .next t ∧ Kept [.readout] s t
        ∧ buttonOf t b = { buttonOf s b with debounceDue := none }
        ∧ (∀ b', b' ≠ b → buttonOf t b' = buttonOf s b')
        ∧ t.readout.queue = s.readout.queue ∧ t.readout.page = s.readout.page
        ∧ t.readout.windowDue = s.readout.windowDue ∧ t.readout.ackCount = s.readout.ackCount
        ∧ t.readout.lastOrder = s.readout.lastOrder ∧ t.readout.moduleScreen = s.readout.moduleScreen))
  ∧ (∀ (s : State) (d : Nat), cameDue (.buttonDebounceExpiry .ack) d s →
    (buttonOf s .ack).raw = false → (buttonOf s .ack).pressed = true → (buttonOf s .ack).held = false →
    (buttonOf s .ack).longDue.isSome = true →
    s.control.part.driving = true ∨ s.control.part = .listening ∧ s.readout.windowDue.isSome = true →
    ∃ t, exec (.buttonDebounceExpiry .ack) s = .next t
      ∧ t.readout.ackCount = (s.readout.ackCount + 1) % 16
      ∧ t.readout.page = s.readout.page ∧ t.readout.lastOrder = s.readout.lastOrder
      ∧ t.readout.windowDue
        = (if s.control.part = .listening then some (s.now + 30000) else s.readout.windowDue)
      ∧ (buttonOf t .ack).pressed = false ∧ (buttonOf t .ack).longDue = none
      ∧ t.chime.entries = (s.chime.entries.filter (fun e => e.group != .notice)).map
          (fun e => { e with state := .silenced })
      ∧ sounderOn t.chime = false
      ∧ t.roster = { s.roster with entries := s.roster.entries.map (fun e =>
          if e.state = .lost then { e with acknowledged := true } else e) }
      ∧ t.telltale.lamps.map (fun l => (l.output, l.state, l.demands))
          = s.telltale.lamps.map (fun l => (l.output, l.state, l.demands.map (fun x =>
              if x.state = .latched then { x with state := .inactive } else x)))
      ∧ (∀ e, showingPopup s.readout.queue = some e → 1000 ≤ e.timeShown →
          t.readout.queue
            = settlePopups (s.readout.queue.filter (fun x => x.message != e.message))
          ∧ (∀ id cls text, e.message = 64 → s.driver.mailbox = .full id cls text →
              t.driver = { s.driver with mailbox := .empty, lastConsumed := id })
          ∧ (e.message ≠ 64 → t.driver = s.driver))
      ∧ (∀ e, showingPopup s.readout.queue = some e → e.timeShown < 1000 →
          t.readout.queue = s.readout.queue ∧ t.driver = s.driver)
      ∧ (showingPopup s.readout.queue = none → t.readout.queue = s.readout.queue ∧ t.driver = s.driver)
      ∧ Kept [.readout, .chime, .telltale, .roster, .driver] s t)
  ∧ (∀ (s : State) (d : Nat), cameDue (.buttonDebounceExpiry .ack) d s → AwakeLaw s →
    (buttonOf s .ack).raw = false → (buttonOf s .ack).pressed = true →
    s.control.part = .listening ∧ s.readout.windowDue = none ∨ s.control.part = .sleep
      ∨ s.control.part = .loading →
    ∃ t, exec (.buttonDebounceExpiry .ack) s = .next t ∧ Kept [.readout] s t
      ∧ buttonOf t .ack = { buttonOf s .ack with
          debounceDue := none, pressed := false, longDue := none, held := false }
      ∧ t.readout.queue = s.readout.queue ∧ t.readout.page = s.readout.page
      ∧ t.readout.windowDue = s.readout.windowDue ∧ t.readout.ackCount = s.readout.ackCount)
  ∧ ∀ (b : Button) (s : State) (d : Nat), cameDue (.buttonDebounceExpiry b) d s → AwakeLaw s →
    (buttonOf s b).raw = false → (buttonOf s b).pressed = true →
    (buttonOf s b).held = true ∨ (buttonOf s b).longDue = none ∨ b = .trip →
    ∃ t, exec (.buttonDebounceExpiry b) s = .next t ∧ Kept [.readout] s t
      ∧ buttonOf t b = { buttonOf s b with
          debounceDue := none, pressed := false, longDue := none, held := false }
      ∧ (∀ b', b' ≠ b → buttonOf t b' = buttonOf s b')
      ∧ t.readout.queue = s.readout.queue ∧ t.readout.page = s.readout.page
      ∧ t.readout.windowDue = s.readout.windowDue ∧ t.readout.ackCount = s.readout.ackCount
      ∧ t.readout.lastOrder = s.readout.lastOrder ∧ t.readout.moduleScreen = s.readout.moduleScreen

/-- R79: the home page, and the next enabled page of the ring from each page under any enables. R79, R91, R92: while
the lines show a pop-up or the test display the page is covered: a PAGE short press does not advance it; in LISTENING
such a press still restarts the window. With the page not covered, PAGE advances to the next enabled page. R91, R93,
R116: a long press of TRIP in RUN or AFTER-RUN on an uncovered page resets the trip the page shows, and nothing else
of the distances; any other long press resets nothing. -/
def Obligations.PageAndTripActOnAnUncoveredPage : Prop :=
  (∀ (s : State) (d : Nat), cameDue (.buttonDebounceExpiry .page) d s → AwakeLaw s →
     (buttonOf s .page).raw = false → (buttonOf s .page).pressed = true →
     (buttonOf s .page).held = false → (buttonOf s .page).longDue.isSome = true →
     ∃ t, exec (.buttonDebounceExpiry .page) s = .next t ∧ Kept [.readout] s t
       ∧ (buttonOf t .page).pressed = false ∧ t.readout.queue = s.readout.queue
       ∧ t.readout.ackCount = s.readout.ackCount
       ∧ (s.control.part = .run ∨ s.control.part = .afterRun →
           t.readout.windowDue = s.readout.windowDue
           ∧ t.readout.page = (if coveredPage s then s.readout.page
               else nextPage s.tables.pages s.readout.page))
       ∧ (s.control.part = .listening → s.readout.windowDue.isSome = true →
           t.readout.windowDue = some (s.now + 30000)
           ∧ t.readout.page = (if coveredPage s then s.readout.page
               else nextPage s.tables.pages s.readout.page))
       ∧ (s.control.part = .listening → s.readout.windowDue = none →
           t.readout.windowDue = some (s.now + 30000) ∧ t.readout.page = homePage s.tables)
       ∧ (s.control.part = .start ∨ s.control.part = .sleep ∨ s.control.part = .loading →
           t.readout.windowDue = s.readout.windowDue ∧ t.readout.page = s.readout.page))
  ∧ (∀ (b : Button) (s : State) (d : Nat), cameDue (.longPressExpiry b) d s → AwakeLaw s →
     ∃ t, exec (.longPressExpiry b) s = .next t ∧ Kept [.readout, .distance] s t
       ∧ buttonOf t b = { buttonOf s b with longDue := none }
       ∧ t.readout.queue = s.readout.queue ∧ t.readout.page = s.readout.page
       ∧ t.distance = (if b = .trip ∧ (buttonOf s b).pressed = true ∧ (buttonOf s b).held = false
             ∧ (s.control.part = .run ∨ s.control.part = .afterRun) ∧ ¬ coveredPage s then
           match s.readout.page with
           | .distance => { s.distance with tripA := 0 }
           | .tripB => { s.distance with tripB := 0 }
           | _ => s.distance
         else s.distance))
  ∧ (∀ t : Tables, homePage t = (if (∃ e ∈ t.intake, e.sink = .driverStatus1 ∨ e.sink = .driverStatus2)
      ∧ t.pages.driver1 = true then .driver1 else .distance))
  ∧ ∀ (en : PageEnables) (ring : List Page) (i k : Nat) (p q : Page),
      ring = [.driver1, .driver2, .distance, .tripB, .clock] →
      ring[i]? = some p → ring[(i + k) % 5]? = some q → 1 ≤ k → k ≤ 5 →
      (∀ j x, 1 ≤ j → j < k → ring[(i + j) % 5]? = some x → pageEnabled en x = false) →
      pageEnabled en q = true → nextPage en p = q

/-! ## Driver time, clock -/

/-- R98, R100, R101: at its stale expiry a record keeps its snapshot and second count, shows no figure and holds
none of the first three warnings. R99, R101: a second mark adds one to e and keeps the snapshot; the warnings
of a DRIVE record are formed anew on the extrapolated figures, those of any other record stand. R102: the
speed sample finds the road moving above 5 km/h or not, and forms RECORDER-LOST of both drivers anew. -/
def Obligations.DriverRecordsAge : Prop :=
  (∀ (n : Fin 2) (s : State) (d : Nat), cameDue (.driverStaleExpiry n) d s → AwakeLaw s →
     ∃ t, exec (.driverStaleExpiry n) s = .next t
       ∧ (driverRecord t n).state = .stale
       ∧ (driverRecord t n).snapshot = (driverRecord s n).snapshot
       ∧ (driverRecord t n).elapsed = (driverRecord s n).elapsed
       ∧ displayed (driverRecord t n) = Figures.none
       ∧ (driverRecord t n).warnings.breakSoon = false
       ∧ (driverRecord t n).warnings.breakOverdue = false
       ∧ (driverRecord t n).warnings.dailySoon = false
       ∧ (driverRecord t n).warnings.recorderLost = (cardInserted (driverRecord s n) && s.driver.moving)
       ∧ (∀ n', n' ≠ n → driverRecord t n' = driverRecord s n')
       ∧ t.driver = { s.driver with records := t.driver.records }
       ∧ Kept ([.driver] ++ told) s t)
  ∧ (∀ (n : Fin 2) (s : State) (d : Nat), cameDue (.secondMark n) d s → AwakeLaw s →
     ∃ t, exec (.secondMark n) s = .next t
       ∧ (driverRecord t n).elapsed = (driverRecord s n).elapsed + 1
       ∧ (driverRecord t n).snapshot = (driverRecord s n).snapshot
       ∧ (driverRecord t n).state = .current
       ∧ (isDriving (driverRecord s n) = false →
           (driverRecord t n).warnings = (driverRecord s n).warnings ∧ Kept [.driver] s t)
       ∧ (isDriving (driverRecord s n) = true → ∀ p, (driverRecord s n).snapshot = some p →
           (driverRecord t n).warnings.recorderLost = (driverRecord s n).warnings.recorderLost
           ∧ ((driverRecord t n).warnings.breakSoon = true ↔ p.card = .inserted ∧ ∃ v, p.toBreak = some v
               ∧ v - ((driverRecord s n).elapsed + 1) ≤ s.tables.warningLead * 60)
           ∧ ((driverRecord t n).warnings.breakOverdue = true ↔ p.card = .inserted
               ∧ ∃ v, p.toBreak = some v ∧ v ≤ (driverRecord s n).elapsed + 1)
           ∧ ((driverRecord t n).warnings.dailySoon = true ↔ p.card = .inserted ∧ ∃ v, p.toDaily = some v
               ∧ v - ((driverRecord s n).elapsed + 1) ≤ s.tables.warningLead * 60))
       ∧ (∀ n', n' ≠ n → driverRecord t n' = driverRecord s n')
       ∧ t.driver = { s.driver with records := t.driver.records }
       ∧ Kept ([.driver] ++ told) s t)
  ∧ (∀ (s : State) (d : Nat), cameDue .driverSpeedSample d s → AwakeLaw s →
     ∃ t, exec .driverSpeedSample s = .next t
       ∧ t.driver.sampleDue = some (d + 1000)
       ∧ (t.driver.moving = true ↔
           s.slots[s.tables.roadSlot].quality = .fresh ∧ 500 < s.slots[s.tables.roadSlot].value)
       ∧ (∀ n : Fin 2, driverRecord t n = { driverRecord s n with
           warnings := { (driverRecord s n).warnings with
             recorderLost := (driverRecord s n).state == .stale && cardInserted (driverRecord s n)
               && t.driver.moving } })
       ∧ t.driver.clock = s.driver.clock ∧ t.driver.mailbox = s.driver.mailbox
       ∧ t.driver.lastConsumed = s.driver.lastConsumed
       ∧ Kept ([.driver] ++ told) s t)

/-- R109, R110: a positive slew step gives the clock 1 ms; the ms of its ordinary advance that a negative one gives up
is missing already, so that the clock never runs backward (that it is the ms that ends at the step is log 27); both
move the slew remaining toward 0, where the clock is LOCKED; the holdover expiry makes a LOCKED or SLEWING clock
HOLDOVER. R111: a whole second of the wall clock that has been passed is reported once; an UNSET clock has none. A
second still to come is awaited (the model's choice, log 26), longer by each ms that the clock gives up. -/
def Obligations.ClockSlewsHoldsOverAndPassesSeconds : Prop :=
  (∀ (s : State) (d : Nat), AwakeLaw s → ClockLaw s →
     (cameDue .slewStep d s → ∃ t, exec .slewStep s = .next t
       ∧ Kept [.driver] s t ∧ t.driver = { s.driver with clock := t.driver.clock }
       ∧ ∀ r, s.driver.clock.slew = some r → r ≠ 0 → s.driver.clock.state = .slewing →
           t.driver.clock.offset = s.driver.clock.offset
           ∧ t.driver.clock.holdoverDue = s.driver.clock.holdoverDue
           ∧ (0 < r → (clockMs t.driver.clock.seconds t.driver.clock.ms : Int)
               = (clockMs s.driver.clock.seconds s.driver.clock.ms + 1) % 4294967296000)
           ∧ (r < 0 → t.driver.clock.seconds = s.driver.clock.seconds
               ∧ t.driver.clock.ms = s.driver.clock.ms)
           ∧ (r = 1 ∨ r = -1 → t.driver.clock.state = .locked ∧ t.driver.clock.slew = none
               ∧ t.driver.clock.slewDue = none)
           ∧ (r ≠ 1 → r ≠ -1 → t.driver.clock.state = .slewing
               ∧ t.driver.clock.slew = some (if 0 < r then r - 1 else r + 1)
               ∧ t.driver.clock.slewDue = some (d + 100)))
     ∧ (cameDue .holdoverExpiry d s → ∃ t, exec .holdoverExpiry s = .next t
       ∧ Kept [.driver] s t
       ∧ (s.driver.clock.state = .locked ∨ s.driver.clock.state = .slewing →
           t.driver = { s.driver with clock := { s.driver.clock with
             state := .holdover, slew := none, slewDue := none, holdoverDue := none } })
       ∧ (s.driver.clock.state = .unset ∨ s.driver.clock.state = .holdover →
           t.driver = { s.driver with clock := { s.driver.clock with holdoverDue := none } })))
  ∧ (∀ s : State, AwakeLaw s → ClockLaw s →
     ∃ t, exec .clockSecond s = .next t
       ∧ (s.driver.clock.state = .unset → Kept [] s t)
       ∧ (s.driver.clock.state ≠ .unset → s.driver.clock.reported ≠ some s.driver.clock.seconds →
           t.driver = { s.driver with clock := { s.driver.clock with
             reported := some s.driver.clock.seconds } } ∧ Kept [.driver] s t)
       ∧ (s.driver.clock.state ≠ .unset → s.driver.clock.reported = some s.driver.clock.seconds →
           s.now + (1000 - s.driver.clock.ms) ≤ t.now
           ∧ ((∀ m, s.now < m → m ≤ t.now → ¬ givesUpAt s.driver.clock m) →
               t.now = s.now + (1000 - s.driver.clock.ms))
           ∧ (∀ r due, s.driver.clock.slew = some r → r < 0 → s.driver.clock.slewDue = some due →
               t.now = s.now + (1000 - s.driver.clock.ms) + ((List.range r.natAbs).filter (fun j =>
                 decide (s.now < due + 100 * j ∧ due + 100 * j ≤ t.now))).length)
           ∧ t.driver.clock.seconds = (s.driver.clock.seconds + 1) % 4294967296
           ∧ t.driver.clock.ms = 0 ∧ t.driver.clock.reported = some t.driver.clock.seconds
           ∧ Kept [.time, .driver, .readout] s t))

/-! ## Distance and Record Store -/

/-- R113, R114, R117: a sample of a FRESH road speed slot adds its clamped value and counts the 10 m unit it
completes into the total, which saturates, and into both trips, which wrap; a saturated total asks for no
write by distance; a slot that is not FRESH adds nothing. -/
def Obligations.DistanceSampleIntegrates : Prop :=
  ∀ (s : State) (d : Nat), cameDue .distanceSample d s → AwakeLaw s → DistanceLaw s →
    ∃ t, exec .distanceSample s = .next t
      ∧ Kept ([.distance, .store, .control] ++ told) s t
      ∧ t.distance.sampleDue = some (d + 100)
      ∧ (s.slots[s.tables.roadSlot].quality ≠ .fresh →
          t.distance = { s.distance with sampleDue := some (d + 100) } ∧ Kept [.distance] s t)
      ∧ (s.slots[s.tables.roadSlot].quality = .fresh →
          ∀ sum, sum = s.distance.accumulator
              + (max 0 (min 25000 s.slots[s.tables.roadSlot].value)).toNat →
          (sum < 36000 →
            t.distance = { s.distance with sampleDue := some (d + 100), accumulator := sum }
            ∧ Kept [.distance] s t)
          ∧ (36000 ≤ sum →
            t.distance.accumulator = sum - 36000
            ∧ t.distance.total = min 999999999 (s.distance.total + 1)
            ∧ t.distance.tripA = (if s.distance.tripA = 9999999 then 0 else s.distance.tripA + 1)
            ∧ t.distance.tripB = (if s.distance.tripB = 9999999 then 0 else s.distance.tripB + 1)
            ∧ (s.distance.total < 999999999 → s.distance.reference + 100 ≤ s.distance.total + 1 →
                t.store = (requestWrite { s with distance := { t.distance with
                  reference := s.distance.reference } }).store)
            ∧ (s.distance.total + 1 < s.distance.reference + 100 → t.store = s.store)
            ∧ (s.distance.total = 999999999 → t.store = s.store)))

/-- R121: programming complete enters VERIFYING with 20 ms for the read-back; a read-back that agrees verifies
the write: newest slot, newest sequence and, with a health block, the health reference (R119). R122: a first
attempt that fails, by a read-back that differs or by its timer, is repeated in the same slot with the same
record; a second failure retires the slot, which the health reference gives up, counts toward H6 and, while the
store is not FAILED, rewrites the record elsewhere with the new slot map, its health block decided anew over the worst
values that it holds, in the first LIVE slot after the newest (R120). R124, R165: a retirement that changes the store state posts pop-up 61, and one that makes it FAILED sets the
error indication (what a change of H6's exceedance posts apart). R123: a verified write with a request
pending is followed by one further write of the live values, whose record, health block and target are those of any
write that starts (R118 to R120). An idle store may be the event that enters SLEEP
(R163). A report of an attempt that has ended is disregarded (R121); that a report names its attempt by number, and
that one which comes without its phase changes nothing, is log 23; that the 20 ms of an attempt run from the event
that begins it is log 24. -/
def Obligations.WriteAttemptsVerifyRepeatOrRetire : Prop :=
  (∀ (n : Nat) (s : State), AwakeLaw s →
     ∃ t, exec (.programmingComplete n) s = .next t
       ∧ (∀ w, s.store.write = some w → w.phase = .programming → w.number = n →
           t.store = { s.store with write := some { w with phase := .verifying, due := s.now + 20 } }
           ∧ Kept [.store] s t)
       ∧ ((∀ w, s.store.write = some w → w.phase ≠ .programming ∨ w.number ≠ n) → Kept [] s t))
  ∧ (∀ (n : Nat) (bytes : List Byte) (s : State), AwakeLaw s →
     (∀ w, s.store.write = some w → w.phase ≠ .verifying ∨ w.number ≠ n) →
     ∃ t, exec (.readBackComplete bytes n) s = .next t ∧ Kept [] s t)
  ∧ (∀ (s : State) (w : Write), s.store.write = some w → w.phase = .verifying →
     ∃ t, exec (.readBackComplete w.sent w.number) s = .next t
       ∧ t.store.newest = some w.target ∧ t.store.requestPending = false
       ∧ t.store.health = (match w.record.health with
           | some h => some { worst := h, slot := some w.target }
           | none => s.store.health)
       ∧ (s.store.requestPending = false ∨ s.store.state = .failed →
           t.store = { s.store with
             newest := some w.target, newestSequence := w.record.sequence, write := none
             requestPending := false, health := t.store.health }
           ∧ (s.control.part = .listening ∧ s.line.peersQuiet = true ∧ s.readout.windowDue = none →
               t.control = { s.control with part := .sleep, statusDue := none, distanceDue := none }
               ∧ Kept [.store, .control, .line, .roster, .service] s t)
           ∧ (¬ (s.control.part = .listening ∧ s.line.peersQuiet = true ∧ s.readout.windowDue = none) →
               Kept [.store] s t))
       ∧ (s.store.requestPending = true → s.store.state ≠ .failed → w.record.sequence < 4294967295 →
           (∃ i : Fin 20, i ≠ w.target ∧ slotLive s.store.retired i.val = true) →
           (∃ w', t.store = { s.store with
               newest := some w.target, newestSequence := w.record.sequence, write := some w'
               attempts := s.store.attempts + 1, requestPending := false, health := t.store.health }
             ∧ writeBegun { s with store := { s.store with
                 newest := some w.target, newestSequence := w.record.sequence, health := t.store.health } } w')
           ∧ t.distance = { s.distance with reference := s.distance.total }
           ∧ Kept [.store, .distance] s t))
  ∧ (∀ (c : Instr) (s : State) (w : Write), AwakeLaw s → s.store.write = some w →
     ((∃ bytes, c = .readBackComplete bytes w.number ∧ w.phase = .verifying ∧ bytes ≠ w.sent)
       ∨ c = .writeAttemptTimeout ∧ w.due ≤ s.now) →
     ∃ t, exec c s = .next t
       ∧ (w.second = false →
           t.store = { s.store with
             write := some { w with
               second := true, phase := .programming, due := s.now + 20, number := s.store.attempts + 1 }
             attempts := s.store.attempts + 1 } ∧ Kept [.store] s t)
       ∧ (w.second = true →
           t.store.retired = s.store.retired ||| BitVec.twoPow 20 w.target.val
           ∧ t.monitor[(6 : Fin 10)].raw = oneMore s.monitor[(6 : Fin 10)].raw
           ∧ t.store.newest = s.store.newest ∧ t.store.newestSequence = s.store.newestSequence
           ∧ t.store.state = storeStateOf t.store.retired
           ∧ t.store.health = s.store.health.map (fun ref =>
               if ref.slot = some w.target then { ref with slot := none } else ref)
           ∧ (storeStateOf t.store.retired = .failed → t.store.write = none ∧ t.store.requestPending = false)
           ∧ (storeStateOf t.store.retired ≠ .failed → Kept ([.store] ++ told) s t
               ∧ t.store.requestPending = s.store.requestPending ∧ ∃ w', t.store.write = some w'
               ∧ firstAttemptOf s w'
               ∧ w'.record.sequence = w.record.sequence ∧ w'.record.total = w.record.total
               ∧ w'.record.tripA = w.record.tripA ∧ w'.record.tripB = w.record.tripB
               ∧ w'.record.stamp = w.record.stamp ∧ w'.record.retired = t.store.retired
               ∧ w'.worst = w.worst ∧ blockDecided t.store.health w'
               ∧ s.store.newest ≠ some w'.target ∧ firstLiveAfter s.store.newest t.store.retired w'.target)
           ∧ t.control.errorIndication = (s.control.errorIndication
               || decide (storeStateOf t.store.retired = .failed ∧ s.store.state ≠ .failed))
           ∧ ((countedAttribute s.tables.health[(6 : Fin 10)] s.monitor[(6 : Fin 10)]).exceeded
                = s.monitor[(6 : Fin 10)].exceeded →
             (storeStateOf t.store.retired = s.store.state → t.readout.queue = s.readout.queue)
             ∧ (storeStateOf t.store.retired ≠ s.store.state → storeStateOf t.store.retired ≠ .good →
               s.readout.queue.length < 8 ∨ (∃ e ∈ s.readout.queue, e.message = 61) →
               ∃ e ∈ t.readout.queue, e.message = 61 ∧ e.nonLatched = false ∧ 1 ≤ e.cls.rank
                 ∧ ((∀ x ∈ s.readout.queue, x.message ≠ 61) → e.cls = .caution
                     ∧ e.order = s.readout.lastOrder + 1)))))

/-! ## Roster -/

/-- R130, R132: the silence mark makes a PRESENT entry SILENT; the loss mark makes a SILENT, required entry
whose coupling reads COUPLED LOST and stops its timer; the close of the census makes UNKNOWN entries ABSENT
or SILENT; no other entry changes. R133, R134: a notification of a coupling slot reads UNCOUPLED, which releases the
entries that name it, or COUPLED, which returns RELEASED ones to SILENT; the stale expiry is one. R138: a station
that no entry names is kept in the unlisted list, the one heard longest ago giving way. -/
def Obligations.RosterMarksAndCensus : Prop :=
  (∀ (s : State) (d : Nat), AwakeLaw s →
    (∀ i : Fin 24, cameDue (.silenceMark i) d s → ∃ t, exec (.silenceMark i) s = .next t
      ∧ t.roster = { s.roster with entries := s.roster.entries.modify i.val (fun e =>
          if e.state = .present then { e with state := .silent } else e) }
      ∧ Kept ([.roster] ++ told) s t)
    ∧ (∀ i : Fin 24, cameDue (.lossMark i) d s → ∃ t, exec (.lossMark i) s = .next t
      ∧ t.roster = { s.roster with entries := s.roster.entries.modify i.val (fun e =>
          if e.state = .silent ∧ e.record.required = true ∧ e.uncoupled = false then
            { e with state := .lost, acknowledged := false, quietStart := none }
          else { e with quietStart := none }) }
      ∧ Kept ([.roster] ++ told) s t)
    ∧ (cameDue .censusClose d s → ∃ t, exec .censusClose s = .next t
      ∧ t.roster = { s.roster with
          censusComplete := true, censusDue := none
          entries := s.roster.entries.map (fun e =>
            if e.state = .unknown then
              if e.record.required then { e with state := .absent }
              else { e with state := .silent, quietStart := none }
            else e) }
      ∧ Kept ([.roster] ++ told) s t))
  ∧ (∀ (n : Fin 64) (e : Int) (q : Quality) (s : State),
     (rosterSlot n e q s).roster = { s.roster with entries := s.roster.entries.map (fun x =>
        match x.record.coupling with
        | none => x
        | some c =>
          if c.slot ≠ n then x
          else if q = .fresh ∧ BitVec.ofInt 32 e &&& c.mask = 0 then
            if x.state = .released then { x with uncoupled := true }
            else { x with uncoupled := true, state := .released, quietStart := none, acknowledged := false }
          else if x.state = .released then
            { x with uncoupled := false, state := .silent, quietStart := some s.now }
          else { x with uncoupled := false }) })
  ∧ (∀ (n : Fin 64) (s : State) (d : Nat), cameDue (.staleExpiry n) d s → AwakeLaw s →
     ∃ t, exec (.staleExpiry n) s = .next t ∧ t.roster = (rosterSlot n s.slots[n].value .stale s).roster)
  ∧ ∀ (station : Nat) (s : State), (∀ e ∈ s.roster.entries, e.record.station ≠ station) →
     ∃ us, hearStation station s = s.setRoster { s.roster with unlisted := us }
       ∧ ((∃ u ∈ s.roster.unlisted, u.station = station) →
           us = s.roster.unlisted.map (fun u => if u.station = station then { u with time := s.now } else u))
       ∧ ((∀ u ∈ s.roster.unlisted, u.station ≠ station) → s.roster.unlisted.length < 8 →
           us = s.roster.unlisted ++ [{ station := station, time := s.now }])
       ∧ ((∀ u ∈ s.roster.unlisted, u.station ≠ station) → 8 ≤ s.roster.unlisted.length →
           ∃ pre u post, s.roster.unlisted = pre ++ u :: post
             ∧ us = pre ++ { station := station, time := s.now } :: post
             ∧ ∀ v ∈ s.roster.unlisted, u.time ≤ v.time)

/-! ## The lamps -/

/-- R57, R59, R60, R62, R62a, R63, R64: the lamps stand in the states that the part state gives and show what Table
3-10 gives, the flags follow the demands, and an override is in force in RUN alone and never while a RED-class demand
is ACTIVE; so the fifth law holds: in RUN every lamp with an ACTIVE or LATCHED demand shows a pattern unless the test
override is in force. -/
def Obligations.StepKeepsLampLawAndFifthLaw : Prop :=
  (∀ s t : State, LampLaw s → step s = .next t → LampLaw t) ∧ ∀ s : State, LampLaw s → FifthLaw s
end

