-- ==== Sys2Proof/Laws/State.lean ====
section
/-! SUPPORT. What each named update of State leaves in each field. -/

namespace Sys2Proof.Machine

open Sys2Proof

@[simp] theorem State.setNow_now (s : State) (x : Nat) : (s.setNow x).now = x := rfl
@[simp] theorem State.setNow_tables (s : State) (x : Nat) : (s.setNow x).tables = s.tables := rfl
@[simp] theorem State.setNow_control (s : State) (x : Nat) : (s.setNow x).control = s.control := rfl
@[simp] theorem State.setNow_line (s : State) (x : Nat) : (s.setNow x).line = s.line := rfl
@[simp] theorem State.setNow_slots (s : State) (x : Nat) : (s.setNow x).slots = s.slots := rfl
@[simp] theorem State.setNow_gauges (s : State) (x : Nat) : (s.setNow x).gauges = s.gauges := rfl
@[simp] theorem State.setNow_telltale (s : State) (x : Nat) : (s.setNow x).telltale = s.telltale := rfl
@[simp] theorem State.setNow_chime (s : State) (x : Nat) : (s.setNow x).chime = s.chime := rfl
@[simp] theorem State.setNow_readout (s : State) (x : Nat) : (s.setNow x).readout = s.readout := rfl
@[simp] theorem State.setNow_driver (s : State) (x : Nat) : (s.setNow x).driver = s.driver := rfl
@[simp] theorem State.setNow_distance (s : State) (x : Nat) : (s.setNow x).distance = s.distance := rfl
@[simp] theorem State.setNow_store (s : State) (x : Nat) : (s.setNow x).store = s.store := rfl
@[simp] theorem State.setNow_roster (s : State) (x : Nat) : (s.setNow x).roster = s.roster := rfl
@[simp] theorem State.setNow_monitor (s : State) (x : Nat) : (s.setNow x).monitor = s.monitor := rfl
@[simp] theorem State.setNow_service (s : State) (x : Nat) : (s.setNow x).service = s.service := rfl
@[simp] theorem State.setNow_reports (s : State) (x : Nat) : (s.setNow x).reports = s.reports := rfl
@[simp] theorem State.setNow_scan (s : State) (x : Nat) : (s.setNow x).scan = s.scan := rfl
@[simp] theorem State.setNow_pending (s : State) (x : Nat) : (s.setNow x).pending = s.pending := rfl

@[simp] theorem State.setTables_now (s : State) (x : Tables) : (s.setTables x).now = s.now := rfl
@[simp] theorem State.setTables_tables (s : State) (x : Tables) : (s.setTables x).tables = x := rfl
@[simp] theorem State.setTables_control (s : State) (x : Tables) : (s.setTables x).control = s.control := rfl
@[simp] theorem State.setTables_line (s : State) (x : Tables) : (s.setTables x).line = s.line := rfl
@[simp] theorem State.setTables_slots (s : State) (x : Tables) : (s.setTables x).slots = s.slots := rfl
@[simp] theorem State.setTables_gauges (s : State) (x : Tables) : (s.setTables x).gauges = s.gauges := rfl
@[simp] theorem State.setTables_telltale (s : State) (x : Tables) : (s.setTables x).telltale = s.telltale := rfl
@[simp] theorem State.setTables_chime (s : State) (x : Tables) : (s.setTables x).chime = s.chime := rfl
@[simp] theorem State.setTables_readout (s : State) (x : Tables) : (s.setTables x).readout = s.readout := rfl
@[simp] theorem State.setTables_driver (s : State) (x : Tables) : (s.setTables x).driver = s.driver := rfl
@[simp] theorem State.setTables_distance (s : State) (x : Tables) : (s.setTables x).distance = s.distance := rfl
@[simp] theorem State.setTables_store (s : State) (x : Tables) : (s.setTables x).store = s.store := rfl
@[simp] theorem State.setTables_roster (s : State) (x : Tables) : (s.setTables x).roster = s.roster := rfl
@[simp] theorem State.setTables_monitor (s : State) (x : Tables) : (s.setTables x).monitor = s.monitor := rfl
@[simp] theorem State.setTables_service (s : State) (x : Tables) : (s.setTables x).service = s.service := rfl
@[simp] theorem State.setTables_reports (s : State) (x : Tables) : (s.setTables x).reports = s.reports := rfl
@[simp] theorem State.setTables_scan (s : State) (x : Tables) : (s.setTables x).scan = s.scan := rfl
@[simp] theorem State.setTables_pending (s : State) (x : Tables) : (s.setTables x).pending = s.pending := rfl

@[simp] theorem State.setControl_now (s : State) (x : Control) : (s.setControl x).now = s.now := rfl
@[simp] theorem State.setControl_tables (s : State) (x : Control) : (s.setControl x).tables = s.tables := rfl
@[simp] theorem State.setControl_control (s : State) (x : Control) : (s.setControl x).control = x := rfl
@[simp] theorem State.setControl_line (s : State) (x : Control) : (s.setControl x).line = s.line := rfl
@[simp] theorem State.setControl_slots (s : State) (x : Control) : (s.setControl x).slots = s.slots := rfl
@[simp] theorem State.setControl_gauges (s : State) (x : Control) : (s.setControl x).gauges = s.gauges := rfl
@[simp] theorem State.setControl_telltale (s : State) (x : Control) : (s.setControl x).telltale = s.telltale := rfl
@[simp] theorem State.setControl_chime (s : State) (x : Control) : (s.setControl x).chime = s.chime := rfl
@[simp] theorem State.setControl_readout (s : State) (x : Control) : (s.setControl x).readout = s.readout := rfl
@[simp] theorem State.setControl_driver (s : State) (x : Control) : (s.setControl x).driver = s.driver := rfl
@[simp] theorem State.setControl_distance (s : State) (x : Control) : (s.setControl x).distance = s.distance := rfl
@[simp] theorem State.setControl_store (s : State) (x : Control) : (s.setControl x).store = s.store := rfl
@[simp] theorem State.setControl_roster (s : State) (x : Control) : (s.setControl x).roster = s.roster := rfl
@[simp] theorem State.setControl_monitor (s : State) (x : Control) : (s.setControl x).monitor = s.monitor := rfl
@[simp] theorem State.setControl_service (s : State) (x : Control) : (s.setControl x).service = s.service := rfl
@[simp] theorem State.setControl_reports (s : State) (x : Control) : (s.setControl x).reports = s.reports := rfl
@[simp] theorem State.setControl_scan (s : State) (x : Control) : (s.setControl x).scan = s.scan := rfl
@[simp] theorem State.setControl_pending (s : State) (x : Control) : (s.setControl x).pending = s.pending := rfl

@[simp] theorem State.setLine_now (s : State) (x : Line) : (s.setLine x).now = s.now := rfl
@[simp] theorem State.setLine_tables (s : State) (x : Line) : (s.setLine x).tables = s.tables := rfl
@[simp] theorem State.setLine_control (s : State) (x : Line) : (s.setLine x).control = s.control := rfl
@[simp] theorem State.setLine_line (s : State) (x : Line) : (s.setLine x).line = x := rfl
@[simp] theorem State.setLine_slots (s : State) (x : Line) : (s.setLine x).slots = s.slots := rfl
@[simp] theorem State.setLine_gauges (s : State) (x : Line) : (s.setLine x).gauges = s.gauges := rfl
@[simp] theorem State.setLine_telltale (s : State) (x : Line) : (s.setLine x).telltale = s.telltale := rfl
@[simp] theorem State.setLine_chime (s : State) (x : Line) : (s.setLine x).chime = s.chime := rfl
@[simp] theorem State.setLine_readout (s : State) (x : Line) : (s.setLine x).readout = s.readout := rfl
@[simp] theorem State.setLine_driver (s : State) (x : Line) : (s.setLine x).driver = s.driver := rfl
@[simp] theorem State.setLine_distance (s : State) (x : Line) : (s.setLine x).distance = s.distance := rfl
@[simp] theorem State.setLine_store (s : State) (x : Line) : (s.setLine x).store = s.store := rfl
@[simp] theorem State.setLine_roster (s : State) (x : Line) : (s.setLine x).roster = s.roster := rfl
@[simp] theorem State.setLine_monitor (s : State) (x : Line) : (s.setLine x).monitor = s.monitor := rfl
@[simp] theorem State.setLine_service (s : State) (x : Line) : (s.setLine x).service = s.service := rfl
@[simp] theorem State.setLine_reports (s : State) (x : Line) : (s.setLine x).reports = s.reports := rfl
@[simp] theorem State.setLine_scan (s : State) (x : Line) : (s.setLine x).scan = s.scan := rfl
@[simp] theorem State.setLine_pending (s : State) (x : Line) : (s.setLine x).pending = s.pending := rfl

@[simp] theorem State.setSlots_now (s : State) (x : Vector Slot 64) : (s.setSlots x).now = s.now := rfl
@[simp] theorem State.setSlots_tables (s : State) (x : Vector Slot 64) : (s.setSlots x).tables = s.tables := rfl
@[simp] theorem State.setSlots_control (s : State) (x : Vector Slot 64) : (s.setSlots x).control = s.control := rfl
@[simp] theorem State.setSlots_line (s : State) (x : Vector Slot 64) : (s.setSlots x).line = s.line := rfl
@[simp] theorem State.setSlots_slots (s : State) (x : Vector Slot 64) : (s.setSlots x).slots = x := rfl
@[simp] theorem State.setSlots_gauges (s : State) (x : Vector Slot 64) : (s.setSlots x).gauges = s.gauges := rfl
@[simp] theorem State.setSlots_telltale (s : State) (x : Vector Slot 64) : (s.setSlots x).telltale = s.telltale := rfl
@[simp] theorem State.setSlots_chime (s : State) (x : Vector Slot 64) : (s.setSlots x).chime = s.chime := rfl
@[simp] theorem State.setSlots_readout (s : State) (x : Vector Slot 64) : (s.setSlots x).readout = s.readout := rfl
@[simp] theorem State.setSlots_driver (s : State) (x : Vector Slot 64) : (s.setSlots x).driver = s.driver := rfl
@[simp] theorem State.setSlots_distance (s : State) (x : Vector Slot 64) : (s.setSlots x).distance = s.distance := rfl
@[simp] theorem State.setSlots_store (s : State) (x : Vector Slot 64) : (s.setSlots x).store = s.store := rfl
@[simp] theorem State.setSlots_roster (s : State) (x : Vector Slot 64) : (s.setSlots x).roster = s.roster := rfl
@[simp] theorem State.setSlots_monitor (s : State) (x : Vector Slot 64) : (s.setSlots x).monitor = s.monitor := rfl
@[simp] theorem State.setSlots_service (s : State) (x : Vector Slot 64) : (s.setSlots x).service = s.service := rfl
@[simp] theorem State.setSlots_reports (s : State) (x : Vector Slot 64) : (s.setSlots x).reports = s.reports := rfl
@[simp] theorem State.setSlots_scan (s : State) (x : Vector Slot 64) : (s.setSlots x).scan = s.scan := rfl
@[simp] theorem State.setSlots_pending (s : State) (x : Vector Slot 64) : (s.setSlots x).pending = s.pending := rfl

@[simp] theorem State.setGauges_now (s : State) (x : Gauges) : (s.setGauges x).now = s.now := rfl
@[simp] theorem State.setGauges_tables (s : State) (x : Gauges) : (s.setGauges x).tables = s.tables := rfl
@[simp] theorem State.setGauges_control (s : State) (x : Gauges) : (s.setGauges x).control = s.control := rfl
@[simp] theorem State.setGauges_line (s : State) (x : Gauges) : (s.setGauges x).line = s.line := rfl
@[simp] theorem State.setGauges_slots (s : State) (x : Gauges) : (s.setGauges x).slots = s.slots := rfl
@[simp] theorem State.setGauges_gauges (s : State) (x : Gauges) : (s.setGauges x).gauges = x := rfl
@[simp] theorem State.setGauges_telltale (s : State) (x : Gauges) : (s.setGauges x).telltale = s.telltale := rfl
@[simp] theorem State.setGauges_chime (s : State) (x : Gauges) : (s.setGauges x).chime = s.chime := rfl
@[simp] theorem State.setGauges_readout (s : State) (x : Gauges) : (s.setGauges x).readout = s.readout := rfl
@[simp] theorem State.setGauges_driver (s : State) (x : Gauges) : (s.setGauges x).driver = s.driver := rfl
@[simp] theorem State.setGauges_distance (s : State) (x : Gauges) : (s.setGauges x).distance = s.distance := rfl
@[simp] theorem State.setGauges_store (s : State) (x : Gauges) : (s.setGauges x).store = s.store := rfl
@[simp] theorem State.setGauges_roster (s : State) (x : Gauges) : (s.setGauges x).roster = s.roster := rfl
@[simp] theorem State.setGauges_monitor (s : State) (x : Gauges) : (s.setGauges x).monitor = s.monitor := rfl
@[simp] theorem State.setGauges_service (s : State) (x : Gauges) : (s.setGauges x).service = s.service := rfl
@[simp] theorem State.setGauges_reports (s : State) (x : Gauges) : (s.setGauges x).reports = s.reports := rfl
@[simp] theorem State.setGauges_scan (s : State) (x : Gauges) : (s.setGauges x).scan = s.scan := rfl
@[simp] theorem State.setGauges_pending (s : State) (x : Gauges) : (s.setGauges x).pending = s.pending := rfl

@[simp] theorem State.setTelltale_now (s : State) (x : Telltale) : (s.setTelltale x).now = s.now := rfl
@[simp] theorem State.setTelltale_tables (s : State) (x : Telltale) : (s.setTelltale x).tables = s.tables := rfl
@[simp] theorem State.setTelltale_control (s : State) (x : Telltale) : (s.setTelltale x).control = s.control := rfl
@[simp] theorem State.setTelltale_line (s : State) (x : Telltale) : (s.setTelltale x).line = s.line := rfl
@[simp] theorem State.setTelltale_slots (s : State) (x : Telltale) : (s.setTelltale x).slots = s.slots := rfl
@[simp] theorem State.setTelltale_gauges (s : State) (x : Telltale) : (s.setTelltale x).gauges = s.gauges := rfl
@[simp] theorem State.setTelltale_telltale (s : State) (x : Telltale) : (s.setTelltale x).telltale = x := rfl
@[simp] theorem State.setTelltale_chime (s : State) (x : Telltale) : (s.setTelltale x).chime = s.chime := rfl
@[simp] theorem State.setTelltale_readout (s : State) (x : Telltale) : (s.setTelltale x).readout = s.readout := rfl
@[simp] theorem State.setTelltale_driver (s : State) (x : Telltale) : (s.setTelltale x).driver = s.driver := rfl
@[simp] theorem State.setTelltale_distance (s : State) (x : Telltale) : (s.setTelltale x).distance = s.distance := rfl
@[simp] theorem State.setTelltale_store (s : State) (x : Telltale) : (s.setTelltale x).store = s.store := rfl
@[simp] theorem State.setTelltale_roster (s : State) (x : Telltale) : (s.setTelltale x).roster = s.roster := rfl
@[simp] theorem State.setTelltale_monitor (s : State) (x : Telltale) : (s.setTelltale x).monitor = s.monitor := rfl
@[simp] theorem State.setTelltale_service (s : State) (x : Telltale) : (s.setTelltale x).service = s.service := rfl
@[simp] theorem State.setTelltale_reports (s : State) (x : Telltale) : (s.setTelltale x).reports = s.reports := rfl
@[simp] theorem State.setTelltale_scan (s : State) (x : Telltale) : (s.setTelltale x).scan = s.scan := rfl
@[simp] theorem State.setTelltale_pending (s : State) (x : Telltale) : (s.setTelltale x).pending = s.pending := rfl

@[simp] theorem State.setChime_now (s : State) (x : Chime) : (s.setChime x).now = s.now := rfl
@[simp] theorem State.setChime_tables (s : State) (x : Chime) : (s.setChime x).tables = s.tables := rfl
@[simp] theorem State.setChime_control (s : State) (x : Chime) : (s.setChime x).control = s.control := rfl
@[simp] theorem State.setChime_line (s : State) (x : Chime) : (s.setChime x).line = s.line := rfl
@[simp] theorem State.setChime_slots (s : State) (x : Chime) : (s.setChime x).slots = s.slots := rfl
@[simp] theorem State.setChime_gauges (s : State) (x : Chime) : (s.setChime x).gauges = s.gauges := rfl
@[simp] theorem State.setChime_telltale (s : State) (x : Chime) : (s.setChime x).telltale = s.telltale := rfl
@[simp] theorem State.setChime_chime (s : State) (x : Chime) : (s.setChime x).chime = x := rfl
@[simp] theorem State.setChime_readout (s : State) (x : Chime) : (s.setChime x).readout = s.readout := rfl
@[simp] theorem State.setChime_driver (s : State) (x : Chime) : (s.setChime x).driver = s.driver := rfl
@[simp] theorem State.setChime_distance (s : State) (x : Chime) : (s.setChime x).distance = s.distance := rfl
@[simp] theorem State.setChime_store (s : State) (x : Chime) : (s.setChime x).store = s.store := rfl
@[simp] theorem State.setChime_roster (s : State) (x : Chime) : (s.setChime x).roster = s.roster := rfl
@[simp] theorem State.setChime_monitor (s : State) (x : Chime) : (s.setChime x).monitor = s.monitor := rfl
@[simp] theorem State.setChime_service (s : State) (x : Chime) : (s.setChime x).service = s.service := rfl
@[simp] theorem State.setChime_reports (s : State) (x : Chime) : (s.setChime x).reports = s.reports := rfl
@[simp] theorem State.setChime_scan (s : State) (x : Chime) : (s.setChime x).scan = s.scan := rfl
@[simp] theorem State.setChime_pending (s : State) (x : Chime) : (s.setChime x).pending = s.pending := rfl

@[simp] theorem State.setReadout_now (s : State) (x : Readout) : (s.setReadout x).now = s.now := rfl
@[simp] theorem State.setReadout_tables (s : State) (x : Readout) : (s.setReadout x).tables = s.tables := rfl
@[simp] theorem State.setReadout_control (s : State) (x : Readout) : (s.setReadout x).control = s.control := rfl
@[simp] theorem State.setReadout_line (s : State) (x : Readout) : (s.setReadout x).line = s.line := rfl
@[simp] theorem State.setReadout_slots (s : State) (x : Readout) : (s.setReadout x).slots = s.slots := rfl
@[simp] theorem State.setReadout_gauges (s : State) (x : Readout) : (s.setReadout x).gauges = s.gauges := rfl
@[simp] theorem State.setReadout_telltale (s : State) (x : Readout) : (s.setReadout x).telltale = s.telltale := rfl
@[simp] theorem State.setReadout_chime (s : State) (x : Readout) : (s.setReadout x).chime = s.chime := rfl
@[simp] theorem State.setReadout_readout (s : State) (x : Readout) : (s.setReadout x).readout = x := rfl
@[simp] theorem State.setReadout_driver (s : State) (x : Readout) : (s.setReadout x).driver = s.driver := rfl
@[simp] theorem State.setReadout_distance (s : State) (x : Readout) : (s.setReadout x).distance = s.distance := rfl
@[simp] theorem State.setReadout_store (s : State) (x : Readout) : (s.setReadout x).store = s.store := rfl
@[simp] theorem State.setReadout_roster (s : State) (x : Readout) : (s.setReadout x).roster = s.roster := rfl
@[simp] theorem State.setReadout_monitor (s : State) (x : Readout) : (s.setReadout x).monitor = s.monitor := rfl
@[simp] theorem State.setReadout_service (s : State) (x : Readout) : (s.setReadout x).service = s.service := rfl
@[simp] theorem State.setReadout_reports (s : State) (x : Readout) : (s.setReadout x).reports = s.reports := rfl
@[simp] theorem State.setReadout_scan (s : State) (x : Readout) : (s.setReadout x).scan = s.scan := rfl
@[simp] theorem State.setReadout_pending (s : State) (x : Readout) : (s.setReadout x).pending = s.pending := rfl

@[simp] theorem State.setDriver_now (s : State) (x : DriverUnit) : (s.setDriver x).now = s.now := rfl
@[simp] theorem State.setDriver_tables (s : State) (x : DriverUnit) : (s.setDriver x).tables = s.tables := rfl
@[simp] theorem State.setDriver_control (s : State) (x : DriverUnit) : (s.setDriver x).control = s.control := rfl
@[simp] theorem State.setDriver_line (s : State) (x : DriverUnit) : (s.setDriver x).line = s.line := rfl
@[simp] theorem State.setDriver_slots (s : State) (x : DriverUnit) : (s.setDriver x).slots = s.slots := rfl
@[simp] theorem State.setDriver_gauges (s : State) (x : DriverUnit) : (s.setDriver x).gauges = s.gauges := rfl
@[simp] theorem State.setDriver_telltale (s : State) (x : DriverUnit) : (s.setDriver x).telltale = s.telltale := rfl
@[simp] theorem State.setDriver_chime (s : State) (x : DriverUnit) : (s.setDriver x).chime = s.chime := rfl
@[simp] theorem State.setDriver_readout (s : State) (x : DriverUnit) : (s.setDriver x).readout = s.readout := rfl
@[simp] theorem State.setDriver_driver (s : State) (x : DriverUnit) : (s.setDriver x).driver = x := rfl
@[simp] theorem State.setDriver_distance (s : State) (x : DriverUnit) : (s.setDriver x).distance = s.distance := rfl
@[simp] theorem State.setDriver_store (s : State) (x : DriverUnit) : (s.setDriver x).store = s.store := rfl
@[simp] theorem State.setDriver_roster (s : State) (x : DriverUnit) : (s.setDriver x).roster = s.roster := rfl
@[simp] theorem State.setDriver_monitor (s : State) (x : DriverUnit) : (s.setDriver x).monitor = s.monitor := rfl
@[simp] theorem State.setDriver_service (s : State) (x : DriverUnit) : (s.setDriver x).service = s.service := rfl
@[simp] theorem State.setDriver_reports (s : State) (x : DriverUnit) : (s.setDriver x).reports = s.reports := rfl
@[simp] theorem State.setDriver_scan (s : State) (x : DriverUnit) : (s.setDriver x).scan = s.scan := rfl
@[simp] theorem State.setDriver_pending (s : State) (x : DriverUnit) : (s.setDriver x).pending = s.pending := rfl

@[simp] theorem State.setDistance_now (s : State) (x : Distance) : (s.setDistance x).now = s.now := rfl
@[simp] theorem State.setDistance_tables (s : State) (x : Distance) : (s.setDistance x).tables = s.tables := rfl
@[simp] theorem State.setDistance_control (s : State) (x : Distance) : (s.setDistance x).control = s.control := rfl
@[simp] theorem State.setDistance_line (s : State) (x : Distance) : (s.setDistance x).line = s.line := rfl
@[simp] theorem State.setDistance_slots (s : State) (x : Distance) : (s.setDistance x).slots = s.slots := rfl
@[simp] theorem State.setDistance_gauges (s : State) (x : Distance) : (s.setDistance x).gauges = s.gauges := rfl
@[simp] theorem State.setDistance_telltale (s : State) (x : Distance) : (s.setDistance x).telltale = s.telltale := rfl
@[simp] theorem State.setDistance_chime (s : State) (x : Distance) : (s.setDistance x).chime = s.chime := rfl
@[simp] theorem State.setDistance_readout (s : State) (x : Distance) : (s.setDistance x).readout = s.readout := rfl
@[simp] theorem State.setDistance_driver (s : State) (x : Distance) : (s.setDistance x).driver = s.driver := rfl
@[simp] theorem State.setDistance_distance (s : State) (x : Distance) : (s.setDistance x).distance = x := rfl
@[simp] theorem State.setDistance_store (s : State) (x : Distance) : (s.setDistance x).store = s.store := rfl
@[simp] theorem State.setDistance_roster (s : State) (x : Distance) : (s.setDistance x).roster = s.roster := rfl
@[simp] theorem State.setDistance_monitor (s : State) (x : Distance) : (s.setDistance x).monitor = s.monitor := rfl
@[simp] theorem State.setDistance_service (s : State) (x : Distance) : (s.setDistance x).service = s.service := rfl
@[simp] theorem State.setDistance_reports (s : State) (x : Distance) : (s.setDistance x).reports = s.reports := rfl
@[simp] theorem State.setDistance_scan (s : State) (x : Distance) : (s.setDistance x).scan = s.scan := rfl
@[simp] theorem State.setDistance_pending (s : State) (x : Distance) : (s.setDistance x).pending = s.pending := rfl

@[simp] theorem State.setStore_now (s : State) (x : Store) : (s.setStore x).now = s.now := rfl
@[simp] theorem State.setStore_tables (s : State) (x : Store) : (s.setStore x).tables = s.tables := rfl
@[simp] theorem State.setStore_control (s : State) (x : Store) : (s.setStore x).control = s.control := rfl
@[simp] theorem State.setStore_line (s : State) (x : Store) : (s.setStore x).line = s.line := rfl
@[simp] theorem State.setStore_slots (s : State) (x : Store) : (s.setStore x).slots = s.slots := rfl
@[simp] theorem State.setStore_gauges (s : State) (x : Store) : (s.setStore x).gauges = s.gauges := rfl
@[simp] theorem State.setStore_telltale (s : State) (x : Store) : (s.setStore x).telltale = s.telltale := rfl
@[simp] theorem State.setStore_chime (s : State) (x : Store) : (s.setStore x).chime = s.chime := rfl
@[simp] theorem State.setStore_readout (s : State) (x : Store) : (s.setStore x).readout = s.readout := rfl
@[simp] theorem State.setStore_driver (s : State) (x : Store) : (s.setStore x).driver = s.driver := rfl
@[simp] theorem State.setStore_distance (s : State) (x : Store) : (s.setStore x).distance = s.distance := rfl
@[simp] theorem State.setStore_store (s : State) (x : Store) : (s.setStore x).store = x := rfl
@[simp] theorem State.setStore_roster (s : State) (x : Store) : (s.setStore x).roster = s.roster := rfl
@[simp] theorem State.setStore_monitor (s : State) (x : Store) : (s.setStore x).monitor = s.monitor := rfl
@[simp] theorem State.setStore_service (s : State) (x : Store) : (s.setStore x).service = s.service := rfl
@[simp] theorem State.setStore_reports (s : State) (x : Store) : (s.setStore x).reports = s.reports := rfl
@[simp] theorem State.setStore_scan (s : State) (x : Store) : (s.setStore x).scan = s.scan := rfl
@[simp] theorem State.setStore_pending (s : State) (x : Store) : (s.setStore x).pending = s.pending := rfl

@[simp] theorem State.setRoster_now (s : State) (x : Roster) : (s.setRoster x).now = s.now := rfl
@[simp] theorem State.setRoster_tables (s : State) (x : Roster) : (s.setRoster x).tables = s.tables := rfl
@[simp] theorem State.setRoster_control (s : State) (x : Roster) : (s.setRoster x).control = s.control := rfl
@[simp] theorem State.setRoster_line (s : State) (x : Roster) : (s.setRoster x).line = s.line := rfl
@[simp] theorem State.setRoster_slots (s : State) (x : Roster) : (s.setRoster x).slots = s.slots := rfl
@[simp] theorem State.setRoster_gauges (s : State) (x : Roster) : (s.setRoster x).gauges = s.gauges := rfl
@[simp] theorem State.setRoster_telltale (s : State) (x : Roster) : (s.setRoster x).telltale = s.telltale := rfl
@[simp] theorem State.setRoster_chime (s : State) (x : Roster) : (s.setRoster x).chime = s.chime := rfl
@[simp] theorem State.setRoster_readout (s : State) (x : Roster) : (s.setRoster x).readout = s.readout := rfl
@[simp] theorem State.setRoster_driver (s : State) (x : Roster) : (s.setRoster x).driver = s.driver := rfl
@[simp] theorem State.setRoster_distance (s : State) (x : Roster) : (s.setRoster x).distance = s.distance := rfl
@[simp] theorem State.setRoster_store (s : State) (x : Roster) : (s.setRoster x).store = s.store := rfl
@[simp] theorem State.setRoster_roster (s : State) (x : Roster) : (s.setRoster x).roster = x := rfl
@[simp] theorem State.setRoster_monitor (s : State) (x : Roster) : (s.setRoster x).monitor = s.monitor := rfl
@[simp] theorem State.setRoster_service (s : State) (x : Roster) : (s.setRoster x).service = s.service := rfl
@[simp] theorem State.setRoster_reports (s : State) (x : Roster) : (s.setRoster x).reports = s.reports := rfl
@[simp] theorem State.setRoster_scan (s : State) (x : Roster) : (s.setRoster x).scan = s.scan := rfl
@[simp] theorem State.setRoster_pending (s : State) (x : Roster) : (s.setRoster x).pending = s.pending := rfl

@[simp] theorem State.setMonitor_now (s : State) (x : Vector Attribute 10) : (s.setMonitor x).now = s.now := rfl
@[simp] theorem State.setMonitor_tables (s : State) (x : Vector Attribute 10) : (s.setMonitor x).tables = s.tables := rfl
@[simp] theorem State.setMonitor_control (s : State) (x : Vector Attribute 10) : (s.setMonitor x).control = s.control := rfl
@[simp] theorem State.setMonitor_line (s : State) (x : Vector Attribute 10) : (s.setMonitor x).line = s.line := rfl
@[simp] theorem State.setMonitor_slots (s : State) (x : Vector Attribute 10) : (s.setMonitor x).slots = s.slots := rfl
@[simp] theorem State.setMonitor_gauges (s : State) (x : Vector Attribute 10) : (s.setMonitor x).gauges = s.gauges := rfl
@[simp] theorem State.setMonitor_telltale (s : State) (x : Vector Attribute 10) : (s.setMonitor x).telltale = s.telltale := rfl
@[simp] theorem State.setMonitor_chime (s : State) (x : Vector Attribute 10) : (s.setMonitor x).chime = s.chime := rfl
@[simp] theorem State.setMonitor_readout (s : State) (x : Vector Attribute 10) : (s.setMonitor x).readout = s.readout := rfl
@[simp] theorem State.setMonitor_driver (s : State) (x : Vector Attribute 10) : (s.setMonitor x).driver = s.driver := rfl
@[simp] theorem State.setMonitor_distance (s : State) (x : Vector Attribute 10) : (s.setMonitor x).distance = s.distance := rfl
@[simp] theorem State.setMonitor_store (s : State) (x : Vector Attribute 10) : (s.setMonitor x).store = s.store := rfl
@[simp] theorem State.setMonitor_roster (s : State) (x : Vector Attribute 10) : (s.setMonitor x).roster = s.roster := rfl
@[simp] theorem State.setMonitor_monitor (s : State) (x : Vector Attribute 10) : (s.setMonitor x).monitor = x := rfl
@[simp] theorem State.setMonitor_service (s : State) (x : Vector Attribute 10) : (s.setMonitor x).service = s.service := rfl
@[simp] theorem State.setMonitor_reports (s : State) (x : Vector Attribute 10) : (s.setMonitor x).reports = s.reports := rfl
@[simp] theorem State.setMonitor_scan (s : State) (x : Vector Attribute 10) : (s.setMonitor x).scan = s.scan := rfl
@[simp] theorem State.setMonitor_pending (s : State) (x : Vector Attribute 10) : (s.setMonitor x).pending = s.pending := rfl

@[simp] theorem State.setService_now (s : State) (x : Service) : (s.setService x).now = s.now := rfl
@[simp] theorem State.setService_tables (s : State) (x : Service) : (s.setService x).tables = s.tables := rfl
@[simp] theorem State.setService_control (s : State) (x : Service) : (s.setService x).control = s.control := rfl
@[simp] theorem State.setService_line (s : State) (x : Service) : (s.setService x).line = s.line := rfl
@[simp] theorem State.setService_slots (s : State) (x : Service) : (s.setService x).slots = s.slots := rfl
@[simp] theorem State.setService_gauges (s : State) (x : Service) : (s.setService x).gauges = s.gauges := rfl
@[simp] theorem State.setService_telltale (s : State) (x : Service) : (s.setService x).telltale = s.telltale := rfl
@[simp] theorem State.setService_chime (s : State) (x : Service) : (s.setService x).chime = s.chime := rfl
@[simp] theorem State.setService_readout (s : State) (x : Service) : (s.setService x).readout = s.readout := rfl
@[simp] theorem State.setService_driver (s : State) (x : Service) : (s.setService x).driver = s.driver := rfl
@[simp] theorem State.setService_distance (s : State) (x : Service) : (s.setService x).distance = s.distance := rfl
@[simp] theorem State.setService_store (s : State) (x : Service) : (s.setService x).store = s.store := rfl
@[simp] theorem State.setService_roster (s : State) (x : Service) : (s.setService x).roster = s.roster := rfl
@[simp] theorem State.setService_monitor (s : State) (x : Service) : (s.setService x).monitor = s.monitor := rfl
@[simp] theorem State.setService_service (s : State) (x : Service) : (s.setService x).service = x := rfl
@[simp] theorem State.setService_reports (s : State) (x : Service) : (s.setService x).reports = s.reports := rfl
@[simp] theorem State.setService_scan (s : State) (x : Service) : (s.setService x).scan = s.scan := rfl
@[simp] theorem State.setService_pending (s : State) (x : Service) : (s.setService x).pending = s.pending := rfl

@[simp] theorem State.setReports_now (s : State) (x : List Report) : (s.setReports x).now = s.now := rfl
@[simp] theorem State.setReports_tables (s : State) (x : List Report) : (s.setReports x).tables = s.tables := rfl
@[simp] theorem State.setReports_control (s : State) (x : List Report) : (s.setReports x).control = s.control := rfl
@[simp] theorem State.setReports_line (s : State) (x : List Report) : (s.setReports x).line = s.line := rfl
@[simp] theorem State.setReports_slots (s : State) (x : List Report) : (s.setReports x).slots = s.slots := rfl
@[simp] theorem State.setReports_gauges (s : State) (x : List Report) : (s.setReports x).gauges = s.gauges := rfl
@[simp] theorem State.setReports_telltale (s : State) (x : List Report) : (s.setReports x).telltale = s.telltale := rfl
@[simp] theorem State.setReports_chime (s : State) (x : List Report) : (s.setReports x).chime = s.chime := rfl
@[simp] theorem State.setReports_readout (s : State) (x : List Report) : (s.setReports x).readout = s.readout := rfl
@[simp] theorem State.setReports_driver (s : State) (x : List Report) : (s.setReports x).driver = s.driver := rfl
@[simp] theorem State.setReports_distance (s : State) (x : List Report) : (s.setReports x).distance = s.distance := rfl
@[simp] theorem State.setReports_store (s : State) (x : List Report) : (s.setReports x).store = s.store := rfl
@[simp] theorem State.setReports_roster (s : State) (x : List Report) : (s.setReports x).roster = s.roster := rfl
@[simp] theorem State.setReports_monitor (s : State) (x : List Report) : (s.setReports x).monitor = s.monitor := rfl
@[simp] theorem State.setReports_service (s : State) (x : List Report) : (s.setReports x).service = s.service := rfl
@[simp] theorem State.setReports_reports (s : State) (x : List Report) : (s.setReports x).reports = x := rfl
@[simp] theorem State.setReports_scan (s : State) (x : List Report) : (s.setReports x).scan = s.scan := rfl
@[simp] theorem State.setReports_pending (s : State) (x : List Report) : (s.setReports x).pending = s.pending := rfl

@[simp] theorem State.setScan_now (s : State) (x : Nat) : (s.setScan x).now = s.now := rfl
@[simp] theorem State.setScan_tables (s : State) (x : Nat) : (s.setScan x).tables = s.tables := rfl
@[simp] theorem State.setScan_control (s : State) (x : Nat) : (s.setScan x).control = s.control := rfl
@[simp] theorem State.setScan_line (s : State) (x : Nat) : (s.setScan x).line = s.line := rfl
@[simp] theorem State.setScan_slots (s : State) (x : Nat) : (s.setScan x).slots = s.slots := rfl
@[simp] theorem State.setScan_gauges (s : State) (x : Nat) : (s.setScan x).gauges = s.gauges := rfl
@[simp] theorem State.setScan_telltale (s : State) (x : Nat) : (s.setScan x).telltale = s.telltale := rfl
@[simp] theorem State.setScan_chime (s : State) (x : Nat) : (s.setScan x).chime = s.chime := rfl
@[simp] theorem State.setScan_readout (s : State) (x : Nat) : (s.setScan x).readout = s.readout := rfl
@[simp] theorem State.setScan_driver (s : State) (x : Nat) : (s.setScan x).driver = s.driver := rfl
@[simp] theorem State.setScan_distance (s : State) (x : Nat) : (s.setScan x).distance = s.distance := rfl
@[simp] theorem State.setScan_store (s : State) (x : Nat) : (s.setScan x).store = s.store := rfl
@[simp] theorem State.setScan_roster (s : State) (x : Nat) : (s.setScan x).roster = s.roster := rfl
@[simp] theorem State.setScan_monitor (s : State) (x : Nat) : (s.setScan x).monitor = s.monitor := rfl
@[simp] theorem State.setScan_service (s : State) (x : Nat) : (s.setScan x).service = s.service := rfl
@[simp] theorem State.setScan_reports (s : State) (x : Nat) : (s.setScan x).reports = s.reports := rfl
@[simp] theorem State.setScan_scan (s : State) (x : Nat) : (s.setScan x).scan = x := rfl
@[simp] theorem State.setScan_pending (s : State) (x : Nat) : (s.setScan x).pending = s.pending := rfl

@[simp] theorem State.setPending_now (s : State) (x : List Instr) : (s.setPending x).now = s.now := rfl
@[simp] theorem State.setPending_tables (s : State) (x : List Instr) : (s.setPending x).tables = s.tables := rfl
@[simp] theorem State.setPending_control (s : State) (x : List Instr) : (s.setPending x).control = s.control := rfl
@[simp] theorem State.setPending_line (s : State) (x : List Instr) : (s.setPending x).line = s.line := rfl
@[simp] theorem State.setPending_slots (s : State) (x : List Instr) : (s.setPending x).slots = s.slots := rfl
@[simp] theorem State.setPending_gauges (s : State) (x : List Instr) : (s.setPending x).gauges = s.gauges := rfl
@[simp] theorem State.setPending_telltale (s : State) (x : List Instr) : (s.setPending x).telltale = s.telltale := rfl
@[simp] theorem State.setPending_chime (s : State) (x : List Instr) : (s.setPending x).chime = s.chime := rfl
@[simp] theorem State.setPending_readout (s : State) (x : List Instr) : (s.setPending x).readout = s.readout := rfl
@[simp] theorem State.setPending_driver (s : State) (x : List Instr) : (s.setPending x).driver = s.driver := rfl
@[simp] theorem State.setPending_distance (s : State) (x : List Instr) : (s.setPending x).distance = s.distance := rfl
@[simp] theorem State.setPending_store (s : State) (x : List Instr) : (s.setPending x).store = s.store := rfl
@[simp] theorem State.setPending_roster (s : State) (x : List Instr) : (s.setPending x).roster = s.roster := rfl
@[simp] theorem State.setPending_monitor (s : State) (x : List Instr) : (s.setPending x).monitor = s.monitor := rfl
@[simp] theorem State.setPending_service (s : State) (x : List Instr) : (s.setPending x).service = s.service := rfl
@[simp] theorem State.setPending_reports (s : State) (x : List Instr) : (s.setPending x).reports = s.reports := rfl
@[simp] theorem State.setPending_scan (s : State) (x : List Instr) : (s.setPending x).scan = s.scan := rfl
@[simp] theorem State.setPending_pending (s : State) (x : List Instr) : (s.setPending x).pending = x := rfl

end Sys2Proof.Machine
end

