-- ==== Sys2Proof/Laws/FramesOps.lean ====
section
/-! SUPPORT. What the shared operations of Ops.lean, the Condition Monitor, the Chime Unit and the Readout Unit leave unchanged. -/

namespace Sys2Proof.Machine

open Sys2Proof

/-- What no step of a fold changes, the fold leaves. -/
theorem foldl_keeps {α β : Type} (p : State → β) (f : State → α → State) (h : ∀ s a, p (f s a) = p s)
    (l : List α) (s : State) : p (l.foldl f s) = p s := by
  induction l generalizing s with
  | nil => rfl
  | cons a l ih => rw [List.foldl_cons, ih, h]

@[simp] theorem tellSource_frame (src : Source) (on : Bool) (s : State) :
    (tellSource src on s).now = s.now ∧ (tellSource src on s).tables = s.tables ∧
    (tellSource src on s).control = s.control ∧ (tellSource src on s).line = s.line ∧
    (tellSource src on s).slots = s.slots ∧ (tellSource src on s).gauges = s.gauges ∧
    (tellSource src on s).telltale = s.telltale ∧ (tellSource src on s).chime = s.chime ∧
    (tellSource src on s).readout = s.readout ∧ (tellSource src on s).driver = s.driver ∧
    (tellSource src on s).distance = s.distance ∧ (tellSource src on s).store = s.store ∧
    (tellSource src on s).roster = s.roster ∧ (tellSource src on s).monitor = s.monitor ∧
    (tellSource src on s).service = s.service ∧ (tellSource src on s).scan = s.scan ∧
    (tellSource src on s).pending = s.pending := by
  simp [tellSource]

@[simp] theorem count_frame (h : Fin 10) (s : State) :
    (count h s).now = s.now ∧ (count h s).tables = s.tables ∧ (count h s).control = s.control ∧
    (count h s).line = s.line ∧ (count h s).slots = s.slots ∧ (count h s).gauges = s.gauges ∧
    (count h s).telltale = s.telltale ∧ (count h s).chime = s.chime ∧ (count h s).readout = s.readout ∧
    (count h s).driver = s.driver ∧ (count h s).distance = s.distance ∧ (count h s).store = s.store ∧
    (count h s).roster = s.roster ∧ (count h s).service = s.service ∧ (count h s).scan = s.scan ∧
    (count h s).pending = s.pending := by
  simp only [count]
  split <;> simp

/-- The wall clock gives up no more than the time that passes, so that it never runs backward (R109). -/
theorem Clock.givenUp_le (now d : Nat) (c : Clock) : c.givenUp now d ≤ d := by
  unfold Clock.givenUp Clock.stepsDue
  split
  · simp only [slewMs]
    repeat' split
    all_goals omega
  · omega
  · omega

/-- In the time for `n` ms the wall clock advances by `n` ms. -/
theorem Clock.timeFor_givenUp {now n : Nat} (c : Clock) (h : n ≤ 1000) :
    c.timeFor now n - c.givenUp now (c.timeFor now n) = n := by
  unfold Clock.timeFor Clock.givenUp Clock.stepsDue
  split
  · next r due _ _ =>
    simp only [slewMs]
    by_cases hr : r < 0
    · simp only [hr, true_and]
      generalize r.natAbs = m
      repeat' split
      all_goals omega
    · simp [hr]
  · simp
  · simp

/-- The passing of time leaves all of the wall clock but its seconds and ms. -/
@[simp] theorem Clock.pass_frame (now d : Nat) (c : Clock) :
    (c.pass now d).state = c.state ∧ (c.pass now d).offset = c.offset ∧ (c.pass now d).slew = c.slew ∧
    (c.pass now d).slewDue = c.slewDue ∧ (c.pass now d).holdoverDue = c.holdoverDue ∧
    (c.pass now d).reported = c.reported := by
  unfold Clock.pass Clock.addMs
  split <;> simp

/-- The wall clock after the passing of time. -/
@[simp] theorem advance_clock (d : Nat) (s : State) :
    (advance d s).driver.clock = s.driver.clock.pass s.now d := by
  unfold advance
  split <;> simp

@[simp] theorem advance_frame (d : Nat) (s : State) :
    (advance d s).tables = s.tables ∧ (advance d s).control = s.control ∧ (advance d s).line = s.line ∧
    (advance d s).slots = s.slots ∧ (advance d s).gauges = s.gauges ∧
    (advance d s).telltale = s.telltale ∧ (advance d s).chime = s.chime ∧
    (advance d s).distance = s.distance ∧ (advance d s).store = s.store ∧
    (advance d s).roster = s.roster ∧ (advance d s).monitor = s.monitor ∧
    (advance d s).service = s.service ∧ (advance d s).reports = s.reports ∧
    (advance d s).scan = s.scan ∧ (advance d s).pending = s.pending := by
  unfold advance
  split <;> simp

@[simp] theorem reach_frame (due : Nat) (s : State) :
    (reach due s).tables = s.tables ∧ (reach due s).control = s.control ∧ (reach due s).line = s.line ∧
    (reach due s).slots = s.slots ∧ (reach due s).gauges = s.gauges ∧
    (reach due s).telltale = s.telltale ∧ (reach due s).chime = s.chime ∧
    (reach due s).distance = s.distance ∧ (reach due s).store = s.store ∧
    (reach due s).roster = s.roster ∧ (reach due s).monitor = s.monitor ∧
    (reach due s).service = s.service ∧ (reach due s).reports = s.reports ∧
    (reach due s).scan = s.scan ∧ (reach due s).pending = s.pending := by
  unfold reach
  split <;> simp

@[simp] theorem tryTransmit_frame (s : State) :
    (tryTransmit s).now = s.now ∧ (tryTransmit s).tables = s.tables ∧
    (tryTransmit s).control = s.control ∧ (tryTransmit s).slots = s.slots ∧
    (tryTransmit s).gauges = s.gauges ∧ (tryTransmit s).telltale = s.telltale ∧
    (tryTransmit s).chime = s.chime ∧ (tryTransmit s).readout = s.readout ∧
    (tryTransmit s).driver = s.driver ∧ (tryTransmit s).distance = s.distance ∧
    (tryTransmit s).store = s.store ∧ (tryTransmit s).roster = s.roster ∧
    (tryTransmit s).monitor = s.monitor ∧ (tryTransmit s).service = s.service ∧
    (tryTransmit s).reports = s.reports ∧ (tryTransmit s).scan = s.scan ∧
    (tryTransmit s).pending = s.pending := by
  unfold tryTransmit
  repeat' split
  all_goals simp

@[simp] theorem reportLeaving_frame (kind : TxKind) (payload : List Byte) (how : Leaving) (s : State) :
    (reportLeaving kind payload how s).now = s.now ∧
    (reportLeaving kind payload how s).tables = s.tables ∧
    (reportLeaving kind payload how s).control = s.control ∧
    (reportLeaving kind payload how s).line = s.line ∧
    (reportLeaving kind payload how s).slots = s.slots ∧
    (reportLeaving kind payload how s).gauges = s.gauges ∧
    (reportLeaving kind payload how s).telltale = s.telltale ∧
    (reportLeaving kind payload how s).chime = s.chime ∧
    (reportLeaving kind payload how s).readout = s.readout ∧
    (reportLeaving kind payload how s).driver = s.driver ∧
    (reportLeaving kind payload how s).distance = s.distance ∧
    (reportLeaving kind payload how s).store = s.store ∧
    (reportLeaving kind payload how s).monitor = s.monitor ∧
    (reportLeaving kind payload how s).reports = s.reports ∧
    (reportLeaving kind payload how s).scan = s.scan ∧
    (reportLeaving kind payload how s).pending = s.pending := by
  cases kind <;> simp only [reportLeaving] <;> (try split) <;> simp

@[simp] theorem placeFrame_frame (kind : TxKind) (payload : List Byte) (s : State) :
    (placeFrame kind payload s).now = s.now ∧ (placeFrame kind payload s).tables = s.tables ∧
    (placeFrame kind payload s).control = s.control ∧ (placeFrame kind payload s).slots = s.slots ∧
    (placeFrame kind payload s).gauges = s.gauges ∧ (placeFrame kind payload s).telltale = s.telltale ∧
    (placeFrame kind payload s).chime = s.chime ∧ (placeFrame kind payload s).readout = s.readout ∧
    (placeFrame kind payload s).driver = s.driver ∧ (placeFrame kind payload s).distance = s.distance ∧
    (placeFrame kind payload s).store = s.store ∧ (placeFrame kind payload s).scan = s.scan ∧
    (placeFrame kind payload s).pending = s.pending := by
  simp only [placeFrame]
  repeat' split
  all_goals simp

@[simp] theorem placeStatus_frame (s : State) :
    (placeStatus s).now = s.now ∧ (placeStatus s).tables = s.tables ∧
    (placeStatus s).control = s.control ∧ (placeStatus s).slots = s.slots ∧
    (placeStatus s).gauges = s.gauges ∧ (placeStatus s).telltale = s.telltale ∧
    (placeStatus s).chime = s.chime ∧ (placeStatus s).readout = s.readout ∧
    (placeStatus s).driver = s.driver ∧ (placeStatus s).distance = s.distance ∧
    (placeStatus s).store = s.store ∧ (placeStatus s).scan = s.scan ∧
    (placeStatus s).pending = s.pending := by
  simp [placeStatus]

@[simp] theorem placeDistanceReport_frame (s : State) :
    (placeDistanceReport s).now = s.now ∧ (placeDistanceReport s).tables = s.tables ∧
    (placeDistanceReport s).control = s.control ∧ (placeDistanceReport s).slots = s.slots ∧
    (placeDistanceReport s).gauges = s.gauges ∧ (placeDistanceReport s).telltale = s.telltale ∧
    (placeDistanceReport s).chime = s.chime ∧ (placeDistanceReport s).readout = s.readout ∧
    (placeDistanceReport s).driver = s.driver ∧ (placeDistanceReport s).distance = s.distance ∧
    (placeDistanceReport s).store = s.store ∧ (placeDistanceReport s).scan = s.scan ∧
    (placeDistanceReport s).pending = s.pending := by
  simp [placeDistanceReport]

@[simp] theorem restartStatus_frame (period : Nat) (s : State) :
    (restartStatus period s).now = s.now ∧ (restartStatus period s).tables = s.tables ∧
    (restartStatus period s).slots = s.slots ∧ (restartStatus period s).gauges = s.gauges ∧
    (restartStatus period s).telltale = s.telltale ∧ (restartStatus period s).chime = s.chime ∧
    (restartStatus period s).readout = s.readout ∧ (restartStatus period s).driver = s.driver ∧
    (restartStatus period s).distance = s.distance ∧ (restartStatus period s).store = s.store ∧
    (restartStatus period s).scan = s.scan ∧ (restartStatus period s).pending = s.pending := by
  simp [restartStatus]

@[simp] theorem restartDistanceReport_frame (s : State) :
    (restartDistanceReport s).now = s.now ∧ (restartDistanceReport s).tables = s.tables ∧
    (restartDistanceReport s).slots = s.slots ∧ (restartDistanceReport s).gauges = s.gauges ∧
    (restartDistanceReport s).telltale = s.telltale ∧ (restartDistanceReport s).chime = s.chime ∧
    (restartDistanceReport s).readout = s.readout ∧ (restartDistanceReport s).driver = s.driver ∧
    (restartDistanceReport s).distance = s.distance ∧ (restartDistanceReport s).store = s.store ∧
    (restartDistanceReport s).scan = s.scan ∧ (restartDistanceReport s).pending = s.pending := by
  simp [restartDistanceReport]

@[simp] theorem checkRun_frame (s : State) :
    (checkRun s).now = s.now ∧ (checkRun s).tables = s.tables ∧ (checkRun s).line = s.line ∧
    (checkRun s).slots = s.slots ∧ (checkRun s).gauges = s.gauges ∧ (checkRun s).telltale = s.telltale ∧
    (checkRun s).chime = s.chime ∧ (checkRun s).readout = s.readout ∧ (checkRun s).driver = s.driver ∧
    (checkRun s).distance = s.distance ∧ (checkRun s).store = s.store ∧ (checkRun s).roster = s.roster ∧
    (checkRun s).monitor = s.monitor ∧ (checkRun s).service = s.service ∧
    (checkRun s).reports = s.reports ∧ (checkRun s).scan = s.scan ∧ (checkRun s).pending = s.pending := by
  unfold checkRun
  split <;> simp

@[simp] theorem reportStartDone_frame (g : Fin 6) (s : State) :
    (reportStartDone g s).now = s.now ∧ (reportStartDone g s).tables = s.tables ∧
    (reportStartDone g s).line = s.line ∧ (reportStartDone g s).slots = s.slots ∧
    (reportStartDone g s).gauges = s.gauges ∧ (reportStartDone g s).telltale = s.telltale ∧
    (reportStartDone g s).chime = s.chime ∧ (reportStartDone g s).readout = s.readout ∧
    (reportStartDone g s).driver = s.driver ∧ (reportStartDone g s).distance = s.distance ∧
    (reportStartDone g s).store = s.store ∧ (reportStartDone g s).roster = s.roster ∧
    (reportStartDone g s).monitor = s.monitor ∧ (reportStartDone g s).service = s.service ∧
    (reportStartDone g s).reports = s.reports ∧ (reportStartDone g s).scan = s.scan ∧
    (reportStartDone g s).pending = s.pending := by
  unfold reportStartDone
  split <;> simp

@[simp] theorem reportProvingEnd_frame (s : State) :
    (reportProvingEnd s).now = s.now ∧ (reportProvingEnd s).tables = s.tables ∧
    (reportProvingEnd s).line = s.line ∧ (reportProvingEnd s).slots = s.slots ∧
    (reportProvingEnd s).gauges = s.gauges ∧ (reportProvingEnd s).telltale = s.telltale ∧
    (reportProvingEnd s).chime = s.chime ∧ (reportProvingEnd s).readout = s.readout ∧
    (reportProvingEnd s).driver = s.driver ∧ (reportProvingEnd s).distance = s.distance ∧
    (reportProvingEnd s).store = s.store ∧ (reportProvingEnd s).roster = s.roster ∧
    (reportProvingEnd s).monitor = s.monitor ∧ (reportProvingEnd s).service = s.service ∧
    (reportProvingEnd s).reports = s.reports ∧ (reportProvingEnd s).scan = s.scan ∧
    (reportProvingEnd s).pending = s.pending := by
  unfold reportProvingEnd
  split <;> simp

@[simp] theorem setErrorIndication_frame (s : State) :
    (setErrorIndication s).now = s.now ∧ (setErrorIndication s).tables = s.tables ∧
    (setErrorIndication s).line = s.line ∧ (setErrorIndication s).slots = s.slots ∧
    (setErrorIndication s).gauges = s.gauges ∧ (setErrorIndication s).telltale = s.telltale ∧
    (setErrorIndication s).chime = s.chime ∧ (setErrorIndication s).readout = s.readout ∧
    (setErrorIndication s).driver = s.driver ∧ (setErrorIndication s).distance = s.distance ∧
    (setErrorIndication s).store = s.store ∧ (setErrorIndication s).roster = s.roster ∧
    (setErrorIndication s).monitor = s.monitor ∧ (setErrorIndication s).service = s.service ∧
    (setErrorIndication s).reports = s.reports ∧ (setErrorIndication s).scan = s.scan ∧
    (setErrorIndication s).pending = s.pending := by
  simp [setErrorIndication]

@[simp] theorem consumeNotice_frame (s : State) :
    (consumeNotice s).now = s.now ∧ (consumeNotice s).tables = s.tables ∧
    (consumeNotice s).control = s.control ∧ (consumeNotice s).line = s.line ∧
    (consumeNotice s).slots = s.slots ∧ (consumeNotice s).gauges = s.gauges ∧
    (consumeNotice s).telltale = s.telltale ∧ (consumeNotice s).chime = s.chime ∧
    (consumeNotice s).readout = s.readout ∧ (consumeNotice s).distance = s.distance ∧
    (consumeNotice s).store = s.store ∧ (consumeNotice s).roster = s.roster ∧
    (consumeNotice s).monitor = s.monitor ∧ (consumeNotice s).service = s.service ∧
    (consumeNotice s).reports = s.reports ∧ (consumeNotice s).scan = s.scan ∧
    (consumeNotice s).pending = s.pending := by
  unfold consumeNotice
  split <;> simp

@[simp] theorem reportCleared_frame (before : Vector Attribute 10)  (h : Fin 10) (s : State) :
    (reportCleared before s h).now = s.now ∧ (reportCleared before s h).tables = s.tables ∧
    (reportCleared before s h).control = s.control ∧ (reportCleared before s h).line = s.line ∧
    (reportCleared before s h).slots = s.slots ∧ (reportCleared before s h).gauges = s.gauges ∧
    (reportCleared before s h).telltale = s.telltale ∧ (reportCleared before s h).chime = s.chime ∧
    (reportCleared before s h).readout = s.readout ∧ (reportCleared before s h).driver = s.driver ∧
    (reportCleared before s h).distance = s.distance ∧ (reportCleared before s h).store = s.store ∧
    (reportCleared before s h).roster = s.roster ∧ (reportCleared before s h).monitor = s.monitor ∧
    (reportCleared before s h).service = s.service ∧ (reportCleared before s h).scan = s.scan ∧
    (reportCleared before s h).pending = s.pending := by
  unfold reportCleared
  split <;> simp

@[simp] theorem clearMonitor_frame (s : State) :
    (clearMonitor s).now = s.now ∧ (clearMonitor s).tables = s.tables ∧
    (clearMonitor s).control = s.control ∧ (clearMonitor s).line = s.line ∧
    (clearMonitor s).slots = s.slots ∧ (clearMonitor s).gauges = s.gauges ∧
    (clearMonitor s).telltale = s.telltale ∧ (clearMonitor s).chime = s.chime ∧
    (clearMonitor s).readout = s.readout ∧ (clearMonitor s).driver = s.driver ∧
    (clearMonitor s).distance = s.distance ∧ (clearMonitor s).store = s.store ∧
    (clearMonitor s).roster = s.roster ∧ (clearMonitor s).service = s.service ∧
    (clearMonitor s).scan = s.scan ∧ (clearMonitor s).pending = s.pending := by
  simp [clearMonitor, allAttributes]

@[simp] theorem postChime_frame (id : ChimeId) (g : Grade) (s : State) :
    (postChime id g s).now = s.now ∧ (postChime id g s).tables = s.tables ∧
    (postChime id g s).control = s.control ∧ (postChime id g s).line = s.line ∧
    (postChime id g s).slots = s.slots ∧ (postChime id g s).gauges = s.gauges ∧
    (postChime id g s).telltale = s.telltale ∧ (postChime id g s).readout = s.readout ∧
    (postChime id g s).driver = s.driver ∧ (postChime id g s).distance = s.distance ∧
    (postChime id g s).store = s.store ∧ (postChime id g s).roster = s.roster ∧
    (postChime id g s).service = s.service ∧ (postChime id g s).scan = s.scan ∧
    (postChime id g s).pending = s.pending := by
  simp only [postChime]
  repeat' split
  all_goals simp

@[simp] theorem leaveChime_frame (id : ChimeId) (s : State) :
    (leaveChime id s).now = s.now ∧ (leaveChime id s).tables = s.tables ∧
    (leaveChime id s).control = s.control ∧ (leaveChime id s).line = s.line ∧
    (leaveChime id s).slots = s.slots ∧ (leaveChime id s).gauges = s.gauges ∧
    (leaveChime id s).telltale = s.telltale ∧ (leaveChime id s).readout = s.readout ∧
    (leaveChime id s).driver = s.driver ∧ (leaveChime id s).distance = s.distance ∧
    (leaveChime id s).store = s.store ∧ (leaveChime id s).roster = s.roster ∧
    (leaveChime id s).monitor = s.monitor ∧ (leaveChime id s).service = s.service ∧
    (leaveChime id s).reports = s.reports ∧ (leaveChime id s).scan = s.scan ∧
    (leaveChime id s).pending = s.pending := by
  unfold leaveChime
  split <;> simp

@[simp] theorem ackChime_frame (s : State) :
    (ackChime s).now = s.now ∧ (ackChime s).tables = s.tables ∧ (ackChime s).control = s.control ∧
    (ackChime s).line = s.line ∧ (ackChime s).slots = s.slots ∧ (ackChime s).gauges = s.gauges ∧
    (ackChime s).telltale = s.telltale ∧ (ackChime s).readout = s.readout ∧
    (ackChime s).driver = s.driver ∧ (ackChime s).distance = s.distance ∧ (ackChime s).store = s.store ∧
    (ackChime s).roster = s.roster ∧ (ackChime s).monitor = s.monitor ∧
    (ackChime s).service = s.service ∧ (ackChime s).reports = s.reports ∧ (ackChime s).scan = s.scan ∧
    (ackChime s).pending = s.pending := by
  simp [ackChime]

@[simp] theorem clearChime_frame (accepting : Bool) (s : State) :
    (clearChime accepting s).now = s.now ∧ (clearChime accepting s).tables = s.tables ∧
    (clearChime accepting s).control = s.control ∧ (clearChime accepting s).line = s.line ∧
    (clearChime accepting s).slots = s.slots ∧ (clearChime accepting s).gauges = s.gauges ∧
    (clearChime accepting s).telltale = s.telltale ∧ (clearChime accepting s).readout = s.readout ∧
    (clearChime accepting s).driver = s.driver ∧ (clearChime accepting s).distance = s.distance ∧
    (clearChime accepting s).store = s.store ∧ (clearChime accepting s).roster = s.roster ∧
    (clearChime accepting s).monitor = s.monitor ∧ (clearChime accepting s).service = s.service ∧
    (clearChime accepting s).reports = s.reports ∧ (clearChime accepting s).scan = s.scan ∧
    (clearChime accepting s).pending = s.pending := by
  simp [clearChime]

@[simp] theorem chimeMark_frame (due : Nat) (s : State) :
    (chimeMark due s).now = s.now ∧ (chimeMark due s).tables = s.tables ∧
    (chimeMark due s).control = s.control ∧ (chimeMark due s).line = s.line ∧
    (chimeMark due s).slots = s.slots ∧ (chimeMark due s).gauges = s.gauges ∧
    (chimeMark due s).telltale = s.telltale ∧ (chimeMark due s).readout = s.readout ∧
    (chimeMark due s).driver = s.driver ∧ (chimeMark due s).distance = s.distance ∧
    (chimeMark due s).store = s.store ∧ (chimeMark due s).roster = s.roster ∧
    (chimeMark due s).monitor = s.monitor ∧ (chimeMark due s).service = s.service ∧
    (chimeMark due s).reports = s.reports ∧ (chimeMark due s).scan = s.scan ∧
    (chimeMark due s).pending = s.pending := by
  unfold chimeMark
  repeat' split
  all_goals simp

@[simp] theorem postPopup_frame (message : Nat) (cls : Grade) (nonLatched : Bool) (s : State) :
    (postPopup message cls nonLatched s).now = s.now ∧
    (postPopup message cls nonLatched s).tables = s.tables ∧
    (postPopup message cls nonLatched s).control = s.control ∧
    (postPopup message cls nonLatched s).line = s.line ∧
    (postPopup message cls nonLatched s).slots = s.slots ∧
    (postPopup message cls nonLatched s).gauges = s.gauges ∧
    (postPopup message cls nonLatched s).telltale = s.telltale ∧
    (postPopup message cls nonLatched s).chime = s.chime ∧
    (postPopup message cls nonLatched s).driver = s.driver ∧
    (postPopup message cls nonLatched s).distance = s.distance ∧
    (postPopup message cls nonLatched s).store = s.store ∧
    (postPopup message cls nonLatched s).roster = s.roster ∧
    (postPopup message cls nonLatched s).service = s.service ∧
    (postPopup message cls nonLatched s).scan = s.scan ∧
    (postPopup message cls nonLatched s).pending = s.pending := by
  simp only [postPopup]
  repeat' split
  all_goals simp

@[simp] theorem removePopup_frame (message : Nat) (s : State) :
    (removePopup message s).now = s.now ∧ (removePopup message s).tables = s.tables ∧
    (removePopup message s).control = s.control ∧ (removePopup message s).line = s.line ∧
    (removePopup message s).slots = s.slots ∧ (removePopup message s).gauges = s.gauges ∧
    (removePopup message s).telltale = s.telltale ∧ (removePopup message s).chime = s.chime ∧
    (removePopup message s).driver = s.driver ∧ (removePopup message s).distance = s.distance ∧
    (removePopup message s).store = s.store ∧ (removePopup message s).roster = s.roster ∧
    (removePopup message s).monitor = s.monitor ∧ (removePopup message s).service = s.service ∧
    (removePopup message s).reports = s.reports ∧ (removePopup message s).scan = s.scan ∧
    (removePopup message s).pending = s.pending := by
  simp [removePopup]

@[simp] theorem retirePopup_frame (message : Nat) (s : State) :
    (retirePopup message s).now = s.now ∧ (retirePopup message s).tables = s.tables ∧
    (retirePopup message s).control = s.control ∧ (retirePopup message s).line = s.line ∧
    (retirePopup message s).slots = s.slots ∧ (retirePopup message s).gauges = s.gauges ∧
    (retirePopup message s).telltale = s.telltale ∧ (retirePopup message s).chime = s.chime ∧
    (retirePopup message s).distance = s.distance ∧ (retirePopup message s).store = s.store ∧
    (retirePopup message s).roster = s.roster ∧ (retirePopup message s).monitor = s.monitor ∧
    (retirePopup message s).service = s.service ∧ (retirePopup message s).reports = s.reports ∧
    (retirePopup message s).scan = s.scan ∧ (retirePopup message s).pending = s.pending := by
  unfold retirePopup
  split <;> simp

@[simp] theorem causeCleared_frame (message : Nat) (s : State) :
    (causeCleared message s).now = s.now ∧ (causeCleared message s).tables = s.tables ∧
    (causeCleared message s).control = s.control ∧ (causeCleared message s).line = s.line ∧
    (causeCleared message s).slots = s.slots ∧ (causeCleared message s).gauges = s.gauges ∧
    (causeCleared message s).telltale = s.telltale ∧ (causeCleared message s).chime = s.chime ∧
    (causeCleared message s).driver = s.driver ∧ (causeCleared message s).distance = s.distance ∧
    (causeCleared message s).store = s.store ∧ (causeCleared message s).roster = s.roster ∧
    (causeCleared message s).monitor = s.monitor ∧ (causeCleared message s).service = s.service ∧
    (causeCleared message s).reports = s.reports ∧ (causeCleared message s).scan = s.scan ∧
    (causeCleared message s).pending = s.pending := by
  unfold causeCleared
  split <;> simp

@[simp] theorem ackPopup_frame (s : State) :
    (ackPopup s).now = s.now ∧ (ackPopup s).tables = s.tables ∧ (ackPopup s).control = s.control ∧
    (ackPopup s).line = s.line ∧ (ackPopup s).slots = s.slots ∧ (ackPopup s).gauges = s.gauges ∧
    (ackPopup s).telltale = s.telltale ∧ (ackPopup s).chime = s.chime ∧
    (ackPopup s).distance = s.distance ∧ (ackPopup s).store = s.store ∧ (ackPopup s).roster = s.roster ∧
    (ackPopup s).monitor = s.monitor ∧ (ackPopup s).service = s.service ∧
    (ackPopup s).reports = s.reports ∧ (ackPopup s).scan = s.scan ∧ (ackPopup s).pending = s.pending := by
  unfold ackPopup
  repeat' split
  all_goals simp

@[simp] theorem popupMark_frame (m : PopupMark) (s : State) :
    (popupMark m s).tables = s.tables ∧ (popupMark m s).control = s.control ∧
    (popupMark m s).line = s.line ∧ (popupMark m s).slots = s.slots ∧
    (popupMark m s).gauges = s.gauges ∧ (popupMark m s).telltale = s.telltale ∧
    (popupMark m s).chime = s.chime ∧ (popupMark m s).distance = s.distance ∧
    (popupMark m s).store = s.store ∧ (popupMark m s).roster = s.roster ∧
    (popupMark m s).monitor = s.monitor ∧ (popupMark m s).service = s.service ∧
    (popupMark m s).reports = s.reports ∧ (popupMark m s).scan = s.scan ∧
    (popupMark m s).pending = s.pending := by
  unfold popupMark
  repeat' split
  all_goals simp

@[simp] theorem startPopups_frame (s : State) :
    (startPopups s).now = s.now ∧ (startPopups s).tables = s.tables ∧
    (startPopups s).control = s.control ∧ (startPopups s).line = s.line ∧
    (startPopups s).slots = s.slots ∧ (startPopups s).gauges = s.gauges ∧
    (startPopups s).telltale = s.telltale ∧ (startPopups s).chime = s.chime ∧
    (startPopups s).driver = s.driver ∧ (startPopups s).distance = s.distance ∧
    (startPopups s).store = s.store ∧ (startPopups s).roster = s.roster ∧
    (startPopups s).service = s.service ∧ (startPopups s).scan = s.scan ∧
    (startPopups s).pending = s.pending := by
  unfold startPopups
  repeat' split
  all_goals simp

@[simp] theorem refreshScreen_frame (s : State) :
    (refreshScreen s).now = s.now ∧ (refreshScreen s).tables = s.tables ∧
    (refreshScreen s).control = s.control ∧ (refreshScreen s).line = s.line ∧
    (refreshScreen s).slots = s.slots ∧ (refreshScreen s).gauges = s.gauges ∧
    (refreshScreen s).telltale = s.telltale ∧ (refreshScreen s).chime = s.chime ∧
    (refreshScreen s).driver = s.driver ∧ (refreshScreen s).distance = s.distance ∧
    (refreshScreen s).store = s.store ∧ (refreshScreen s).roster = s.roster ∧
    (refreshScreen s).monitor = s.monitor ∧ (refreshScreen s).service = s.service ∧
    (refreshScreen s).reports = s.reports ∧ (refreshScreen s).scan = s.scan ∧
    (refreshScreen s).pending = s.pending := by
  simp only [refreshScreen]
  split <;> simp

@[simp] theorem firstWrite_frame (s : State) :
    (firstWrite s).now = s.now ∧ (firstWrite s).tables = s.tables ∧ (firstWrite s).control = s.control ∧
    (firstWrite s).line = s.line ∧ (firstWrite s).slots = s.slots ∧ (firstWrite s).gauges = s.gauges ∧
    (firstWrite s).telltale = s.telltale ∧ (firstWrite s).chime = s.chime ∧
    (firstWrite s).driver = s.driver ∧ (firstWrite s).distance = s.distance ∧
    (firstWrite s).store = s.store ∧ (firstWrite s).roster = s.roster ∧
    (firstWrite s).monitor = s.monitor ∧ (firstWrite s).service = s.service ∧
    (firstWrite s).reports = s.reports ∧ (firstWrite s).scan = s.scan ∧
    (firstWrite s).pending = s.pending := by
  simp [firstWrite]

@[simp] theorem screenWritten_frame (s : State) :
    (screenWritten s).now = s.now ∧ (screenWritten s).tables = s.tables ∧
    (screenWritten s).control = s.control ∧ (screenWritten s).line = s.line ∧
    (screenWritten s).slots = s.slots ∧ (screenWritten s).gauges = s.gauges ∧
    (screenWritten s).telltale = s.telltale ∧ (screenWritten s).chime = s.chime ∧
    (screenWritten s).driver = s.driver ∧ (screenWritten s).distance = s.distance ∧
    (screenWritten s).store = s.store ∧ (screenWritten s).roster = s.roster ∧
    (screenWritten s).monitor = s.monitor ∧ (screenWritten s).service = s.service ∧
    (screenWritten s).reports = s.reports ∧ (screenWritten s).scan = s.scan ∧
    (screenWritten s).pending = s.pending := by
  unfold screenWritten
  repeat' split
  all_goals simp

end Sys2Proof.Machine
end

