-- ==== Sys2Proof/Laws/FramesStore.lean ====
section
/-! SUPPORT. What the operations of the Record Store and the Distance Unit leave unchanged. -/

namespace Sys2Proof.Machine

open Sys2Proof

@[simp] theorem changeStoreState_frame (st : StoreState) (s : State) :
    (changeStoreState st s).now = s.now ∧ (changeStoreState st s).tables = s.tables ∧
    (changeStoreState st s).line = s.line ∧ (changeStoreState st s).slots = s.slots ∧
    (changeStoreState st s).gauges = s.gauges ∧ (changeStoreState st s).telltale = s.telltale ∧
    (changeStoreState st s).chime = s.chime ∧ (changeStoreState st s).driver = s.driver ∧
    (changeStoreState st s).distance = s.distance ∧ (changeStoreState st s).roster = s.roster ∧
    (changeStoreState st s).service = s.service ∧ (changeStoreState st s).scan = s.scan ∧
    (changeStoreState st s).pending = s.pending := by
  unfold changeStoreState
  repeat' split
  all_goals simp

@[simp] theorem beginAttempt_frame (w : Write) (s : State) :
    (beginAttempt w s).now = s.now ∧ (beginAttempt w s).tables = s.tables ∧
    (beginAttempt w s).control = s.control ∧ (beginAttempt w s).line = s.line ∧
    (beginAttempt w s).slots = s.slots ∧ (beginAttempt w s).gauges = s.gauges ∧
    (beginAttempt w s).telltale = s.telltale ∧ (beginAttempt w s).chime = s.chime ∧
    (beginAttempt w s).readout = s.readout ∧ (beginAttempt w s).driver = s.driver ∧
    (beginAttempt w s).distance = s.distance ∧ (beginAttempt w s).roster = s.roster ∧
    (beginAttempt w s).monitor = s.monitor ∧ (beginAttempt w s).service = s.service ∧
    (beginAttempt w s).reports = s.reports ∧ (beginAttempt w s).scan = s.scan ∧
    (beginAttempt w s).pending = s.pending := by
  simp [beginAttempt]

@[simp] theorem startWrite_frame (s : State) :
    (startWrite s).now = s.now ∧ (startWrite s).tables = s.tables ∧ (startWrite s).line = s.line ∧
    (startWrite s).slots = s.slots ∧ (startWrite s).gauges = s.gauges ∧
    (startWrite s).telltale = s.telltale ∧ (startWrite s).chime = s.chime ∧
    (startWrite s).driver = s.driver ∧ (startWrite s).roster = s.roster ∧
    (startWrite s).service = s.service ∧ (startWrite s).scan = s.scan ∧
    (startWrite s).pending = s.pending := by
  unfold startWrite
  repeat' split
  all_goals simp

@[simp] theorem requestWrite_frame (s : State) :
    (requestWrite s).now = s.now ∧ (requestWrite s).tables = s.tables ∧ (requestWrite s).line = s.line ∧
    (requestWrite s).slots = s.slots ∧ (requestWrite s).gauges = s.gauges ∧
    (requestWrite s).telltale = s.telltale ∧ (requestWrite s).chime = s.chime ∧
    (requestWrite s).driver = s.driver ∧ (requestWrite s).roster = s.roster ∧
    (requestWrite s).service = s.service ∧ (requestWrite s).scan = s.scan ∧
    (requestWrite s).pending = s.pending := by
  unfold requestWrite
  repeat' split
  all_goals simp

@[simp] theorem endWrite_frame (s : State) :
    (endWrite s).now = s.now ∧ (endWrite s).tables = s.tables ∧ (endWrite s).line = s.line ∧
    (endWrite s).slots = s.slots ∧ (endWrite s).gauges = s.gauges ∧ (endWrite s).telltale = s.telltale ∧
    (endWrite s).chime = s.chime ∧ (endWrite s).driver = s.driver ∧ (endWrite s).roster = s.roster ∧
    (endWrite s).service = s.service ∧ (endWrite s).scan = s.scan ∧ (endWrite s).pending = s.pending := by
  unfold endWrite
  split <;> simp

@[simp] theorem programmingDone_frame (attempt : Nat) (s : State) :
    (programmingDone attempt s).now = s.now ∧ (programmingDone attempt s).tables = s.tables ∧
    (programmingDone attempt s).control = s.control ∧ (programmingDone attempt s).line = s.line ∧
    (programmingDone attempt s).slots = s.slots ∧ (programmingDone attempt s).gauges = s.gauges ∧
    (programmingDone attempt s).telltale = s.telltale ∧ (programmingDone attempt s).chime = s.chime ∧
    (programmingDone attempt s).readout = s.readout ∧ (programmingDone attempt s).driver = s.driver ∧
    (programmingDone attempt s).distance = s.distance ∧ (programmingDone attempt s).roster = s.roster ∧
    (programmingDone attempt s).monitor = s.monitor ∧ (programmingDone attempt s).service = s.service ∧
    (programmingDone attempt s).reports = s.reports ∧ (programmingDone attempt s).scan = s.scan ∧
    (programmingDone attempt s).pending = s.pending := by
  unfold programmingDone
  repeat' split
  all_goals simp

@[simp] theorem verifyWrite_frame (w : Write) (s : State) :
    (verifyWrite w s).now = s.now ∧ (verifyWrite w s).tables = s.tables ∧
    (verifyWrite w s).line = s.line ∧ (verifyWrite w s).slots = s.slots ∧
    (verifyWrite w s).gauges = s.gauges ∧ (verifyWrite w s).telltale = s.telltale ∧
    (verifyWrite w s).chime = s.chime ∧ (verifyWrite w s).driver = s.driver ∧
    (verifyWrite w s).roster = s.roster ∧ (verifyWrite w s).service = s.service ∧
    (verifyWrite w s).scan = s.scan ∧ (verifyWrite w s).pending = s.pending := by
  simp [verifyWrite]

@[simp] theorem rewrite_frame (w : Write) (s : State) :
    (rewrite w s).now = s.now ∧ (rewrite w s).tables = s.tables ∧ (rewrite w s).line = s.line ∧
    (rewrite w s).slots = s.slots ∧ (rewrite w s).gauges = s.gauges ∧
    (rewrite w s).telltale = s.telltale ∧ (rewrite w s).chime = s.chime ∧
    (rewrite w s).driver = s.driver ∧ (rewrite w s).roster = s.roster ∧
    (rewrite w s).service = s.service ∧ (rewrite w s).scan = s.scan ∧ (rewrite w s).pending = s.pending := by
  unfold rewrite
  split <;> simp

@[simp] theorem retireSlot_frame (w : Write) (s : State) :
    (retireSlot w s).now = s.now ∧ (retireSlot w s).tables = s.tables ∧ (retireSlot w s).line = s.line ∧
    (retireSlot w s).slots = s.slots ∧ (retireSlot w s).gauges = s.gauges ∧
    (retireSlot w s).telltale = s.telltale ∧ (retireSlot w s).chime = s.chime ∧
    (retireSlot w s).driver = s.driver ∧ (retireSlot w s).roster = s.roster ∧
    (retireSlot w s).service = s.service ∧ (retireSlot w s).scan = s.scan ∧
    (retireSlot w s).pending = s.pending := by
  simp only [retireSlot]
  split <;> simp

@[simp] theorem failAttempt_frame (w : Write) (s : State) :
    (failAttempt w s).now = s.now ∧ (failAttempt w s).tables = s.tables ∧
    (failAttempt w s).line = s.line ∧ (failAttempt w s).slots = s.slots ∧
    (failAttempt w s).gauges = s.gauges ∧ (failAttempt w s).telltale = s.telltale ∧
    (failAttempt w s).chime = s.chime ∧ (failAttempt w s).driver = s.driver ∧
    (failAttempt w s).roster = s.roster ∧ (failAttempt w s).service = s.service ∧
    (failAttempt w s).scan = s.scan ∧ (failAttempt w s).pending = s.pending := by
  unfold failAttempt
  split <;> simp

@[simp] theorem readBack_frame (attempt : Nat) (bytes : List Byte) (s : State) :
    (readBack attempt bytes s).now = s.now ∧ (readBack attempt bytes s).tables = s.tables ∧
    (readBack attempt bytes s).line = s.line ∧ (readBack attempt bytes s).slots = s.slots ∧
    (readBack attempt bytes s).gauges = s.gauges ∧ (readBack attempt bytes s).telltale = s.telltale ∧
    (readBack attempt bytes s).chime = s.chime ∧ (readBack attempt bytes s).driver = s.driver ∧
    (readBack attempt bytes s).roster = s.roster ∧ (readBack attempt bytes s).service = s.service ∧
    (readBack attempt bytes s).scan = s.scan ∧ (readBack attempt bytes s).pending = s.pending := by
  unfold readBack
  repeat' split
  all_goals simp

@[simp] theorem attemptTimedOut_frame (s : State) :
    (attemptTimedOut s).now = s.now ∧ (attemptTimedOut s).tables = s.tables ∧
    (attemptTimedOut s).line = s.line ∧ (attemptTimedOut s).slots = s.slots ∧
    (attemptTimedOut s).gauges = s.gauges ∧ (attemptTimedOut s).telltale = s.telltale ∧
    (attemptTimedOut s).chime = s.chime ∧ (attemptTimedOut s).driver = s.driver ∧
    (attemptTimedOut s).roster = s.roster ∧ (attemptTimedOut s).service = s.service ∧
    (attemptTimedOut s).scan = s.scan ∧ (attemptTimedOut s).pending = s.pending := by
  unfold attemptTimedOut
  split <;> simp

@[simp] theorem restore_frame (readable : Bool) (s : State) :
    (restore readable s).now = s.now ∧ (restore readable s).tables = s.tables ∧
    (restore readable s).control = s.control ∧ (restore readable s).line = s.line ∧
    (restore readable s).slots = s.slots ∧ (restore readable s).gauges = s.gauges ∧
    (restore readable s).telltale = s.telltale ∧ (restore readable s).chime = s.chime ∧
    (restore readable s).readout = s.readout ∧ (restore readable s).driver = s.driver ∧
    (restore readable s).roster = s.roster ∧ (restore readable s).service = s.service ∧
    (restore readable s).reports = s.reports ∧ (restore readable s).scan = s.scan ∧
    (restore readable s).pending = s.pending := by
  unfold restore
  split <;> simp

@[simp] theorem storeTrigger_frame (s : State) :
    (storeTrigger s).now = s.now ∧ (storeTrigger s).tables = s.tables ∧ (storeTrigger s).line = s.line ∧
    (storeTrigger s).slots = s.slots ∧ (storeTrigger s).gauges = s.gauges ∧
    (storeTrigger s).telltale = s.telltale ∧ (storeTrigger s).chime = s.chime ∧
    (storeTrigger s).driver = s.driver ∧ (storeTrigger s).roster = s.roster ∧
    (storeTrigger s).service = s.service ∧ (storeTrigger s).scan = s.scan ∧
    (storeTrigger s).pending = s.pending := by
  unfold storeTrigger
  split <;> simp

@[simp] theorem putDistance_frame (d : Distance) (s : State) :
    (putDistance d s).now = s.now ∧ (putDistance d s).tables = s.tables ∧
    (putDistance d s).line = s.line ∧ (putDistance d s).slots = s.slots ∧
    (putDistance d s).gauges = s.gauges ∧ (putDistance d s).telltale = s.telltale ∧
    (putDistance d s).chime = s.chime ∧ (putDistance d s).driver = s.driver ∧
    (putDistance d s).roster = s.roster ∧ (putDistance d s).service = s.service ∧
    (putDistance d s).scan = s.scan ∧ (putDistance d s).pending = s.pending := by
  unfold putDistance
  split <;> simp

@[simp] theorem distanceSampleAt_frame (due : Nat) (s : State) :
    (distanceSampleAt due s).now = s.now ∧ (distanceSampleAt due s).tables = s.tables ∧
    (distanceSampleAt due s).line = s.line ∧ (distanceSampleAt due s).slots = s.slots ∧
    (distanceSampleAt due s).gauges = s.gauges ∧ (distanceSampleAt due s).telltale = s.telltale ∧
    (distanceSampleAt due s).chime = s.chime ∧ (distanceSampleAt due s).driver = s.driver ∧
    (distanceSampleAt due s).roster = s.roster ∧ (distanceSampleAt due s).service = s.service ∧
    (distanceSampleAt due s).scan = s.scan ∧ (distanceSampleAt due s).pending = s.pending := by
  unfold distanceSampleAt
  split <;> simp

@[simp] theorem reconcile_frame (r : Nat) (s : State) :
    (reconcile r s).now = s.now ∧ (reconcile r s).tables = s.tables ∧ (reconcile r s).line = s.line ∧
    (reconcile r s).slots = s.slots ∧ (reconcile r s).gauges = s.gauges ∧
    (reconcile r s).telltale = s.telltale ∧ (reconcile r s).chime = s.chime ∧
    (reconcile r s).driver = s.driver ∧ (reconcile r s).roster = s.roster ∧
    (reconcile r s).service = s.service ∧ (reconcile r s).scan = s.scan ∧
    (reconcile r s).pending = s.pending := by
  simp only [reconcile]
  repeat' split
  all_goals simp

@[simp] theorem recorderDistance_frame (payload : List Byte) (s : State) :
    (recorderDistance payload s).now = s.now ∧ (recorderDistance payload s).tables = s.tables ∧
    (recorderDistance payload s).line = s.line ∧ (recorderDistance payload s).slots = s.slots ∧
    (recorderDistance payload s).gauges = s.gauges ∧
    (recorderDistance payload s).telltale = s.telltale ∧ (recorderDistance payload s).chime = s.chime ∧
    (recorderDistance payload s).driver = s.driver ∧ (recorderDistance payload s).roster = s.roster ∧
    (recorderDistance payload s).service = s.service ∧ (recorderDistance payload s).scan = s.scan ∧
    (recorderDistance payload s).pending = s.pending := by
  unfold recorderDistance
  split <;> simp

@[simp] theorem resetTripA_frame (s : State) :
    (resetTripA s).now = s.now ∧ (resetTripA s).tables = s.tables ∧ (resetTripA s).control = s.control ∧
    (resetTripA s).line = s.line ∧ (resetTripA s).slots = s.slots ∧ (resetTripA s).gauges = s.gauges ∧
    (resetTripA s).telltale = s.telltale ∧ (resetTripA s).chime = s.chime ∧
    (resetTripA s).readout = s.readout ∧ (resetTripA s).driver = s.driver ∧
    (resetTripA s).store = s.store ∧ (resetTripA s).roster = s.roster ∧
    (resetTripA s).monitor = s.monitor ∧ (resetTripA s).service = s.service ∧
    (resetTripA s).reports = s.reports ∧ (resetTripA s).scan = s.scan ∧
    (resetTripA s).pending = s.pending := by
  simp [resetTripA]

@[simp] theorem resetTripB_frame (s : State) :
    (resetTripB s).now = s.now ∧ (resetTripB s).tables = s.tables ∧ (resetTripB s).control = s.control ∧
    (resetTripB s).line = s.line ∧ (resetTripB s).slots = s.slots ∧ (resetTripB s).gauges = s.gauges ∧
    (resetTripB s).telltale = s.telltale ∧ (resetTripB s).chime = s.chime ∧
    (resetTripB s).readout = s.readout ∧ (resetTripB s).driver = s.driver ∧
    (resetTripB s).store = s.store ∧ (resetTripB s).roster = s.roster ∧
    (resetTripB s).monitor = s.monitor ∧ (resetTripB s).service = s.service ∧
    (resetTripB s).reports = s.reports ∧ (resetTripB s).scan = s.scan ∧
    (resetTripB s).pending = s.pending := by
  simp [resetTripB]

end Sys2Proof.Machine
end

