-- ==== Sys2Proof/Laws/FramesDriver.lean ====
section
/-! SUPPORT. What the operations of the Driver Time Unit and the Roster Unit leave unchanged. -/

namespace Sys2Proof.Machine

open Sys2Proof

@[simp] theorem putRecord_frame (d : Fin 2) (r : DriverRecord) (s : State) :
    (putRecord d r s).now = s.now ∧ (putRecord d r s).tables = s.tables ∧
    (putRecord d r s).control = s.control ∧ (putRecord d r s).line = s.line ∧
    (putRecord d r s).slots = s.slots ∧ (putRecord d r s).gauges = s.gauges ∧
    (putRecord d r s).telltale = s.telltale ∧ (putRecord d r s).chime = s.chime ∧
    (putRecord d r s).readout = s.readout ∧ (putRecord d r s).distance = s.distance ∧
    (putRecord d r s).store = s.store ∧ (putRecord d r s).roster = s.roster ∧
    (putRecord d r s).monitor = s.monitor ∧ (putRecord d r s).service = s.service ∧
    (putRecord d r s).reports = s.reports ∧ (putRecord d r s).scan = s.scan ∧
    (putRecord d r s).pending = s.pending := by
  simp [putRecord]

@[simp] theorem tellWarning_frame (d : Fin 2) (k : WarningKind) (old new : Bool) (s : State) :
    (tellWarning d k old new s).now = s.now ∧ (tellWarning d k old new s).tables = s.tables ∧
    (tellWarning d k old new s).control = s.control ∧ (tellWarning d k old new s).line = s.line ∧
    (tellWarning d k old new s).slots = s.slots ∧ (tellWarning d k old new s).gauges = s.gauges ∧
    (tellWarning d k old new s).telltale = s.telltale ∧ (tellWarning d k old new s).chime = s.chime ∧
    (tellWarning d k old new s).readout = s.readout ∧ (tellWarning d k old new s).driver = s.driver ∧
    (tellWarning d k old new s).distance = s.distance ∧ (tellWarning d k old new s).store = s.store ∧
    (tellWarning d k old new s).roster = s.roster ∧ (tellWarning d k old new s).monitor = s.monitor ∧
    (tellWarning d k old new s).service = s.service ∧ (tellWarning d k old new s).scan = s.scan ∧
    (tellWarning d k old new s).pending = s.pending := by
  unfold tellWarning
  split <;> simp

@[simp] theorem putWarnings_frame (d : Fin 2) (w : Warnings) (s : State) :
    (putWarnings d w s).now = s.now ∧ (putWarnings d w s).tables = s.tables ∧
    (putWarnings d w s).control = s.control ∧ (putWarnings d w s).line = s.line ∧
    (putWarnings d w s).slots = s.slots ∧ (putWarnings d w s).gauges = s.gauges ∧
    (putWarnings d w s).telltale = s.telltale ∧ (putWarnings d w s).chime = s.chime ∧
    (putWarnings d w s).readout = s.readout ∧ (putWarnings d w s).distance = s.distance ∧
    (putWarnings d w s).store = s.store ∧ (putWarnings d w s).roster = s.roster ∧
    (putWarnings d w s).monitor = s.monitor ∧ (putWarnings d w s).service = s.service ∧
    (putWarnings d w s).scan = s.scan ∧ (putWarnings d w s).pending = s.pending := by
  simp [putWarnings]

@[simp] theorem reformTimeWarnings_frame (d : Fin 2) (s : State) :
    (reformTimeWarnings d s).now = s.now ∧ (reformTimeWarnings d s).tables = s.tables ∧
    (reformTimeWarnings d s).control = s.control ∧ (reformTimeWarnings d s).line = s.line ∧
    (reformTimeWarnings d s).slots = s.slots ∧ (reformTimeWarnings d s).gauges = s.gauges ∧
    (reformTimeWarnings d s).telltale = s.telltale ∧ (reformTimeWarnings d s).chime = s.chime ∧
    (reformTimeWarnings d s).readout = s.readout ∧ (reformTimeWarnings d s).distance = s.distance ∧
    (reformTimeWarnings d s).store = s.store ∧ (reformTimeWarnings d s).roster = s.roster ∧
    (reformTimeWarnings d s).monitor = s.monitor ∧ (reformTimeWarnings d s).service = s.service ∧
    (reformTimeWarnings d s).scan = s.scan ∧ (reformTimeWarnings d s).pending = s.pending := by
  simp [reformTimeWarnings]

@[simp] theorem reformLost_frame (d : Fin 2) (s : State) :
    (reformLost d s).now = s.now ∧ (reformLost d s).tables = s.tables ∧
    (reformLost d s).control = s.control ∧ (reformLost d s).line = s.line ∧
    (reformLost d s).slots = s.slots ∧ (reformLost d s).gauges = s.gauges ∧
    (reformLost d s).telltale = s.telltale ∧ (reformLost d s).chime = s.chime ∧
    (reformLost d s).readout = s.readout ∧ (reformLost d s).distance = s.distance ∧
    (reformLost d s).store = s.store ∧ (reformLost d s).roster = s.roster ∧
    (reformLost d s).monitor = s.monitor ∧ (reformLost d s).service = s.service ∧
    (reformLost d s).scan = s.scan ∧ (reformLost d s).pending = s.pending := by
  simp [reformLost]

@[simp] theorem reformWarnings_frame (d : Fin 2) (s : State) :
    (reformWarnings d s).now = s.now ∧ (reformWarnings d s).tables = s.tables ∧
    (reformWarnings d s).control = s.control ∧ (reformWarnings d s).line = s.line ∧
    (reformWarnings d s).slots = s.slots ∧ (reformWarnings d s).gauges = s.gauges ∧
    (reformWarnings d s).telltale = s.telltale ∧ (reformWarnings d s).chime = s.chime ∧
    (reformWarnings d s).readout = s.readout ∧ (reformWarnings d s).distance = s.distance ∧
    (reformWarnings d s).store = s.store ∧ (reformWarnings d s).roster = s.roster ∧
    (reformWarnings d s).monitor = s.monitor ∧ (reformWarnings d s).service = s.service ∧
    (reformWarnings d s).scan = s.scan ∧ (reformWarnings d s).pending = s.pending := by
  simp [reformWarnings]

@[simp] theorem driverStatus_frame (d : Fin 2) (payload : List Byte) (s : State) :
    (driverStatus d payload s).now = s.now ∧ (driverStatus d payload s).tables = s.tables ∧
    (driverStatus d payload s).control = s.control ∧ (driverStatus d payload s).line = s.line ∧
    (driverStatus d payload s).slots = s.slots ∧ (driverStatus d payload s).gauges = s.gauges ∧
    (driverStatus d payload s).telltale = s.telltale ∧ (driverStatus d payload s).chime = s.chime ∧
    (driverStatus d payload s).distance = s.distance ∧ (driverStatus d payload s).store = s.store ∧
    (driverStatus d payload s).roster = s.roster ∧ (driverStatus d payload s).service = s.service ∧
    (driverStatus d payload s).scan = s.scan ∧ (driverStatus d payload s).pending = s.pending := by
  simp only [driverStatus]
  repeat' split
  all_goals simp

@[simp] theorem staleDriver_frame (d : Fin 2) (s : State) :
    (staleDriver d s).now = s.now ∧ (staleDriver d s).tables = s.tables ∧
    (staleDriver d s).control = s.control ∧ (staleDriver d s).line = s.line ∧
    (staleDriver d s).slots = s.slots ∧ (staleDriver d s).gauges = s.gauges ∧
    (staleDriver d s).telltale = s.telltale ∧ (staleDriver d s).chime = s.chime ∧
    (staleDriver d s).distance = s.distance ∧ (staleDriver d s).store = s.store ∧
    (staleDriver d s).roster = s.roster ∧ (staleDriver d s).monitor = s.monitor ∧
    (staleDriver d s).service = s.service ∧ (staleDriver d s).scan = s.scan ∧
    (staleDriver d s).pending = s.pending := by
  simp [staleDriver]

@[simp] theorem takeSecondMark_frame (d : Fin 2) (s : State) :
    (takeSecondMark d s).now = s.now ∧ (takeSecondMark d s).tables = s.tables ∧
    (takeSecondMark d s).control = s.control ∧ (takeSecondMark d s).line = s.line ∧
    (takeSecondMark d s).slots = s.slots ∧ (takeSecondMark d s).gauges = s.gauges ∧
    (takeSecondMark d s).telltale = s.telltale ∧ (takeSecondMark d s).chime = s.chime ∧
    (takeSecondMark d s).distance = s.distance ∧ (takeSecondMark d s).store = s.store ∧
    (takeSecondMark d s).roster = s.roster ∧ (takeSecondMark d s).monitor = s.monitor ∧
    (takeSecondMark d s).service = s.service ∧ (takeSecondMark d s).scan = s.scan ∧
    (takeSecondMark d s).pending = s.pending := by
  unfold takeSecondMark
  split <;> simp

@[simp] theorem driverSampleAt_frame (due : Nat) (s : State) :
    (driverSampleAt due s).now = s.now ∧ (driverSampleAt due s).tables = s.tables ∧
    (driverSampleAt due s).control = s.control ∧ (driverSampleAt due s).line = s.line ∧
    (driverSampleAt due s).slots = s.slots ∧ (driverSampleAt due s).gauges = s.gauges ∧
    (driverSampleAt due s).telltale = s.telltale ∧ (driverSampleAt due s).chime = s.chime ∧
    (driverSampleAt due s).readout = s.readout ∧ (driverSampleAt due s).distance = s.distance ∧
    (driverSampleAt due s).store = s.store ∧ (driverSampleAt due s).roster = s.roster ∧
    (driverSampleAt due s).monitor = s.monitor ∧ (driverSampleAt due s).service = s.service ∧
    (driverSampleAt due s).scan = s.scan ∧ (driverSampleAt due s).pending = s.pending := by
  simp [driverSampleAt]

@[simp] theorem settleAssembly_frame (a : Assembly) (s : State) :
    (settleAssembly a s).now = s.now ∧ (settleAssembly a s).tables = s.tables ∧
    (settleAssembly a s).control = s.control ∧ (settleAssembly a s).line = s.line ∧
    (settleAssembly a s).slots = s.slots ∧ (settleAssembly a s).gauges = s.gauges ∧
    (settleAssembly a s).telltale = s.telltale ∧ (settleAssembly a s).chime = s.chime ∧
    (settleAssembly a s).distance = s.distance ∧ (settleAssembly a s).store = s.store ∧
    (settleAssembly a s).roster = s.roster ∧ (settleAssembly a s).service = s.service ∧
    (settleAssembly a s).scan = s.scan ∧ (settleAssembly a s).pending = s.pending := by
  unfold settleAssembly
  repeat' split
  all_goals simp

@[simp] theorem takePart_frame (f : NoticeFields) (s : State) :
    (takePart f s).now = s.now ∧ (takePart f s).tables = s.tables ∧ (takePart f s).control = s.control ∧
    (takePart f s).line = s.line ∧ (takePart f s).slots = s.slots ∧ (takePart f s).gauges = s.gauges ∧
    (takePart f s).telltale = s.telltale ∧ (takePart f s).chime = s.chime ∧
    (takePart f s).distance = s.distance ∧ (takePart f s).store = s.store ∧
    (takePart f s).roster = s.roster ∧ (takePart f s).service = s.service ∧
    (takePart f s).scan = s.scan ∧ (takePart f s).pending = s.pending := by
  unfold takePart
  repeat' split
  all_goals simp

@[simp] theorem recorderNotice_frame (payload : List Byte) (s : State) :
    (recorderNotice payload s).now = s.now ∧ (recorderNotice payload s).tables = s.tables ∧
    (recorderNotice payload s).control = s.control ∧ (recorderNotice payload s).line = s.line ∧
    (recorderNotice payload s).slots = s.slots ∧ (recorderNotice payload s).gauges = s.gauges ∧
    (recorderNotice payload s).telltale = s.telltale ∧ (recorderNotice payload s).chime = s.chime ∧
    (recorderNotice payload s).distance = s.distance ∧ (recorderNotice payload s).store = s.store ∧
    (recorderNotice payload s).roster = s.roster ∧ (recorderNotice payload s).service = s.service ∧
    (recorderNotice payload s).scan = s.scan ∧ (recorderNotice payload s).pending = s.pending := by
  unfold recorderNotice
  repeat' split
  all_goals simp

@[simp] theorem putClock_frame (c : Clock) (s : State) :
    (putClock c s).now = s.now ∧ (putClock c s).tables = s.tables ∧ (putClock c s).control = s.control ∧
    (putClock c s).line = s.line ∧ (putClock c s).slots = s.slots ∧ (putClock c s).gauges = s.gauges ∧
    (putClock c s).telltale = s.telltale ∧ (putClock c s).chime = s.chime ∧
    (putClock c s).readout = s.readout ∧ (putClock c s).distance = s.distance ∧
    (putClock c s).store = s.store ∧ (putClock c s).roster = s.roster ∧
    (putClock c s).monitor = s.monitor ∧ (putClock c s).service = s.service ∧
    (putClock c s).reports = s.reports ∧ (putClock c s).scan = s.scan ∧
    (putClock c s).pending = s.pending := by
  simp [putClock]

@[simp] theorem acceptMark_frame (f : TimeFields) (s : State) :
    (acceptMark f s).now = s.now ∧ (acceptMark f s).tables = s.tables ∧
    (acceptMark f s).control = s.control ∧ (acceptMark f s).line = s.line ∧
    (acceptMark f s).slots = s.slots ∧ (acceptMark f s).gauges = s.gauges ∧
    (acceptMark f s).telltale = s.telltale ∧ (acceptMark f s).chime = s.chime ∧
    (acceptMark f s).distance = s.distance ∧ (acceptMark f s).store = s.store ∧
    (acceptMark f s).roster = s.roster ∧ (acceptMark f s).service = s.service ∧
    (acceptMark f s).scan = s.scan ∧ (acceptMark f s).pending = s.pending := by
  simp only [acceptMark]
  repeat' split
  all_goals simp

@[simp] theorem takeMark_frame (sender : Nat) (payload : List Byte) (s : State) :
    (takeMark sender payload s).now = s.now ∧ (takeMark sender payload s).tables = s.tables ∧
    (takeMark sender payload s).control = s.control ∧ (takeMark sender payload s).line = s.line ∧
    (takeMark sender payload s).slots = s.slots ∧ (takeMark sender payload s).gauges = s.gauges ∧
    (takeMark sender payload s).telltale = s.telltale ∧ (takeMark sender payload s).chime = s.chime ∧
    (takeMark sender payload s).distance = s.distance ∧ (takeMark sender payload s).store = s.store ∧
    (takeMark sender payload s).roster = s.roster ∧ (takeMark sender payload s).service = s.service ∧
    (takeMark sender payload s).scan = s.scan ∧ (takeMark sender payload s).pending = s.pending := by
  simp only [takeMark]
  repeat' split
  all_goals simp

@[simp] theorem passSecond_frame (s : State) :
    (passSecond s).tables = s.tables ∧ (passSecond s).control = s.control ∧
    (passSecond s).line = s.line ∧ (passSecond s).slots = s.slots ∧ (passSecond s).gauges = s.gauges ∧
    (passSecond s).telltale = s.telltale ∧ (passSecond s).chime = s.chime ∧
    (passSecond s).distance = s.distance ∧ (passSecond s).store = s.store ∧
    (passSecond s).roster = s.roster ∧ (passSecond s).monitor = s.monitor ∧
    (passSecond s).service = s.service ∧ (passSecond s).reports = s.reports ∧
    (passSecond s).scan = s.scan ∧ (passSecond s).pending = s.pending := by
  unfold passSecond
  repeat' split
  all_goals simp

@[simp] theorem tellEntries_frame (i : Nat) (old new : List RosterEntry) (s : State) :
    (tellEntries i old new s).now = s.now ∧ (tellEntries i old new s).tables = s.tables ∧
    (tellEntries i old new s).control = s.control ∧ (tellEntries i old new s).line = s.line ∧
    (tellEntries i old new s).slots = s.slots ∧ (tellEntries i old new s).gauges = s.gauges ∧
    (tellEntries i old new s).telltale = s.telltale ∧ (tellEntries i old new s).chime = s.chime ∧
    (tellEntries i old new s).readout = s.readout ∧ (tellEntries i old new s).driver = s.driver ∧
    (tellEntries i old new s).distance = s.distance ∧ (tellEntries i old new s).store = s.store ∧
    (tellEntries i old new s).roster = s.roster ∧ (tellEntries i old new s).monitor = s.monitor ∧
    (tellEntries i old new s).service = s.service ∧ (tellEntries i old new s).scan = s.scan ∧
    (tellEntries i old new s).pending = s.pending := by
  induction old generalizing i new s with
  | nil => simp [tellEntries]
  | cons e es ih =>
    cases new with
    | nil => simp [tellEntries]
    | cons e' es' =>
      simp only [tellEntries]
      split <;> simp [ih]

@[simp] theorem putEntries_frame (new : List RosterEntry) (s : State) :
    (putEntries new s).now = s.now ∧ (putEntries new s).tables = s.tables ∧
    (putEntries new s).control = s.control ∧ (putEntries new s).line = s.line ∧
    (putEntries new s).slots = s.slots ∧ (putEntries new s).gauges = s.gauges ∧
    (putEntries new s).telltale = s.telltale ∧ (putEntries new s).chime = s.chime ∧
    (putEntries new s).readout = s.readout ∧ (putEntries new s).driver = s.driver ∧
    (putEntries new s).distance = s.distance ∧ (putEntries new s).store = s.store ∧
    (putEntries new s).monitor = s.monitor ∧ (putEntries new s).service = s.service ∧
    (putEntries new s).scan = s.scan ∧ (putEntries new s).pending = s.pending := by
  simp [putEntries]

@[simp] theorem changeEntry_frame (i : Nat) (f : RosterEntry → RosterEntry) (s : State) :
    (changeEntry i f s).now = s.now ∧ (changeEntry i f s).tables = s.tables ∧
    (changeEntry i f s).control = s.control ∧ (changeEntry i f s).line = s.line ∧
    (changeEntry i f s).slots = s.slots ∧ (changeEntry i f s).gauges = s.gauges ∧
    (changeEntry i f s).telltale = s.telltale ∧ (changeEntry i f s).chime = s.chime ∧
    (changeEntry i f s).readout = s.readout ∧ (changeEntry i f s).driver = s.driver ∧
    (changeEntry i f s).distance = s.distance ∧ (changeEntry i f s).store = s.store ∧
    (changeEntry i f s).monitor = s.monitor ∧ (changeEntry i f s).service = s.service ∧
    (changeEntry i f s).scan = s.scan ∧ (changeEntry i f s).pending = s.pending := by
  simp [changeEntry]

@[simp] theorem hearStation_frame (station : Nat) (s : State) :
    (hearStation station s).now = s.now ∧ (hearStation station s).tables = s.tables ∧
    (hearStation station s).control = s.control ∧ (hearStation station s).line = s.line ∧
    (hearStation station s).slots = s.slots ∧ (hearStation station s).gauges = s.gauges ∧
    (hearStation station s).telltale = s.telltale ∧ (hearStation station s).chime = s.chime ∧
    (hearStation station s).readout = s.readout ∧ (hearStation station s).driver = s.driver ∧
    (hearStation station s).distance = s.distance ∧ (hearStation station s).store = s.store ∧
    (hearStation station s).monitor = s.monitor ∧ (hearStation station s).service = s.service ∧
    (hearStation station s).scan = s.scan ∧ (hearStation station s).pending = s.pending := by
  unfold hearStation
  split <;> simp

@[simp] theorem startRoster_frame (s : State) :
    (startRoster s).now = s.now ∧ (startRoster s).tables = s.tables ∧
    (startRoster s).control = s.control ∧ (startRoster s).slots = s.slots ∧
    (startRoster s).gauges = s.gauges ∧ (startRoster s).telltale = s.telltale ∧
    (startRoster s).chime = s.chime ∧ (startRoster s).readout = s.readout ∧
    (startRoster s).driver = s.driver ∧ (startRoster s).distance = s.distance ∧
    (startRoster s).store = s.store ∧ (startRoster s).scan = s.scan ∧
    (startRoster s).pending = s.pending := by
  simp only [startRoster]
  repeat' split
  all_goals simp

@[simp] theorem closeCensus_frame (s : State) :
    (closeCensus s).now = s.now ∧ (closeCensus s).tables = s.tables ∧
    (closeCensus s).control = s.control ∧ (closeCensus s).line = s.line ∧
    (closeCensus s).slots = s.slots ∧ (closeCensus s).gauges = s.gauges ∧
    (closeCensus s).telltale = s.telltale ∧ (closeCensus s).chime = s.chime ∧
    (closeCensus s).readout = s.readout ∧ (closeCensus s).driver = s.driver ∧
    (closeCensus s).distance = s.distance ∧ (closeCensus s).store = s.store ∧
    (closeCensus s).monitor = s.monitor ∧ (closeCensus s).service = s.service ∧
    (closeCensus s).scan = s.scan ∧ (closeCensus s).pending = s.pending := by
  simp [closeCensus]

@[simp] theorem rosterSlot_frame (slot : Fin 64) (e : Int) (q : Quality) (s : State) :
    (rosterSlot slot e q s).now = s.now ∧ (rosterSlot slot e q s).tables = s.tables ∧
    (rosterSlot slot e q s).control = s.control ∧ (rosterSlot slot e q s).line = s.line ∧
    (rosterSlot slot e q s).slots = s.slots ∧ (rosterSlot slot e q s).gauges = s.gauges ∧
    (rosterSlot slot e q s).telltale = s.telltale ∧ (rosterSlot slot e q s).chime = s.chime ∧
    (rosterSlot slot e q s).readout = s.readout ∧ (rosterSlot slot e q s).driver = s.driver ∧
    (rosterSlot slot e q s).distance = s.distance ∧ (rosterSlot slot e q s).store = s.store ∧
    (rosterSlot slot e q s).monitor = s.monitor ∧ (rosterSlot slot e q s).service = s.service ∧
    (rosterSlot slot e q s).scan = s.scan ∧ (rosterSlot slot e q s).pending = s.pending := by
  simp [rosterSlot]

@[simp] theorem ackRoster_frame (s : State) :
    (ackRoster s).now = s.now ∧ (ackRoster s).tables = s.tables ∧ (ackRoster s).control = s.control ∧
    (ackRoster s).line = s.line ∧ (ackRoster s).slots = s.slots ∧ (ackRoster s).gauges = s.gauges ∧
    (ackRoster s).telltale = s.telltale ∧ (ackRoster s).chime = s.chime ∧
    (ackRoster s).readout = s.readout ∧ (ackRoster s).driver = s.driver ∧
    (ackRoster s).distance = s.distance ∧ (ackRoster s).store = s.store ∧
    (ackRoster s).monitor = s.monitor ∧ (ackRoster s).service = s.service ∧
    (ackRoster s).reports = s.reports ∧ (ackRoster s).scan = s.scan ∧ (ackRoster s).pending = s.pending := by
  simp [ackRoster]

@[simp] theorem endReplyDelay_frame (s : State) :
    (endReplyDelay s).now = s.now ∧ (endReplyDelay s).tables = s.tables ∧
    (endReplyDelay s).control = s.control ∧ (endReplyDelay s).slots = s.slots ∧
    (endReplyDelay s).gauges = s.gauges ∧ (endReplyDelay s).telltale = s.telltale ∧
    (endReplyDelay s).chime = s.chime ∧ (endReplyDelay s).readout = s.readout ∧
    (endReplyDelay s).driver = s.driver ∧ (endReplyDelay s).distance = s.distance ∧
    (endReplyDelay s).store = s.store ∧ (endReplyDelay s).scan = s.scan ∧
    (endReplyDelay s).pending = s.pending := by
  simp [endReplyDelay]

@[simp] theorem takePresence_frame (payload : List Byte) (s : State) :
    (takePresence payload s).now = s.now ∧ (takePresence payload s).tables = s.tables ∧
    (takePresence payload s).control = s.control ∧ (takePresence payload s).slots = s.slots ∧
    (takePresence payload s).gauges = s.gauges ∧ (takePresence payload s).telltale = s.telltale ∧
    (takePresence payload s).chime = s.chime ∧ (takePresence payload s).readout = s.readout ∧
    (takePresence payload s).driver = s.driver ∧ (takePresence payload s).distance = s.distance ∧
    (takePresence payload s).store = s.store ∧ (takePresence payload s).scan = s.scan ∧
    (takePresence payload s).pending = s.pending := by
  unfold takePresence
  repeat' split
  all_goals simp

end Sys2Proof.Machine
end

