-- ==== Sys2Proof/Laws/FramesGauge.lean ====
section
/-! SUPPORT. What the operations of the Gauge Engine leave unchanged. -/

namespace Sys2Proof.Machine

open Sys2Proof

@[simp] theorem putChannel_frame (g : Fin 6) (c : Channel) (s : State) :
    (putChannel g c s).now = s.now ∧ (putChannel g c s).tables = s.tables ∧
    (putChannel g c s).control = s.control ∧ (putChannel g c s).line = s.line ∧
    (putChannel g c s).slots = s.slots ∧ (putChannel g c s).telltale = s.telltale ∧
    (putChannel g c s).chime = s.chime ∧ (putChannel g c s).readout = s.readout ∧
    (putChannel g c s).driver = s.driver ∧ (putChannel g c s).distance = s.distance ∧
    (putChannel g c s).store = s.store ∧ (putChannel g c s).roster = s.roster ∧
    (putChannel g c s).monitor = s.monitor ∧ (putChannel g c s).service = s.service ∧
    (putChannel g c s).scan = s.scan ∧ (putChannel g c s).pending = s.pending := by
  simp only [putChannel]
  split <;> simp

@[simp] theorem enterCalled_frame (g : Fin 6) (c : Channel) (s : State) :
    (enterCalled g c s).now = s.now ∧ (enterCalled g c s).tables = s.tables ∧
    (enterCalled g c s).control = s.control ∧ (enterCalled g c s).line = s.line ∧
    (enterCalled g c s).slots = s.slots ∧ (enterCalled g c s).telltale = s.telltale ∧
    (enterCalled g c s).chime = s.chime ∧ (enterCalled g c s).readout = s.readout ∧
    (enterCalled g c s).driver = s.driver ∧ (enterCalled g c s).distance = s.distance ∧
    (enterCalled g c s).store = s.store ∧ (enterCalled g c s).roster = s.roster ∧
    (enterCalled g c s).monitor = s.monitor ∧ (enterCalled g c s).service = s.service ∧
    (enterCalled g c s).scan = s.scan ∧ (enterCalled g c s).pending = s.pending := by
  simp [enterCalled]

@[simp] theorem endHoming_frame (g : Fin 6) (c : Channel) (s : State) :
    (endHoming g c s).now = s.now ∧ (endHoming g c s).tables = s.tables ∧
    (endHoming g c s).line = s.line ∧ (endHoming g c s).slots = s.slots ∧
    (endHoming g c s).telltale = s.telltale ∧ (endHoming g c s).chime = s.chime ∧
    (endHoming g c s).readout = s.readout ∧ (endHoming g c s).driver = s.driver ∧
    (endHoming g c s).distance = s.distance ∧ (endHoming g c s).store = s.store ∧
    (endHoming g c s).roster = s.roster ∧ (endHoming g c s).monitor = s.monitor ∧
    (endHoming g c s).service = s.service ∧ (endHoming g c s).scan = s.scan ∧
    (endHoming g c s).pending = s.pending := by
  unfold endHoming
  repeat' split
  all_goals simp

@[simp] theorem homingPeriod_frame (g : Fin 6) (c : Channel) (s : State) :
    (homingPeriod g c s).now = s.now ∧ (homingPeriod g c s).tables = s.tables ∧
    (homingPeriod g c s).line = s.line ∧ (homingPeriod g c s).slots = s.slots ∧
    (homingPeriod g c s).telltale = s.telltale ∧ (homingPeriod g c s).chime = s.chime ∧
    (homingPeriod g c s).readout = s.readout ∧ (homingPeriod g c s).driver = s.driver ∧
    (homingPeriod g c s).distance = s.distance ∧ (homingPeriod g c s).store = s.store ∧
    (homingPeriod g c s).roster = s.roster ∧ (homingPeriod g c s).monitor = s.monitor ∧
    (homingPeriod g c s).service = s.service ∧ (homingPeriod g c s).scan = s.scan ∧
    (homingPeriod g c s).pending = s.pending := by
  simp only [homingPeriod]
  split <;> simp

@[simp] theorem sweepPeriod_frame (g : Fin 6) (c : Channel) (s : State) :
    (sweepPeriod g c s).now = s.now ∧ (sweepPeriod g c s).tables = s.tables ∧
    (sweepPeriod g c s).line = s.line ∧ (sweepPeriod g c s).slots = s.slots ∧
    (sweepPeriod g c s).telltale = s.telltale ∧ (sweepPeriod g c s).chime = s.chime ∧
    (sweepPeriod g c s).readout = s.readout ∧ (sweepPeriod g c s).driver = s.driver ∧
    (sweepPeriod g c s).distance = s.distance ∧ (sweepPeriod g c s).store = s.store ∧
    (sweepPeriod g c s).roster = s.roster ∧ (sweepPeriod g c s).monitor = s.monitor ∧
    (sweepPeriod g c s).service = s.service ∧ (sweepPeriod g c s).scan = s.scan ∧
    (sweepPeriod g c s).pending = s.pending := by
  simp only [sweepPeriod]
  repeat' split
  all_goals simp

@[simp] theorem parkingPeriod_frame (g : Fin 6) (c : Channel) (s : State) :
    (parkingPeriod g c s).now = s.now ∧ (parkingPeriod g c s).tables = s.tables ∧
    (parkingPeriod g c s).control = s.control ∧ (parkingPeriod g c s).line = s.line ∧
    (parkingPeriod g c s).slots = s.slots ∧ (parkingPeriod g c s).telltale = s.telltale ∧
    (parkingPeriod g c s).chime = s.chime ∧ (parkingPeriod g c s).readout = s.readout ∧
    (parkingPeriod g c s).driver = s.driver ∧ (parkingPeriod g c s).distance = s.distance ∧
    (parkingPeriod g c s).store = s.store ∧ (parkingPeriod g c s).roster = s.roster ∧
    (parkingPeriod g c s).monitor = s.monitor ∧ (parkingPeriod g c s).service = s.service ∧
    (parkingPeriod g c s).scan = s.scan ∧ (parkingPeriod g c s).pending = s.pending := by
  simp [parkingPeriod]

@[simp] theorem motionWork_frame (g : Fin 6) (due : Nat) (s : State) :
    (motionWork g due s).now = s.now ∧ (motionWork g due s).tables = s.tables ∧
    (motionWork g due s).line = s.line ∧ (motionWork g due s).slots = s.slots ∧
    (motionWork g due s).telltale = s.telltale ∧ (motionWork g due s).chime = s.chime ∧
    (motionWork g due s).readout = s.readout ∧ (motionWork g due s).driver = s.driver ∧
    (motionWork g due s).distance = s.distance ∧ (motionWork g due s).store = s.store ∧
    (motionWork g due s).roster = s.roster ∧ (motionWork g due s).monitor = s.monitor ∧
    (motionWork g due s).service = s.service ∧ (motionWork g due s).scan = s.scan ∧
    (motionWork g due s).pending = s.pending := by
  simp only [motionWork]
  split <;> simp

/-- All that a stall can spend: the hold of a HOLDING channel whose hold timer has run out (R36). -/
theorem Channel.spendHold_eq (now : Nat) (c : Channel) :
    c.spendHold now = { c with
      holdSpent := c.holdSpent || decide (c.state = .holding ∧ c.holdDue.any (fun d => decide (d ≤ now)) = true) } := by
  unfold Channel.spendHold
  split
  · next h => simp [h]
  · next h => simp only [h, decide_false, Bool.or_false]

@[simp] theorem Channel.spendHold_state (now : Nat) (c : Channel) : (c.spendHold now).state = c.state := by
  rw [Channel.spendHold_eq]

@[simp] theorem Channel.spendHold_stalls (now : Nat) (c : Channel) : (c.spendHold now).stalls = c.stalls := by
  rw [Channel.spendHold_eq]

@[simp] theorem Channel.spendHold_damped (now : Nat) (c : Channel) : (c.spendHold now).damped = c.damped := by
  rw [Channel.spendHold_eq]

@[simp] theorem Channel.spendHold_bands (now : Nat) (c : Channel) : (c.spendHold now).bands = c.bands := by
  rw [Channel.spendHold_eq]

@[simp] theorem stallChannel_frame (g : Fin 6) (s : State) :
    (stallChannel g s).now = s.now ∧ (stallChannel g s).tables = s.tables ∧
    (stallChannel g s).line = s.line ∧ (stallChannel g s).slots = s.slots ∧
    (stallChannel g s).telltale = s.telltale ∧ (stallChannel g s).chime = s.chime ∧
    (stallChannel g s).readout = s.readout ∧ (stallChannel g s).driver = s.driver ∧
    (stallChannel g s).distance = s.distance ∧ (stallChannel g s).store = s.store ∧
    (stallChannel g s).roster = s.roster ∧ (stallChannel g s).service = s.service ∧
    (stallChannel g s).scan = s.scan ∧ (stallChannel g s).pending = s.pending := by
  simp only [stallChannel]
  repeat' split
  all_goals simp

@[simp] theorem putBand_frame (g : Fin 6) (i : Fin 2) (b : BandState) (s : State) :
    (putBand g i b s).now = s.now ∧ (putBand g i b s).tables = s.tables ∧
    (putBand g i b s).control = s.control ∧ (putBand g i b s).line = s.line ∧
    (putBand g i b s).slots = s.slots ∧ (putBand g i b s).telltale = s.telltale ∧
    (putBand g i b s).chime = s.chime ∧ (putBand g i b s).readout = s.readout ∧
    (putBand g i b s).driver = s.driver ∧ (putBand g i b s).distance = s.distance ∧
    (putBand g i b s).store = s.store ∧ (putBand g i b s).roster = s.roster ∧
    (putBand g i b s).monitor = s.monitor ∧ (putBand g i b s).service = s.service ∧
    (putBand g i b s).scan = s.scan ∧ (putBand g i b s).pending = s.pending := by
  simp only [putBand]
  repeat' split
  all_goals simp

@[simp] theorem notifyBand_frame (g : Fin 6) (i : Fin 2) (ev : SlotEvent) (e : Int) (s : State) :
    (notifyBand g i ev e s).now = s.now ∧ (notifyBand g i ev e s).tables = s.tables ∧
    (notifyBand g i ev e s).control = s.control ∧ (notifyBand g i ev e s).line = s.line ∧
    (notifyBand g i ev e s).slots = s.slots ∧ (notifyBand g i ev e s).telltale = s.telltale ∧
    (notifyBand g i ev e s).chime = s.chime ∧ (notifyBand g i ev e s).readout = s.readout ∧
    (notifyBand g i ev e s).driver = s.driver ∧ (notifyBand g i ev e s).distance = s.distance ∧
    (notifyBand g i ev e s).store = s.store ∧ (notifyBand g i ev e s).roster = s.roster ∧
    (notifyBand g i ev e s).monitor = s.monitor ∧ (notifyBand g i ev e s).service = s.service ∧
    (notifyBand g i ev e s).scan = s.scan ∧ (notifyBand g i ev e s).pending = s.pending := by
  unfold notifyBand; cases ev <;> split <;> simp

@[simp] theorem notifySource_frame (g : Fin 6) (ev : SlotEvent) (e : Int) (s : State) :
    (notifySource g ev e s).now = s.now ∧ (notifySource g ev e s).tables = s.tables ∧
    (notifySource g ev e s).control = s.control ∧ (notifySource g ev e s).line = s.line ∧
    (notifySource g ev e s).slots = s.slots ∧ (notifySource g ev e s).telltale = s.telltale ∧
    (notifySource g ev e s).chime = s.chime ∧ (notifySource g ev e s).readout = s.readout ∧
    (notifySource g ev e s).driver = s.driver ∧ (notifySource g ev e s).distance = s.distance ∧
    (notifySource g ev e s).store = s.store ∧ (notifySource g ev e s).roster = s.roster ∧
    (notifySource g ev e s).monitor = s.monitor ∧ (notifySource g ev e s).service = s.service ∧
    (notifySource g ev e s).scan = s.scan ∧ (notifySource g ev e s).pending = s.pending := by
  unfold notifySource
  split <;> simp

@[simp] theorem notifyStandstill_frame (g : Fin 6) (slot : Fin 64) (ev : SlotEvent) (e : Int) (s : State) :
    (notifyStandstill g slot ev e s).now = s.now ∧ (notifyStandstill g slot ev e s).tables = s.tables ∧
    (notifyStandstill g slot ev e s).control = s.control ∧
    (notifyStandstill g slot ev e s).line = s.line ∧ (notifyStandstill g slot ev e s).slots = s.slots ∧
    (notifyStandstill g slot ev e s).telltale = s.telltale ∧
    (notifyStandstill g slot ev e s).chime = s.chime ∧
    (notifyStandstill g slot ev e s).readout = s.readout ∧
    (notifyStandstill g slot ev e s).driver = s.driver ∧
    (notifyStandstill g slot ev e s).distance = s.distance ∧
    (notifyStandstill g slot ev e s).store = s.store ∧
    (notifyStandstill g slot ev e s).roster = s.roster ∧
    (notifyStandstill g slot ev e s).monitor = s.monitor ∧
    (notifyStandstill g slot ev e s).service = s.service ∧
    (notifyStandstill g slot ev e s).scan = s.scan ∧
    (notifyStandstill g slot ev e s).pending = s.pending := by
  unfold notifyStandstill
  repeat' split
  all_goals simp

@[simp] theorem notifyGauge_frame (slot : Fin 64) (ev : SlotEvent) (e : Int)  (g : Fin 6) (s : State) :
    (notifyGauge slot ev e s g).now = s.now ∧ (notifyGauge slot ev e s g).tables = s.tables ∧
    (notifyGauge slot ev e s g).control = s.control ∧ (notifyGauge slot ev e s g).line = s.line ∧
    (notifyGauge slot ev e s g).slots = s.slots ∧ (notifyGauge slot ev e s g).telltale = s.telltale ∧
    (notifyGauge slot ev e s g).chime = s.chime ∧ (notifyGauge slot ev e s g).readout = s.readout ∧
    (notifyGauge slot ev e s g).driver = s.driver ∧ (notifyGauge slot ev e s g).distance = s.distance ∧
    (notifyGauge slot ev e s g).store = s.store ∧ (notifyGauge slot ev e s g).roster = s.roster ∧
    (notifyGauge slot ev e s g).monitor = s.monitor ∧ (notifyGauge slot ev e s g).service = s.service ∧
    (notifyGauge slot ev e s g).scan = s.scan ∧ (notifyGauge slot ev e s g).pending = s.pending := by
  unfold notifyGauge
  split <;> simp

@[simp] theorem gaugeSlot_frame (slot : Fin 64) (ev : SlotEvent) (e : Int) (s : State) :
    (gaugeSlot slot ev e s).now = s.now ∧ (gaugeSlot slot ev e s).tables = s.tables ∧
    (gaugeSlot slot ev e s).control = s.control ∧ (gaugeSlot slot ev e s).line = s.line ∧
    (gaugeSlot slot ev e s).slots = s.slots ∧ (gaugeSlot slot ev e s).telltale = s.telltale ∧
    (gaugeSlot slot ev e s).chime = s.chime ∧ (gaugeSlot slot ev e s).readout = s.readout ∧
    (gaugeSlot slot ev e s).driver = s.driver ∧ (gaugeSlot slot ev e s).distance = s.distance ∧
    (gaugeSlot slot ev e s).store = s.store ∧ (gaugeSlot slot ev e s).roster = s.roster ∧
    (gaugeSlot slot ev e s).monitor = s.monitor ∧ (gaugeSlot slot ev e s).service = s.service ∧
    (gaugeSlot slot ev e s).scan = s.scan ∧ (gaugeSlot slot ev e s).pending = s.pending := by
  simp [gaugeSlot, allGauges]

@[simp] theorem startGauge_frame (g : Fin 6) (s : State) :
    (startGauge s g).now = s.now ∧ (startGauge s g).tables = s.tables ∧
    (startGauge s g).control = s.control ∧ (startGauge s g).line = s.line ∧
    (startGauge s g).slots = s.slots ∧ (startGauge s g).telltale = s.telltale ∧
    (startGauge s g).chime = s.chime ∧ (startGauge s g).readout = s.readout ∧
    (startGauge s g).driver = s.driver ∧ (startGauge s g).distance = s.distance ∧
    (startGauge s g).store = s.store ∧ (startGauge s g).roster = s.roster ∧
    (startGauge s g).monitor = s.monitor ∧ (startGauge s g).service = s.service ∧
    (startGauge s g).scan = s.scan ∧ (startGauge s g).pending = s.pending := by
  unfold startGauge
  split <;> simp

@[simp] theorem startGauges_frame (s : State) :
    (startGauges s).now = s.now ∧ (startGauges s).tables = s.tables ∧
    (startGauges s).control = s.control ∧ (startGauges s).line = s.line ∧
    (startGauges s).slots = s.slots ∧ (startGauges s).telltale = s.telltale ∧
    (startGauges s).chime = s.chime ∧ (startGauges s).readout = s.readout ∧
    (startGauges s).driver = s.driver ∧ (startGauges s).distance = s.distance ∧
    (startGauges s).store = s.store ∧ (startGauges s).roster = s.roster ∧
    (startGauges s).monitor = s.monitor ∧ (startGauges s).service = s.service ∧
    (startGauges s).scan = s.scan ∧ (startGauges s).pending = s.pending := by
  simp [startGauges, allGauges]

@[simp] theorem ignitionOffGauge_frame (g : Fin 6) (s : State) :
    (ignitionOffGauge s g).now = s.now ∧ (ignitionOffGauge s g).tables = s.tables ∧
    (ignitionOffGauge s g).control = s.control ∧ (ignitionOffGauge s g).line = s.line ∧
    (ignitionOffGauge s g).slots = s.slots ∧ (ignitionOffGauge s g).telltale = s.telltale ∧
    (ignitionOffGauge s g).chime = s.chime ∧ (ignitionOffGauge s g).readout = s.readout ∧
    (ignitionOffGauge s g).driver = s.driver ∧ (ignitionOffGauge s g).distance = s.distance ∧
    (ignitionOffGauge s g).store = s.store ∧ (ignitionOffGauge s g).roster = s.roster ∧
    (ignitionOffGauge s g).monitor = s.monitor ∧ (ignitionOffGauge s g).service = s.service ∧
    (ignitionOffGauge s g).scan = s.scan ∧ (ignitionOffGauge s g).pending = s.pending := by
  unfold ignitionOffGauge
  split <;> simp

@[simp] theorem ignitionOffGauges_frame (s : State) :
    (ignitionOffGauges s).now = s.now ∧ (ignitionOffGauges s).tables = s.tables ∧
    (ignitionOffGauges s).control = s.control ∧ (ignitionOffGauges s).line = s.line ∧
    (ignitionOffGauges s).slots = s.slots ∧ (ignitionOffGauges s).telltale = s.telltale ∧
    (ignitionOffGauges s).chime = s.chime ∧ (ignitionOffGauges s).readout = s.readout ∧
    (ignitionOffGauges s).driver = s.driver ∧ (ignitionOffGauges s).distance = s.distance ∧
    (ignitionOffGauges s).store = s.store ∧ (ignitionOffGauges s).roster = s.roster ∧
    (ignitionOffGauges s).monitor = s.monitor ∧ (ignitionOffGauges s).service = s.service ∧
    (ignitionOffGauges s).scan = s.scan ∧ (ignitionOffGauges s).pending = s.pending := by
  simp [ignitionOffGauges, allGauges]

@[simp] theorem startGaugeOverride_frame (g : Fin 6) (s : State) :
    (startGaugeOverride s g).now = s.now ∧ (startGaugeOverride s g).tables = s.tables ∧
    (startGaugeOverride s g).control = s.control ∧ (startGaugeOverride s g).line = s.line ∧
    (startGaugeOverride s g).slots = s.slots ∧ (startGaugeOverride s g).telltale = s.telltale ∧
    (startGaugeOverride s g).chime = s.chime ∧ (startGaugeOverride s g).readout = s.readout ∧
    (startGaugeOverride s g).driver = s.driver ∧ (startGaugeOverride s g).distance = s.distance ∧
    (startGaugeOverride s g).store = s.store ∧ (startGaugeOverride s g).roster = s.roster ∧
    (startGaugeOverride s g).monitor = s.monitor ∧ (startGaugeOverride s g).service = s.service ∧
    (startGaugeOverride s g).scan = s.scan ∧ (startGaugeOverride s g).pending = s.pending := by
  unfold startGaugeOverride
  split <;> simp

@[simp] theorem startGaugesOverride_frame (s : State) :
    (startGaugesOverride s).now = s.now ∧ (startGaugesOverride s).tables = s.tables ∧
    (startGaugesOverride s).control = s.control ∧ (startGaugesOverride s).line = s.line ∧
    (startGaugesOverride s).slots = s.slots ∧ (startGaugesOverride s).telltale = s.telltale ∧
    (startGaugesOverride s).chime = s.chime ∧ (startGaugesOverride s).readout = s.readout ∧
    (startGaugesOverride s).driver = s.driver ∧ (startGaugesOverride s).distance = s.distance ∧
    (startGaugesOverride s).store = s.store ∧ (startGaugesOverride s).roster = s.roster ∧
    (startGaugesOverride s).monitor = s.monitor ∧ (startGaugesOverride s).service = s.service ∧
    (startGaugesOverride s).scan = s.scan ∧ (startGaugesOverride s).pending = s.pending := by
  simp [startGaugesOverride, allGauges]

@[simp] theorem endGaugeOverride_frame (g : Fin 6) (s : State) :
    (endGaugeOverride s g).now = s.now ∧ (endGaugeOverride s g).tables = s.tables ∧
    (endGaugeOverride s g).control = s.control ∧ (endGaugeOverride s g).line = s.line ∧
    (endGaugeOverride s g).slots = s.slots ∧ (endGaugeOverride s g).telltale = s.telltale ∧
    (endGaugeOverride s g).chime = s.chime ∧ (endGaugeOverride s g).readout = s.readout ∧
    (endGaugeOverride s g).driver = s.driver ∧ (endGaugeOverride s g).distance = s.distance ∧
    (endGaugeOverride s g).store = s.store ∧ (endGaugeOverride s g).roster = s.roster ∧
    (endGaugeOverride s g).monitor = s.monitor ∧ (endGaugeOverride s g).service = s.service ∧
    (endGaugeOverride s g).scan = s.scan ∧ (endGaugeOverride s g).pending = s.pending := by
  unfold endGaugeOverride
  split <;> simp

@[simp] theorem endGaugesOverride_frame (s : State) :
    (endGaugesOverride s).now = s.now ∧ (endGaugesOverride s).tables = s.tables ∧
    (endGaugesOverride s).control = s.control ∧ (endGaugesOverride s).line = s.line ∧
    (endGaugesOverride s).slots = s.slots ∧ (endGaugesOverride s).telltale = s.telltale ∧
    (endGaugesOverride s).chime = s.chime ∧ (endGaugesOverride s).readout = s.readout ∧
    (endGaugesOverride s).driver = s.driver ∧ (endGaugesOverride s).distance = s.distance ∧
    (endGaugesOverride s).store = s.store ∧ (endGaugesOverride s).roster = s.roster ∧
    (endGaugesOverride s).monitor = s.monitor ∧ (endGaugesOverride s).service = s.service ∧
    (endGaugesOverride s).scan = s.scan ∧ (endGaugesOverride s).pending = s.pending := by
  simp [endGaugesOverride, allGauges]

@[simp] theorem reviewFault_frame (g : Fin 6) (s : State) :
    (reviewFault s g).now = s.now ∧ (reviewFault s g).tables = s.tables ∧
    (reviewFault s g).control = s.control ∧ (reviewFault s g).line = s.line ∧
    (reviewFault s g).slots = s.slots ∧ (reviewFault s g).telltale = s.telltale ∧
    (reviewFault s g).chime = s.chime ∧ (reviewFault s g).readout = s.readout ∧
    (reviewFault s g).driver = s.driver ∧ (reviewFault s g).distance = s.distance ∧
    (reviewFault s g).store = s.store ∧ (reviewFault s g).roster = s.roster ∧
    (reviewFault s g).monitor = s.monitor ∧ (reviewFault s g).service = s.service ∧
    (reviewFault s g).scan = s.scan ∧ (reviewFault s g).pending = s.pending := by
  simp [reviewFault]

@[simp] theorem expireGrace_frame (s : State) :
    (expireGrace s).now = s.now ∧ (expireGrace s).tables = s.tables ∧
    (expireGrace s).control = s.control ∧ (expireGrace s).line = s.line ∧
    (expireGrace s).slots = s.slots ∧ (expireGrace s).telltale = s.telltale ∧
    (expireGrace s).chime = s.chime ∧ (expireGrace s).readout = s.readout ∧
    (expireGrace s).driver = s.driver ∧ (expireGrace s).distance = s.distance ∧
    (expireGrace s).store = s.store ∧ (expireGrace s).roster = s.roster ∧
    (expireGrace s).monitor = s.monitor ∧ (expireGrace s).service = s.service ∧
    (expireGrace s).scan = s.scan ∧ (expireGrace s).pending = s.pending := by
  simp [expireGrace, allGauges]

@[simp] theorem endHoldOf_frame (g : Fin 6) (s : State) :
    (endHoldOf g s).now = s.now ∧ (endHoldOf g s).tables = s.tables ∧
    (endHoldOf g s).control = s.control ∧ (endHoldOf g s).line = s.line ∧
    (endHoldOf g s).slots = s.slots ∧ (endHoldOf g s).telltale = s.telltale ∧
    (endHoldOf g s).chime = s.chime ∧ (endHoldOf g s).readout = s.readout ∧
    (endHoldOf g s).driver = s.driver ∧ (endHoldOf g s).distance = s.distance ∧
    (endHoldOf g s).store = s.store ∧ (endHoldOf g s).roster = s.roster ∧
    (endHoldOf g s).monitor = s.monitor ∧ (endHoldOf g s).service = s.service ∧
    (endHoldOf g s).scan = s.scan ∧ (endHoldOf g s).pending = s.pending := by
  unfold endHoldOf
  split <;> simp

@[simp] theorem standstillOn_frame (g : Fin 6) (s : State) :
    (standstillOn g s).now = s.now ∧ (standstillOn g s).tables = s.tables ∧
    (standstillOn g s).control = s.control ∧ (standstillOn g s).line = s.line ∧
    (standstillOn g s).slots = s.slots ∧ (standstillOn g s).telltale = s.telltale ∧
    (standstillOn g s).chime = s.chime ∧ (standstillOn g s).readout = s.readout ∧
    (standstillOn g s).driver = s.driver ∧ (standstillOn g s).distance = s.distance ∧
    (standstillOn g s).store = s.store ∧ (standstillOn g s).roster = s.roster ∧
    (standstillOn g s).monitor = s.monitor ∧ (standstillOn g s).service = s.service ∧
    (standstillOn g s).scan = s.scan ∧ (standstillOn g s).pending = s.pending := by
  simp [standstillOn]

end Sys2Proof.Machine
end

