-- ==== Sys2Proof/Laws/FramesTelltale.lean ====
section
/-! SUPPORT. What the operations of the Telltale Unit leave unchanged. -/

namespace Sys2Proof.Machine

open Sys2Proof

@[simp] theorem enterLamps_frame (st : LampState) (s : State) :
    (enterLamps st s).now = s.now ∧ (enterLamps st s).tables = s.tables ∧
    (enterLamps st s).control = s.control ∧ (enterLamps st s).line = s.line ∧
    (enterLamps st s).slots = s.slots ∧ (enterLamps st s).gauges = s.gauges ∧
    (enterLamps st s).chime = s.chime ∧ (enterLamps st s).readout = s.readout ∧
    (enterLamps st s).driver = s.driver ∧ (enterLamps st s).distance = s.distance ∧
    (enterLamps st s).store = s.store ∧ (enterLamps st s).roster = s.roster ∧
    (enterLamps st s).monitor = s.monitor ∧ (enterLamps st s).service = s.service ∧
    (enterLamps st s).reports = s.reports ∧ (enterLamps st s).scan = s.scan ∧
    (enterLamps st s).pending = s.pending := by
  simp [enterLamps]

@[simp] theorem endTelltaleOverride_frame (s : State) :
    (endTelltaleOverride s).now = s.now ∧ (endTelltaleOverride s).tables = s.tables ∧
    (endTelltaleOverride s).control = s.control ∧ (endTelltaleOverride s).line = s.line ∧
    (endTelltaleOverride s).slots = s.slots ∧ (endTelltaleOverride s).gauges = s.gauges ∧
    (endTelltaleOverride s).chime = s.chime ∧ (endTelltaleOverride s).readout = s.readout ∧
    (endTelltaleOverride s).driver = s.driver ∧ (endTelltaleOverride s).distance = s.distance ∧
    (endTelltaleOverride s).store = s.store ∧ (endTelltaleOverride s).roster = s.roster ∧
    (endTelltaleOverride s).monitor = s.monitor ∧ (endTelltaleOverride s).service = s.service ∧
    (endTelltaleOverride s).reports = s.reports ∧ (endTelltaleOverride s).scan = s.scan ∧
    (endTelltaleOverride s).pending = s.pending := by
  simp [endTelltaleOverride]

@[simp] theorem putOverride_frame (o : Override) (s : State) :
    (putOverride o s).now = s.now ∧ (putOverride o s).tables = s.tables ∧
    (putOverride o s).control = s.control ∧ (putOverride o s).line = s.line ∧
    (putOverride o s).slots = s.slots ∧ (putOverride o s).gauges = s.gauges ∧
    (putOverride o s).telltale = s.telltale ∧ (putOverride o s).chime = s.chime ∧
    (putOverride o s).readout = s.readout ∧ (putOverride o s).driver = s.driver ∧
    (putOverride o s).distance = s.distance ∧ (putOverride o s).store = s.store ∧
    (putOverride o s).roster = s.roster ∧ (putOverride o s).monitor = s.monitor ∧
    (putOverride o s).reports = s.reports ∧ (putOverride o s).scan = s.scan ∧
    (putOverride o s).pending = s.pending := by
  simp [putOverride]

@[simp] theorem endOverride_frame (s : State) :
    (endOverride s).now = s.now ∧ (endOverride s).tables = s.tables ∧
    (endOverride s).control = s.control ∧ (endOverride s).line = s.line ∧
    (endOverride s).slots = s.slots ∧ (endOverride s).chime = s.chime ∧
    (endOverride s).readout = s.readout ∧ (endOverride s).driver = s.driver ∧
    (endOverride s).distance = s.distance ∧ (endOverride s).store = s.store ∧
    (endOverride s).roster = s.roster ∧ (endOverride s).monitor = s.monitor ∧
    (endOverride s).scan = s.scan ∧ (endOverride s).pending = s.pending := by
  unfold endOverride
  split <;> simp

@[simp] theorem postDemand_frame (output : Fin 32) (cls : LampClass) (index : Nat) (r : DemandRecord) (s : State) :
    (postDemand output cls index r s).now = s.now ∧
    (postDemand output cls index r s).tables = s.tables ∧
    (postDemand output cls index r s).control = s.control ∧
    (postDemand output cls index r s).line = s.line ∧
    (postDemand output cls index r s).slots = s.slots ∧
    (postDemand output cls index r s).gauges = s.gauges ∧
    (postDemand output cls index r s).telltale = s.telltale ∧
    (postDemand output cls index r s).driver = s.driver ∧
    (postDemand output cls index r s).distance = s.distance ∧
    (postDemand output cls index r s).store = s.store ∧
    (postDemand output cls index r s).roster = s.roster ∧
    (postDemand output cls index r s).service = s.service ∧
    (postDemand output cls index r s).scan = s.scan ∧
    (postDemand output cls index r s).pending = s.pending := by
  unfold postDemand
  repeat' split
  all_goals simp

@[simp] theorem leaveDemand_frame (output : Fin 32) (index : Nat) (r : DemandRecord) (s : State) :
    (leaveDemand output index r s).now = s.now ∧ (leaveDemand output index r s).tables = s.tables ∧
    (leaveDemand output index r s).control = s.control ∧ (leaveDemand output index r s).line = s.line ∧
    (leaveDemand output index r s).slots = s.slots ∧ (leaveDemand output index r s).gauges = s.gauges ∧
    (leaveDemand output index r s).telltale = s.telltale ∧
    (leaveDemand output index r s).driver = s.driver ∧
    (leaveDemand output index r s).distance = s.distance ∧
    (leaveDemand output index r s).store = s.store ∧ (leaveDemand output index r s).roster = s.roster ∧
    (leaveDemand output index r s).monitor = s.monitor ∧
    (leaveDemand output index r s).service = s.service ∧
    (leaveDemand output index r s).reports = s.reports ∧ (leaveDemand output index r s).scan = s.scan ∧
    (leaveDemand output index r s).pending = s.pending := by
  unfold leaveDemand
  repeat' split
  all_goals simp

@[simp] theorem announce_frame (c : DemandChange) (s : State) :
    (announce c s).now = s.now ∧ (announce c s).tables = s.tables ∧ (announce c s).control = s.control ∧
    (announce c s).line = s.line ∧ (announce c s).slots = s.slots ∧ (announce c s).gauges = s.gauges ∧
    (announce c s).telltale = s.telltale ∧ (announce c s).driver = s.driver ∧
    (announce c s).distance = s.distance ∧ (announce c s).store = s.store ∧
    (announce c s).roster = s.roster ∧ (announce c s).service = s.service ∧
    (announce c s).scan = s.scan ∧ (announce c s).pending = s.pending := by
  unfold announce
  repeat' split
  all_goals simp

@[simp] theorem updateFlags_frame (s : State) :
    (updateFlags s).now = s.now ∧ (updateFlags s).tables = s.tables ∧
    (updateFlags s).control = s.control ∧ (updateFlags s).line = s.line ∧
    (updateFlags s).slots = s.slots ∧ (updateFlags s).gauges = s.gauges ∧
    (updateFlags s).chime = s.chime ∧ (updateFlags s).readout = s.readout ∧
    (updateFlags s).driver = s.driver ∧ (updateFlags s).distance = s.distance ∧
    (updateFlags s).store = s.store ∧ (updateFlags s).roster = s.roster ∧
    (updateFlags s).monitor = s.monitor ∧ (updateFlags s).scan = s.scan ∧
    (updateFlags s).pending = s.pending := by
  simp only [updateFlags]
  split <;> simp

@[simp] theorem reportRed_frame (c : DemandChange) (s : State) :
    (reportRed c s).now = s.now ∧ (reportRed c s).tables = s.tables ∧
    (reportRed c s).control = s.control ∧ (reportRed c s).line = s.line ∧
    (reportRed c s).slots = s.slots ∧ (reportRed c s).chime = s.chime ∧
    (reportRed c s).readout = s.readout ∧ (reportRed c s).driver = s.driver ∧
    (reportRed c s).distance = s.distance ∧ (reportRed c s).store = s.store ∧
    (reportRed c s).roster = s.roster ∧ (reportRed c s).monitor = s.monitor ∧
    (reportRed c s).scan = s.scan ∧ (reportRed c s).pending = s.pending := by
  unfold reportRed
  split <;> simp

@[simp] theorem foldl_reportRed_frame (l : List DemandChange) (s : State) :
    (l.foldl (fun t c => reportRed c t) s).now = s.now ∧
    (l.foldl (fun t c => reportRed c t) s).tables = s.tables ∧
    (l.foldl (fun t c => reportRed c t) s).control = s.control ∧
    (l.foldl (fun t c => reportRed c t) s).line = s.line ∧
    (l.foldl (fun t c => reportRed c t) s).slots = s.slots ∧
    (l.foldl (fun t c => reportRed c t) s).chime = s.chime ∧
    (l.foldl (fun t c => reportRed c t) s).readout = s.readout ∧
    (l.foldl (fun t c => reportRed c t) s).driver = s.driver ∧
    (l.foldl (fun t c => reportRed c t) s).distance = s.distance ∧
    (l.foldl (fun t c => reportRed c t) s).store = s.store ∧
    (l.foldl (fun t c => reportRed c t) s).roster = s.roster ∧
    (l.foldl (fun t c => reportRed c t) s).monitor = s.monitor ∧
    (l.foldl (fun t c => reportRed c t) s).scan = s.scan ∧
    (l.foldl (fun t c => reportRed c t) s).pending = s.pending := by
  induction l generalizing s with
  | nil => simp
  | cons a l ih => simp [ih]

@[simp] theorem foldl_announce_frame (l : List DemandChange) (s : State) :
    (l.foldl (fun t c => announce c t) s).now = s.now ∧
    (l.foldl (fun t c => announce c t) s).tables = s.tables ∧
    (l.foldl (fun t c => announce c t) s).control = s.control ∧
    (l.foldl (fun t c => announce c t) s).line = s.line ∧
    (l.foldl (fun t c => announce c t) s).slots = s.slots ∧
    (l.foldl (fun t c => announce c t) s).gauges = s.gauges ∧
    (l.foldl (fun t c => announce c t) s).telltale = s.telltale ∧
    (l.foldl (fun t c => announce c t) s).driver = s.driver ∧
    (l.foldl (fun t c => announce c t) s).distance = s.distance ∧
    (l.foldl (fun t c => announce c t) s).store = s.store ∧
    (l.foldl (fun t c => announce c t) s).roster = s.roster ∧
    (l.foldl (fun t c => announce c t) s).service = s.service ∧
    (l.foldl (fun t c => announce c t) s).scan = s.scan ∧
    (l.foldl (fun t c => announce c t) s).pending = s.pending := by
  induction l generalizing s with
  | nil => simp
  | cons a l ih => simp [ih]

@[simp] theorem applyConditions_frame (f : Demand → Bool) (s : State) :
    (applyConditions f s).now = s.now ∧ (applyConditions f s).tables = s.tables ∧
    (applyConditions f s).control = s.control ∧ (applyConditions f s).line = s.line ∧
    (applyConditions f s).slots = s.slots ∧ (applyConditions f s).driver = s.driver ∧
    (applyConditions f s).distance = s.distance ∧ (applyConditions f s).store = s.store ∧
    (applyConditions f s).roster = s.roster ∧ (applyConditions f s).scan = s.scan ∧
    (applyConditions f s).pending = s.pending := by
  simp [applyConditions]

@[simp] theorem telltaleSlot_frame (slot : Fin 64) (e : Int) (q : Quality) (s : State) :
    (telltaleSlot slot e q s).now = s.now ∧ (telltaleSlot slot e q s).tables = s.tables ∧
    (telltaleSlot slot e q s).control = s.control ∧ (telltaleSlot slot e q s).line = s.line ∧
    (telltaleSlot slot e q s).slots = s.slots ∧ (telltaleSlot slot e q s).driver = s.driver ∧
    (telltaleSlot slot e q s).distance = s.distance ∧ (telltaleSlot slot e q s).store = s.store ∧
    (telltaleSlot slot e q s).roster = s.roster ∧ (telltaleSlot slot e q s).scan = s.scan ∧
    (telltaleSlot slot e q s).pending = s.pending := by
  simp [telltaleSlot]

@[simp] theorem takeSource_frame (src : Source) (on : Bool) (s : State) :
    (takeSource src on s).now = s.now ∧ (takeSource src on s).tables = s.tables ∧
    (takeSource src on s).control = s.control ∧ (takeSource src on s).line = s.line ∧
    (takeSource src on s).slots = s.slots ∧ (takeSource src on s).driver = s.driver ∧
    (takeSource src on s).distance = s.distance ∧ (takeSource src on s).store = s.store ∧
    (takeSource src on s).roster = s.roster ∧ (takeSource src on s).scan = s.scan ∧
    (takeSource src on s).pending = s.pending := by
  simp [takeSource]

@[simp] theorem ackTelltale_frame (s : State) :
    (ackTelltale s).now = s.now ∧ (ackTelltale s).tables = s.tables ∧
    (ackTelltale s).control = s.control ∧ (ackTelltale s).line = s.line ∧
    (ackTelltale s).slots = s.slots ∧ (ackTelltale s).gauges = s.gauges ∧
    (ackTelltale s).chime = s.chime ∧ (ackTelltale s).readout = s.readout ∧
    (ackTelltale s).driver = s.driver ∧ (ackTelltale s).distance = s.distance ∧
    (ackTelltale s).store = s.store ∧ (ackTelltale s).roster = s.roster ∧
    (ackTelltale s).monitor = s.monitor ∧ (ackTelltale s).service = s.service ∧
    (ackTelltale s).reports = s.reports ∧ (ackTelltale s).scan = s.scan ∧
    (ackTelltale s).pending = s.pending := by
  simp [ackTelltale]

@[simp] theorem startTelltale_frame (s : State) :
    (startTelltale s).now = s.now ∧ (startTelltale s).tables = s.tables ∧
    (startTelltale s).control = s.control ∧ (startTelltale s).line = s.line ∧
    (startTelltale s).slots = s.slots ∧ (startTelltale s).gauges = s.gauges ∧
    (startTelltale s).chime = s.chime ∧ (startTelltale s).readout = s.readout ∧
    (startTelltale s).driver = s.driver ∧ (startTelltale s).distance = s.distance ∧
    (startTelltale s).store = s.store ∧ (startTelltale s).roster = s.roster ∧
    (startTelltale s).monitor = s.monitor ∧ (startTelltale s).scan = s.scan ∧
    (startTelltale s).pending = s.pending := by
  simp [startTelltale]

@[simp] theorem ignitionOffTelltale_frame (s : State) :
    (ignitionOffTelltale s).now = s.now ∧ (ignitionOffTelltale s).tables = s.tables ∧
    (ignitionOffTelltale s).control = s.control ∧ (ignitionOffTelltale s).line = s.line ∧
    (ignitionOffTelltale s).slots = s.slots ∧ (ignitionOffTelltale s).gauges = s.gauges ∧
    (ignitionOffTelltale s).chime = s.chime ∧ (ignitionOffTelltale s).readout = s.readout ∧
    (ignitionOffTelltale s).driver = s.driver ∧ (ignitionOffTelltale s).distance = s.distance ∧
    (ignitionOffTelltale s).store = s.store ∧ (ignitionOffTelltale s).roster = s.roster ∧
    (ignitionOffTelltale s).monitor = s.monitor ∧ (ignitionOffTelltale s).service = s.service ∧
    (ignitionOffTelltale s).reports = s.reports ∧ (ignitionOffTelltale s).scan = s.scan ∧
    (ignitionOffTelltale s).pending = s.pending := by
  simp [ignitionOffTelltale]

@[simp] theorem postActiveDemands_frame (l : Lamp) (i : Nat) (ds : List Demand) (s : State) :
    (postActiveDemands l i ds s).now = s.now ∧ (postActiveDemands l i ds s).tables = s.tables ∧
    (postActiveDemands l i ds s).control = s.control ∧ (postActiveDemands l i ds s).line = s.line ∧
    (postActiveDemands l i ds s).slots = s.slots ∧ (postActiveDemands l i ds s).gauges = s.gauges ∧
    (postActiveDemands l i ds s).telltale = s.telltale ∧
    (postActiveDemands l i ds s).driver = s.driver ∧
    (postActiveDemands l i ds s).distance = s.distance ∧ (postActiveDemands l i ds s).store = s.store ∧
    (postActiveDemands l i ds s).roster = s.roster ∧ (postActiveDemands l i ds s).service = s.service ∧
    (postActiveDemands l i ds s).scan = s.scan ∧ (postActiveDemands l i ds s).pending = s.pending := by
  induction ds generalizing i s with
  | nil => simp [postActiveDemands]
  | cons d ds ih =>
    simp only [postActiveDemands]
    split <;> simp [ih]

@[simp] theorem foldl_postActiveDemands_frame (l : List Lamp) (s : State) :
    (l.foldl (fun t l => postActiveDemands l 0 l.demands t) s).now = s.now ∧
    (l.foldl (fun t l => postActiveDemands l 0 l.demands t) s).tables = s.tables ∧
    (l.foldl (fun t l => postActiveDemands l 0 l.demands t) s).control = s.control ∧
    (l.foldl (fun t l => postActiveDemands l 0 l.demands t) s).line = s.line ∧
    (l.foldl (fun t l => postActiveDemands l 0 l.demands t) s).slots = s.slots ∧
    (l.foldl (fun t l => postActiveDemands l 0 l.demands t) s).gauges = s.gauges ∧
    (l.foldl (fun t l => postActiveDemands l 0 l.demands t) s).telltale = s.telltale ∧
    (l.foldl (fun t l => postActiveDemands l 0 l.demands t) s).driver = s.driver ∧
    (l.foldl (fun t l => postActiveDemands l 0 l.demands t) s).distance = s.distance ∧
    (l.foldl (fun t l => postActiveDemands l 0 l.demands t) s).store = s.store ∧
    (l.foldl (fun t l => postActiveDemands l 0 l.demands t) s).roster = s.roster ∧
    (l.foldl (fun t l => postActiveDemands l 0 l.demands t) s).service = s.service ∧
    (l.foldl (fun t l => postActiveDemands l 0 l.demands t) s).scan = s.scan ∧
    (l.foldl (fun t l => postActiveDemands l 0 l.demands t) s).pending = s.pending := by
  induction l generalizing s with
  | nil => simp
  | cons a l ih => simp [ih]

@[simp] theorem postLoadFault_frame (l : Lamp) (s : State) :
    (postLoadFault s l).now = s.now ∧ (postLoadFault s l).tables = s.tables ∧
    (postLoadFault s l).control = s.control ∧ (postLoadFault s l).line = s.line ∧
    (postLoadFault s l).slots = s.slots ∧ (postLoadFault s l).gauges = s.gauges ∧
    (postLoadFault s l).telltale = s.telltale ∧ (postLoadFault s l).chime = s.chime ∧
    (postLoadFault s l).driver = s.driver ∧ (postLoadFault s l).distance = s.distance ∧
    (postLoadFault s l).store = s.store ∧ (postLoadFault s l).roster = s.roster ∧
    (postLoadFault s l).service = s.service ∧ (postLoadFault s l).scan = s.scan ∧
    (postLoadFault s l).pending = s.pending := by
  unfold postLoadFault
  split <;> simp

@[simp] theorem foldl_postLoadFault_frame (l : List Lamp) (s : State) :
    (l.foldl postLoadFault s).now = s.now ∧ (l.foldl postLoadFault s).tables = s.tables ∧
    (l.foldl postLoadFault s).control = s.control ∧ (l.foldl postLoadFault s).line = s.line ∧
    (l.foldl postLoadFault s).slots = s.slots ∧ (l.foldl postLoadFault s).gauges = s.gauges ∧
    (l.foldl postLoadFault s).telltale = s.telltale ∧ (l.foldl postLoadFault s).chime = s.chime ∧
    (l.foldl postLoadFault s).driver = s.driver ∧ (l.foldl postLoadFault s).distance = s.distance ∧
    (l.foldl postLoadFault s).store = s.store ∧ (l.foldl postLoadFault s).roster = s.roster ∧
    (l.foldl postLoadFault s).service = s.service ∧ (l.foldl postLoadFault s).scan = s.scan ∧
    (l.foldl postLoadFault s).pending = s.pending := by
  induction l generalizing s with
  | nil => simp
  | cons a l ih => simp [ih]

@[simp] theorem endProving_frame (s : State) :
    (endProving s).now = s.now ∧ (endProving s).tables = s.tables ∧ (endProving s).line = s.line ∧
    (endProving s).slots = s.slots ∧ (endProving s).gauges = s.gauges ∧
    (endProving s).driver = s.driver ∧ (endProving s).distance = s.distance ∧
    (endProving s).store = s.store ∧ (endProving s).roster = s.roster ∧
    (endProving s).service = s.service ∧ (endProving s).scan = s.scan ∧
    (endProving s).pending = s.pending := by
  simp [endProving]

@[simp] theorem beginEvaluating_frame (s : State) :
    (beginEvaluating s).now = s.now ∧ (beginEvaluating s).tables = s.tables ∧
    (beginEvaluating s).control = s.control ∧ (beginEvaluating s).line = s.line ∧
    (beginEvaluating s).slots = s.slots ∧ (beginEvaluating s).chime = s.chime ∧
    (beginEvaluating s).readout = s.readout ∧ (beginEvaluating s).driver = s.driver ∧
    (beginEvaluating s).distance = s.distance ∧ (beginEvaluating s).store = s.store ∧
    (beginEvaluating s).roster = s.roster ∧ (beginEvaluating s).monitor = s.monitor ∧
    (beginEvaluating s).scan = s.scan ∧ (beginEvaluating s).pending = s.pending := by
  simp [beginEvaluating]

@[simp] theorem startLampOverride_frame (p : Pattern) (s : State) :
    (startLampOverride p s).now = s.now ∧ (startLampOverride p s).tables = s.tables ∧
    (startLampOverride p s).control = s.control ∧ (startLampOverride p s).line = s.line ∧
    (startLampOverride p s).slots = s.slots ∧ (startLampOverride p s).gauges = s.gauges ∧
    (startLampOverride p s).chime = s.chime ∧ (startLampOverride p s).readout = s.readout ∧
    (startLampOverride p s).driver = s.driver ∧ (startLampOverride p s).distance = s.distance ∧
    (startLampOverride p s).store = s.store ∧ (startLampOverride p s).roster = s.roster ∧
    (startLampOverride p s).monitor = s.monitor ∧ (startLampOverride p s).service = s.service ∧
    (startLampOverride p s).reports = s.reports ∧ (startLampOverride p s).scan = s.scan ∧
    (startLampOverride p s).pending = s.pending := by
  unfold startLampOverride
  split <;> simp

@[simp] theorem lampPhase_frame (output : Fin 32) (due : Nat) (s : State) :
    (lampPhase output due s).now = s.now ∧ (lampPhase output due s).tables = s.tables ∧
    (lampPhase output due s).control = s.control ∧ (lampPhase output due s).line = s.line ∧
    (lampPhase output due s).slots = s.slots ∧ (lampPhase output due s).gauges = s.gauges ∧
    (lampPhase output due s).chime = s.chime ∧ (lampPhase output due s).readout = s.readout ∧
    (lampPhase output due s).driver = s.driver ∧ (lampPhase output due s).distance = s.distance ∧
    (lampPhase output due s).store = s.store ∧ (lampPhase output due s).roster = s.roster ∧
    (lampPhase output due s).monitor = s.monitor ∧ (lampPhase output due s).service = s.service ∧
    (lampPhase output due s).reports = s.reports ∧ (lampPhase output due s).scan = s.scan ∧
    (lampPhase output due s).pending = s.pending := by
  simp [lampPhase]

@[simp] theorem loadFault_frame (output : Fin 32) (kind : LoadKind) (s : State) :
    (loadFault output kind s).now = s.now ∧ (loadFault output kind s).tables = s.tables ∧
    (loadFault output kind s).control = s.control ∧ (loadFault output kind s).line = s.line ∧
    (loadFault output kind s).slots = s.slots ∧ (loadFault output kind s).gauges = s.gauges ∧
    (loadFault output kind s).chime = s.chime ∧ (loadFault output kind s).driver = s.driver ∧
    (loadFault output kind s).distance = s.distance ∧ (loadFault output kind s).store = s.store ∧
    (loadFault output kind s).roster = s.roster ∧ (loadFault output kind s).service = s.service ∧
    (loadFault output kind s).scan = s.scan ∧ (loadFault output kind s).pending = s.pending := by
  simp only [loadFault]
  repeat' split
  all_goals simp

end Sys2Proof.Machine
end

