-- ==== Sys2Proof/Laws/FramesService.lean ====
section
/-! SUPPORT. What the Intake Unit, the Service Responder, the image and the Line Controller leave unchanged. -/

namespace Sys2Proof.Machine

open Sys2Proof

@[simp] theorem putSlot_frame (slot : Fin 64) (x : Slot) (s : State) :
    (putSlot slot x s).now = s.now ∧ (putSlot slot x s).tables = s.tables ∧
    (putSlot slot x s).control = s.control ∧ (putSlot slot x s).line = s.line ∧
    (putSlot slot x s).gauges = s.gauges ∧ (putSlot slot x s).telltale = s.telltale ∧
    (putSlot slot x s).chime = s.chime ∧ (putSlot slot x s).readout = s.readout ∧
    (putSlot slot x s).driver = s.driver ∧ (putSlot slot x s).distance = s.distance ∧
    (putSlot slot x s).store = s.store ∧ (putSlot slot x s).roster = s.roster ∧
    (putSlot slot x s).monitor = s.monitor ∧ (putSlot slot x s).service = s.service ∧
    (putSlot slot x s).reports = s.reports ∧ (putSlot slot x s).scan = s.scan ∧
    (putSlot slot x s).pending = s.pending := by
  simp [putSlot]

@[simp] theorem notifyConsumers_frame (slot : Fin 64) (ev : SlotEvent) (s : State) :
    (notifyConsumers slot ev s).now = s.now ∧ (notifyConsumers slot ev s).tables = s.tables ∧
    (notifyConsumers slot ev s).control = s.control ∧ (notifyConsumers slot ev s).line = s.line ∧
    (notifyConsumers slot ev s).slots = s.slots ∧ (notifyConsumers slot ev s).driver = s.driver ∧
    (notifyConsumers slot ev s).distance = s.distance ∧ (notifyConsumers slot ev s).store = s.store ∧
    (notifyConsumers slot ev s).scan = s.scan ∧ (notifyConsumers slot ev s).pending = s.pending := by
  simp [notifyConsumers]

@[simp] theorem treatDescriptor_frame (sender staleLimit : Nat) (payload : List Byte)  (d : Descriptor) (s : State) :
    (treatDescriptor sender staleLimit payload s d).now = s.now ∧
    (treatDescriptor sender staleLimit payload s d).tables = s.tables ∧
    (treatDescriptor sender staleLimit payload s d).control = s.control ∧
    (treatDescriptor sender staleLimit payload s d).line = s.line ∧
    (treatDescriptor sender staleLimit payload s d).driver = s.driver ∧
    (treatDescriptor sender staleLimit payload s d).distance = s.distance ∧
    (treatDescriptor sender staleLimit payload s d).store = s.store ∧
    (treatDescriptor sender staleLimit payload s d).scan = s.scan ∧
    (treatDescriptor sender staleLimit payload s d).pending = s.pending := by
  simp only [treatDescriptor]
  repeat' split
  all_goals simp

@[simp] theorem foldl_treatDescriptor_frame (sender stale : Nat) (payload : List Byte) (l : List Descriptor) (s : State) :
    (l.foldl (treatDescriptor sender stale payload) s).now = s.now ∧
    (l.foldl (treatDescriptor sender stale payload) s).tables = s.tables ∧
    (l.foldl (treatDescriptor sender stale payload) s).control = s.control ∧
    (l.foldl (treatDescriptor sender stale payload) s).line = s.line ∧
    (l.foldl (treatDescriptor sender stale payload) s).driver = s.driver ∧
    (l.foldl (treatDescriptor sender stale payload) s).distance = s.distance ∧
    (l.foldl (treatDescriptor sender stale payload) s).store = s.store ∧
    (l.foldl (treatDescriptor sender stale payload) s).scan = s.scan ∧
    (l.foldl (treatDescriptor sender stale payload) s).pending = s.pending := by
  induction l generalizing s with
  | nil => simp
  | cons a l ih => simp [ih]

@[simp] theorem treatEntry_frame (sender : Nat) (payload : List Byte)  (e : IntakeEntry) (s : State) :
    (treatEntry sender payload s e).now = s.now ∧ (treatEntry sender payload s e).tables = s.tables ∧
    (treatEntry sender payload s e).line = s.line ∧ (treatEntry sender payload s e).scan = s.scan ∧
    (treatEntry sender payload s e).pending = s.pending := by
  unfold treatEntry
  split <;> simp

@[simp] theorem foldl_treatEntry_frame (sender : Nat) (payload : List Byte) (l : List IntakeEntry) (s : State) :
    (l.foldl (treatEntry sender payload) s).now = s.now ∧
    (l.foldl (treatEntry sender payload) s).tables = s.tables ∧
    (l.foldl (treatEntry sender payload) s).line = s.line ∧
    (l.foldl (treatEntry sender payload) s).scan = s.scan ∧
    (l.foldl (treatEntry sender payload) s).pending = s.pending := by
  induction l generalizing s with
  | nil => simp
  | cons a l ih => simp [ih]

@[simp] theorem takeData_frame (topic sender : Nat) (payload : List Byte) (s : State) :
    (takeData topic sender payload s).now = s.now ∧
    (takeData topic sender payload s).tables = s.tables ∧
    (takeData topic sender payload s).line = s.line ∧ (takeData topic sender payload s).scan = s.scan ∧
    (takeData topic sender payload s).pending = s.pending := by
  simp [takeData]

@[simp] theorem staleSlot_frame (slot : Fin 64) (s : State) :
    (staleSlot slot s).now = s.now ∧ (staleSlot slot s).tables = s.tables ∧
    (staleSlot slot s).control = s.control ∧ (staleSlot slot s).line = s.line ∧
    (staleSlot slot s).driver = s.driver ∧ (staleSlot slot s).distance = s.distance ∧
    (staleSlot slot s).store = s.store ∧ (staleSlot slot s).scan = s.scan ∧
    (staleSlot slot s).pending = s.pending := by
  simp [staleSlot]

@[simp] theorem startOverride_frame (pattern : Pattern) (fraction : Nat) (beep : Bool) (s : State) :
    (startOverride pattern fraction beep s).now = s.now ∧
    (startOverride pattern fraction beep s).tables = s.tables ∧
    (startOverride pattern fraction beep s).control = s.control ∧
    (startOverride pattern fraction beep s).line = s.line ∧
    (startOverride pattern fraction beep s).slots = s.slots ∧
    (startOverride pattern fraction beep s).readout = s.readout ∧
    (startOverride pattern fraction beep s).driver = s.driver ∧
    (startOverride pattern fraction beep s).distance = s.distance ∧
    (startOverride pattern fraction beep s).store = s.store ∧
    (startOverride pattern fraction beep s).roster = s.roster ∧
    (startOverride pattern fraction beep s).scan = s.scan ∧
    (startOverride pattern fraction beep s).pending = s.pending := by
  unfold startOverride
  split <;> simp

@[simp] theorem placeReply_frame (requester code : Nat) (r : Reply) (s : State) :
    (placeReply requester code r s).now = s.now ∧ (placeReply requester code r s).tables = s.tables ∧
    (placeReply requester code r s).control = s.control ∧
    (placeReply requester code r s).slots = s.slots ∧
    (placeReply requester code r s).gauges = s.gauges ∧
    (placeReply requester code r s).telltale = s.telltale ∧
    (placeReply requester code r s).chime = s.chime ∧
    (placeReply requester code r s).readout = s.readout ∧
    (placeReply requester code r s).driver = s.driver ∧
    (placeReply requester code r s).distance = s.distance ∧
    (placeReply requester code r s).store = s.store ∧ (placeReply requester code r s).scan = s.scan ∧
    (placeReply requester code r s).pending = s.pending := by
  simp [placeReply]

@[simp] theorem handOut_frame (t : Tables) (fallback : Bool) (s : State) :
    (handOut t fallback s).now = s.now ∧ (handOut t fallback s).line = s.line ∧
    (handOut t fallback s).slots = s.slots ∧ (handOut t fallback s).gauges = s.gauges ∧
    (handOut t fallback s).chime = s.chime ∧ (handOut t fallback s).readout = s.readout ∧
    (handOut t fallback s).driver = s.driver ∧ (handOut t fallback s).distance = s.distance ∧
    (handOut t fallback s).monitor = s.monitor ∧ (handOut t fallback s).service = s.service ∧
    (handOut t fallback s).reports = s.reports ∧ (handOut t fallback s).scan = s.scan ∧
    (handOut t fallback s).pending = s.pending := by
  simp [handOut]

@[simp] theorem takeImage_frame (area : List Byte) (s : State) :
    (takeImage area s).now = s.now ∧ (takeImage area s).line = s.line ∧
    (takeImage area s).slots = s.slots ∧ (takeImage area s).gauges = s.gauges ∧
    (takeImage area s).chime = s.chime ∧ (takeImage area s).readout = s.readout ∧
    (takeImage area s).driver = s.driver ∧ (takeImage area s).distance = s.distance ∧
    (takeImage area s).monitor = s.monitor ∧ (takeImage area s).service = s.service ∧
    (takeImage area s).reports = s.reports ∧ (takeImage area s).scan = s.scan ∧
    (takeImage area s).pending = s.pending := by
  unfold takeImage
  split <;> simp

@[simp] theorem startMark_frame (s : State) :
    (startMark s).now = s.now ∧ (startMark s).tables = s.tables ∧ (startMark s).control = s.control ∧
    (startMark s).slots = s.slots ∧ (startMark s).gauges = s.gauges ∧
    (startMark s).telltale = s.telltale ∧ (startMark s).chime = s.chime ∧
    (startMark s).readout = s.readout ∧ (startMark s).driver = s.driver ∧
    (startMark s).distance = s.distance ∧ (startMark s).store = s.store ∧
    (startMark s).roster = s.roster ∧ (startMark s).monitor = s.monitor ∧
    (startMark s).service = s.service ∧ (startMark s).reports = s.reports ∧
    (startMark s).scan = s.scan ∧ (startMark s).pending = s.pending := by
  simp [startMark]

@[simp] theorem ownStartMark_frame (s : State) :
    (ownStartMark s).now = s.now ∧ (ownStartMark s).tables = s.tables ∧
    (ownStartMark s).control = s.control ∧ (ownStartMark s).slots = s.slots ∧
    (ownStartMark s).gauges = s.gauges ∧ (ownStartMark s).telltale = s.telltale ∧
    (ownStartMark s).chime = s.chime ∧ (ownStartMark s).readout = s.readout ∧
    (ownStartMark s).driver = s.driver ∧ (ownStartMark s).distance = s.distance ∧
    (ownStartMark s).store = s.store ∧ (ownStartMark s).roster = s.roster ∧
    (ownStartMark s).monitor = s.monitor ∧ (ownStartMark s).service = s.service ∧
    (ownStartMark s).reports = s.reports ∧ (ownStartMark s).scan = s.scan ∧
    (ownStartMark s).pending = s.pending := by
  unfold ownStartMark
  split <;> simp

@[simp] theorem frameOver_frame (acknowledged : Bool) (s : State) :
    (frameOver acknowledged s).now = s.now ∧ (frameOver acknowledged s).tables = s.tables ∧
    (frameOver acknowledged s).control = s.control ∧ (frameOver acknowledged s).slots = s.slots ∧
    (frameOver acknowledged s).gauges = s.gauges ∧ (frameOver acknowledged s).telltale = s.telltale ∧
    (frameOver acknowledged s).chime = s.chime ∧ (frameOver acknowledged s).readout = s.readout ∧
    (frameOver acknowledged s).driver = s.driver ∧ (frameOver acknowledged s).distance = s.distance ∧
    (frameOver acknowledged s).store = s.store ∧ (frameOver acknowledged s).roster = s.roster ∧
    (frameOver acknowledged s).monitor = s.monitor ∧ (frameOver acknowledged s).service = s.service ∧
    (frameOver acknowledged s).reports = s.reports ∧ (frameOver acknowledged s).scan = s.scan ∧
    (frameOver acknowledged s).pending = s.pending := by
  simp [frameOver]

@[simp] theorem peerStart_frame (s : State) :
    (peerStart s).now = s.now ∧ (peerStart s).tables = s.tables ∧ (peerStart s).control = s.control ∧
    (peerStart s).slots = s.slots ∧ (peerStart s).gauges = s.gauges ∧
    (peerStart s).telltale = s.telltale ∧ (peerStart s).chime = s.chime ∧
    (peerStart s).readout = s.readout ∧ (peerStart s).driver = s.driver ∧
    (peerStart s).distance = s.distance ∧ (peerStart s).store = s.store ∧
    (peerStart s).roster = s.roster ∧ (peerStart s).monitor = s.monitor ∧
    (peerStart s).service = s.service ∧ (peerStart s).reports = s.reports ∧
    (peerStart s).scan = s.scan ∧ (peerStart s).pending = s.pending := by
  unfold peerStart
  split <;> simp

@[simp] theorem lineQuiet_frame (s : State) :
    (lineQuiet s).now = s.now ∧ (lineQuiet s).tables = s.tables ∧ (lineQuiet s).control = s.control ∧
    (lineQuiet s).slots = s.slots ∧ (lineQuiet s).gauges = s.gauges ∧
    (lineQuiet s).telltale = s.telltale ∧ (lineQuiet s).chime = s.chime ∧
    (lineQuiet s).readout = s.readout ∧ (lineQuiet s).driver = s.driver ∧
    (lineQuiet s).distance = s.distance ∧ (lineQuiet s).store = s.store ∧
    (lineQuiet s).roster = s.roster ∧ (lineQuiet s).monitor = s.monitor ∧
    (lineQuiet s).service = s.service ∧ (lineQuiet s).reports = s.reports ∧
    (lineQuiet s).scan = s.scan ∧ (lineQuiet s).pending = s.pending := by
  unfold lineQuiet
  split <;> simp

@[simp] theorem removeSent_frame (e : TxEntry) (how : Leaving) (s : State) :
    (removeSent e how s).now = s.now ∧ (removeSent e how s).tables = s.tables ∧
    (removeSent e how s).control = s.control ∧ (removeSent e how s).slots = s.slots ∧
    (removeSent e how s).gauges = s.gauges ∧ (removeSent e how s).telltale = s.telltale ∧
    (removeSent e how s).chime = s.chime ∧ (removeSent e how s).readout = s.readout ∧
    (removeSent e how s).driver = s.driver ∧ (removeSent e how s).distance = s.distance ∧
    (removeSent e how s).store = s.store ∧ (removeSent e how s).monitor = s.monitor ∧
    (removeSent e how s).reports = s.reports ∧ (removeSent e how s).scan = s.scan ∧
    (removeSent e how s).pending = s.pending := by
  simp [removeSent]

@[simp] theorem returnEntry_frame (e : TxEntry) (s : State) :
    (returnEntry e s).now = s.now ∧ (returnEntry e s).tables = s.tables ∧
    (returnEntry e s).control = s.control ∧ (returnEntry e s).slots = s.slots ∧
    (returnEntry e s).gauges = s.gauges ∧ (returnEntry e s).telltale = s.telltale ∧
    (returnEntry e s).chime = s.chime ∧ (returnEntry e s).readout = s.readout ∧
    (returnEntry e s).driver = s.driver ∧ (returnEntry e s).distance = s.distance ∧
    (returnEntry e s).store = s.store ∧ (returnEntry e s).monitor = s.monitor ∧
    (returnEntry e s).reports = s.reports ∧ (returnEntry e s).scan = s.scan ∧
    (returnEntry e s).pending = s.pending := by
  unfold returnEntry
  repeat' split
  all_goals simp

@[simp] theorem countFailure_frame (s : State) :
    (countFailure s).now = s.now ∧ (countFailure s).tables = s.tables ∧
    (countFailure s).control = s.control ∧ (countFailure s).slots = s.slots ∧
    (countFailure s).gauges = s.gauges ∧ (countFailure s).telltale = s.telltale ∧
    (countFailure s).chime = s.chime ∧ (countFailure s).readout = s.readout ∧
    (countFailure s).driver = s.driver ∧ (countFailure s).distance = s.distance ∧
    (countFailure s).store = s.store ∧ (countFailure s).roster = s.roster ∧
    (countFailure s).service = s.service ∧ (countFailure s).scan = s.scan ∧
    (countFailure s).pending = s.pending := by
  simp only [countFailure]
  split <;> simp

@[simp] theorem takeOutcome_frame (o : TxOutcome) (e : TxEntry) (s : State) :
    (takeOutcome o e s).now = s.now ∧ (takeOutcome o e s).tables = s.tables ∧
    (takeOutcome o e s).control = s.control ∧ (takeOutcome o e s).slots = s.slots ∧
    (takeOutcome o e s).gauges = s.gauges ∧ (takeOutcome o e s).telltale = s.telltale ∧
    (takeOutcome o e s).chime = s.chime ∧ (takeOutcome o e s).readout = s.readout ∧
    (takeOutcome o e s).driver = s.driver ∧ (takeOutcome o e s).distance = s.distance ∧
    (takeOutcome o e s).store = s.store ∧ (takeOutcome o e s).scan = s.scan ∧
    (takeOutcome o e s).pending = s.pending := by
  cases o <;> simp [takeOutcome]

@[simp] theorem foldl_reportLeaving_frame (l : List TxEntry) (s : State) :
    (l.foldl (fun t e => reportLeaving e.kind e.payload .discarded t) s).now = s.now ∧
    (l.foldl (fun t e => reportLeaving e.kind e.payload .discarded t) s).tables = s.tables ∧
    (l.foldl (fun t e => reportLeaving e.kind e.payload .discarded t) s).control = s.control ∧
    (l.foldl (fun t e => reportLeaving e.kind e.payload .discarded t) s).line = s.line ∧
    (l.foldl (fun t e => reportLeaving e.kind e.payload .discarded t) s).slots = s.slots ∧
    (l.foldl (fun t e => reportLeaving e.kind e.payload .discarded t) s).gauges = s.gauges ∧
    (l.foldl (fun t e => reportLeaving e.kind e.payload .discarded t) s).telltale = s.telltale ∧
    (l.foldl (fun t e => reportLeaving e.kind e.payload .discarded t) s).chime = s.chime ∧
    (l.foldl (fun t e => reportLeaving e.kind e.payload .discarded t) s).readout = s.readout ∧
    (l.foldl (fun t e => reportLeaving e.kind e.payload .discarded t) s).driver = s.driver ∧
    (l.foldl (fun t e => reportLeaving e.kind e.payload .discarded t) s).distance = s.distance ∧
    (l.foldl (fun t e => reportLeaving e.kind e.payload .discarded t) s).store = s.store ∧
    (l.foldl (fun t e => reportLeaving e.kind e.payload .discarded t) s).monitor = s.monitor ∧
    (l.foldl (fun t e => reportLeaving e.kind e.payload .discarded t) s).reports = s.reports ∧
    (l.foldl (fun t e => reportLeaving e.kind e.payload .discarded t) s).scan = s.scan ∧
    (l.foldl (fun t e => reportLeaving e.kind e.payload .discarded t) s).pending = s.pending := by
  induction l generalizing s with
  | nil => simp
  | cons a l ih => simp [ih]

@[simp] theorem discardAll_frame (q : List TxEntry) (s : State) :
    (discardAll q s).now = s.now ∧ (discardAll q s).tables = s.tables ∧
    (discardAll q s).control = s.control ∧ (discardAll q s).line = s.line ∧
    (discardAll q s).slots = s.slots ∧ (discardAll q s).gauges = s.gauges ∧
    (discardAll q s).telltale = s.telltale ∧ (discardAll q s).chime = s.chime ∧
    (discardAll q s).readout = s.readout ∧ (discardAll q s).driver = s.driver ∧
    (discardAll q s).distance = s.distance ∧ (discardAll q s).store = s.store ∧
    (discardAll q s).monitor = s.monitor ∧ (discardAll q s).reports = s.reports ∧
    (discardAll q s).scan = s.scan ∧ (discardAll q s).pending = s.pending := by
  simp [discardAll]

@[simp] theorem restLine_frame (s : State) :
    (restLine s).now = s.now ∧ (restLine s).tables = s.tables ∧ (restLine s).control = s.control ∧
    (restLine s).slots = s.slots ∧ (restLine s).gauges = s.gauges ∧ (restLine s).telltale = s.telltale ∧
    (restLine s).chime = s.chime ∧ (restLine s).readout = s.readout ∧ (restLine s).driver = s.driver ∧
    (restLine s).distance = s.distance ∧ (restLine s).store = s.store ∧
    (restLine s).monitor = s.monitor ∧ (restLine s).reports = s.reports ∧ (restLine s).scan = s.scan ∧
    (restLine s).pending = s.pending := by
  simp [restLine]

@[simp] theorem sleepLine_frame (s : State) :
    (sleepLine s).now = s.now ∧ (sleepLine s).tables = s.tables ∧ (sleepLine s).control = s.control ∧
    (sleepLine s).slots = s.slots ∧ (sleepLine s).gauges = s.gauges ∧
    (sleepLine s).telltale = s.telltale ∧ (sleepLine s).chime = s.chime ∧
    (sleepLine s).readout = s.readout ∧ (sleepLine s).driver = s.driver ∧
    (sleepLine s).distance = s.distance ∧ (sleepLine s).store = s.store ∧
    (sleepLine s).monitor = s.monitor ∧ (sleepLine s).reports = s.reports ∧
    (sleepLine s).scan = s.scan ∧ (sleepLine s).pending = s.pending := by
  unfold sleepLine
  split <;> simp

@[simp] theorem discardWaiting_frame (s : State) :
    (discardWaiting s).now = s.now ∧ (discardWaiting s).tables = s.tables ∧
    (discardWaiting s).control = s.control ∧ (discardWaiting s).slots = s.slots ∧
    (discardWaiting s).gauges = s.gauges ∧ (discardWaiting s).telltale = s.telltale ∧
    (discardWaiting s).chime = s.chime ∧ (discardWaiting s).readout = s.readout ∧
    (discardWaiting s).driver = s.driver ∧ (discardWaiting s).distance = s.distance ∧
    (discardWaiting s).store = s.store ∧ (discardWaiting s).monitor = s.monitor ∧
    (discardWaiting s).reports = s.reports ∧ (discardWaiting s).scan = s.scan ∧
    (discardWaiting s).pending = s.pending := by
  simp [discardWaiting]

@[simp] theorem finishSleep_frame (s : State) :
    (finishSleep s).now = s.now ∧ (finishSleep s).tables = s.tables ∧
    (finishSleep s).control = s.control ∧ (finishSleep s).slots = s.slots ∧
    (finishSleep s).gauges = s.gauges ∧ (finishSleep s).telltale = s.telltale ∧
    (finishSleep s).chime = s.chime ∧ (finishSleep s).readout = s.readout ∧
    (finishSleep s).driver = s.driver ∧ (finishSleep s).distance = s.distance ∧
    (finishSleep s).store = s.store ∧ (finishSleep s).monitor = s.monitor ∧
    (finishSleep s).reports = s.reports ∧ (finishSleep s).scan = s.scan ∧
    (finishSleep s).pending = s.pending := by
  unfold finishSleep
  split <;> simp

@[simp] theorem wakeLine_frame (s : State) :
    (wakeLine s).now = s.now ∧ (wakeLine s).tables = s.tables ∧ (wakeLine s).control = s.control ∧
    (wakeLine s).slots = s.slots ∧ (wakeLine s).gauges = s.gauges ∧ (wakeLine s).telltale = s.telltale ∧
    (wakeLine s).chime = s.chime ∧ (wakeLine s).readout = s.readout ∧ (wakeLine s).driver = s.driver ∧
    (wakeLine s).distance = s.distance ∧ (wakeLine s).store = s.store ∧
    (wakeLine s).monitor = s.monitor ∧ (wakeLine s).reports = s.reports ∧ (wakeLine s).scan = s.scan ∧
    (wakeLine s).pending = s.pending := by
  unfold wakeLine
  split <;> simp

@[simp] theorem oscillatorReady_frame (s : State) :
    (oscillatorReady s).now = s.now ∧ (oscillatorReady s).tables = s.tables ∧
    (oscillatorReady s).control = s.control ∧ (oscillatorReady s).slots = s.slots ∧
    (oscillatorReady s).gauges = s.gauges ∧ (oscillatorReady s).telltale = s.telltale ∧
    (oscillatorReady s).chime = s.chime ∧ (oscillatorReady s).readout = s.readout ∧
    (oscillatorReady s).driver = s.driver ∧ (oscillatorReady s).distance = s.distance ∧
    (oscillatorReady s).store = s.store ∧ (oscillatorReady s).roster = s.roster ∧
    (oscillatorReady s).monitor = s.monitor ∧ (oscillatorReady s).service = s.service ∧
    (oscillatorReady s).reports = s.reports ∧ (oscillatorReady s).scan = s.scan ∧
    (oscillatorReady s).pending = s.pending := by
  unfold oscillatorReady
  split <;> simp

@[simp] theorem afterOutcome_frame (o : TxOutcome) (s : State) :
    (afterOutcome o s).now = s.now ∧ (afterOutcome o s).tables = s.tables ∧
    (afterOutcome o s).control = s.control ∧ (afterOutcome o s).slots = s.slots ∧
    (afterOutcome o s).gauges = s.gauges ∧ (afterOutcome o s).telltale = s.telltale ∧
    (afterOutcome o s).chime = s.chime ∧ (afterOutcome o s).readout = s.readout ∧
    (afterOutcome o s).driver = s.driver ∧ (afterOutcome o s).distance = s.distance ∧
    (afterOutcome o s).store = s.store ∧ (afterOutcome o s).roster = s.roster ∧
    (afterOutcome o s).monitor = s.monitor ∧ (afterOutcome o s).service = s.service ∧
    (afterOutcome o s).reports = s.reports ∧ (afterOutcome o s).scan = s.scan ∧
    (afterOutcome o s).pending = s.pending := by
  cases o <;> simp only [afterOutcome] <;> (try split) <;> simp

@[simp] theorem endTransmission_frame (o : TxOutcome) (s : State) :
    (endTransmission o s).now = s.now ∧ (endTransmission o s).tables = s.tables ∧
    (endTransmission o s).control = s.control ∧ (endTransmission o s).slots = s.slots ∧
    (endTransmission o s).gauges = s.gauges ∧ (endTransmission o s).telltale = s.telltale ∧
    (endTransmission o s).chime = s.chime ∧ (endTransmission o s).readout = s.readout ∧
    (endTransmission o s).driver = s.driver ∧ (endTransmission o s).distance = s.distance ∧
    (endTransmission o s).store = s.store ∧ (endTransmission o s).scan = s.scan ∧
    (endTransmission o s).pending = s.pending := by
  simp only [endTransmission]
  repeat' split
  all_goals simp

@[simp] theorem endMuting_frame (s : State) :
    (endMuting s).now = s.now ∧ (endMuting s).tables = s.tables ∧ (endMuting s).control = s.control ∧
    (endMuting s).slots = s.slots ∧ (endMuting s).gauges = s.gauges ∧
    (endMuting s).telltale = s.telltale ∧ (endMuting s).chime = s.chime ∧
    (endMuting s).readout = s.readout ∧ (endMuting s).driver = s.driver ∧
    (endMuting s).distance = s.distance ∧ (endMuting s).store = s.store ∧
    (endMuting s).roster = s.roster ∧ (endMuting s).monitor = s.monitor ∧
    (endMuting s).service = s.service ∧ (endMuting s).reports = s.reports ∧
    (endMuting s).scan = s.scan ∧ (endMuting s).pending = s.pending := by
  simp [endMuting]

@[simp] theorem peersSilent_frame (s : State) :
    (peersSilent s).now = s.now ∧ (peersSilent s).tables = s.tables ∧
    (peersSilent s).control = s.control ∧ (peersSilent s).slots = s.slots ∧
    (peersSilent s).gauges = s.gauges ∧ (peersSilent s).telltale = s.telltale ∧
    (peersSilent s).chime = s.chime ∧ (peersSilent s).readout = s.readout ∧
    (peersSilent s).driver = s.driver ∧ (peersSilent s).distance = s.distance ∧
    (peersSilent s).store = s.store ∧ (peersSilent s).roster = s.roster ∧
    (peersSilent s).monitor = s.monitor ∧ (peersSilent s).service = s.service ∧
    (peersSilent s).reports = s.reports ∧ (peersSilent s).scan = s.scan ∧
    (peersSilent s).pending = s.pending := by
  simp [peersSilent]

@[simp] theorem deliverSystem_frame (topic sender : Nat) (payload : List Byte) (s : State) :
    (deliverSystem topic sender payload s).now = s.now ∧
    (deliverSystem topic sender payload s).tables = s.tables ∧
    (deliverSystem topic sender payload s).control = s.control ∧
    (deliverSystem topic sender payload s).slots = s.slots ∧
    (deliverSystem topic sender payload s).gauges = s.gauges ∧
    (deliverSystem topic sender payload s).telltale = s.telltale ∧
    (deliverSystem topic sender payload s).chime = s.chime ∧
    (deliverSystem topic sender payload s).distance = s.distance ∧
    (deliverSystem topic sender payload s).store = s.store ∧
    (deliverSystem topic sender payload s).scan = s.scan ∧
    (deliverSystem topic sender payload s).pending = s.pending := by
  unfold deliverSystem
  repeat' split
  all_goals simp

end Sys2Proof.Machine
end

