-- ==== Sys2Proof/Laws/FramesControl.lean ====
section
/-! SUPPORT. What the State Controller, the buttons and the end of every command leave unchanged. -/

namespace Sys2Proof.Machine

open Sys2Proof

@[simp] theorem startControl_frame (s : State) :
    (startControl s).now = s.now ∧ (startControl s).tables = s.tables ∧ (startControl s).line = s.line ∧
    (startControl s).slots = s.slots ∧ (startControl s).gauges = s.gauges ∧
    (startControl s).telltale = s.telltale ∧ (startControl s).chime = s.chime ∧
    (startControl s).readout = s.readout ∧ (startControl s).driver = s.driver ∧
    (startControl s).distance = s.distance ∧ (startControl s).store = s.store ∧
    (startControl s).roster = s.roster ∧ (startControl s).monitor = s.monitor ∧
    (startControl s).service = s.service ∧ (startControl s).reports = s.reports ∧
    (startControl s).scan = s.scan ∧ (startControl s).pending = s.pending := by
  simp [startControl]

@[simp] theorem startReadout_frame (s : State) :
    (startReadout s).now = s.now ∧ (startReadout s).tables = s.tables ∧
    (startReadout s).control = s.control ∧ (startReadout s).line = s.line ∧
    (startReadout s).slots = s.slots ∧ (startReadout s).gauges = s.gauges ∧
    (startReadout s).telltale = s.telltale ∧ (startReadout s).chime = s.chime ∧
    (startReadout s).driver = s.driver ∧ (startReadout s).distance = s.distance ∧
    (startReadout s).store = s.store ∧ (startReadout s).roster = s.roster ∧
    (startReadout s).service = s.service ∧ (startReadout s).scan = s.scan ∧
    (startReadout s).pending = s.pending := by
  simp [startReadout]

@[simp] theorem enterStart_frame (s : State) :
    (enterStart s).now = s.now ∧ (enterStart s).tables = s.tables ∧ (enterStart s).slots = s.slots ∧
    (enterStart s).driver = s.driver ∧ (enterStart s).distance = s.distance ∧
    (enterStart s).store = s.store ∧ (enterStart s).scan = s.scan ∧ (enterStart s).pending = s.pending := by
  simp [enterStart]

@[simp] theorem pageHome_frame (s : State) :
    (pageHome s).now = s.now ∧ (pageHome s).tables = s.tables ∧ (pageHome s).control = s.control ∧
    (pageHome s).line = s.line ∧ (pageHome s).slots = s.slots ∧ (pageHome s).gauges = s.gauges ∧
    (pageHome s).telltale = s.telltale ∧ (pageHome s).chime = s.chime ∧ (pageHome s).driver = s.driver ∧
    (pageHome s).distance = s.distance ∧ (pageHome s).store = s.store ∧ (pageHome s).roster = s.roster ∧
    (pageHome s).monitor = s.monitor ∧ (pageHome s).service = s.service ∧
    (pageHome s).reports = s.reports ∧ (pageHome s).scan = s.scan ∧ (pageHome s).pending = s.pending := by
  simp [pageHome]

@[simp] theorem enterAfterRun_frame (s : State) :
    (enterAfterRun s).now = s.now ∧ (enterAfterRun s).tables = s.tables ∧
    (enterAfterRun s).line = s.line ∧ (enterAfterRun s).slots = s.slots ∧
    (enterAfterRun s).driver = s.driver ∧ (enterAfterRun s).distance = s.distance ∧
    (enterAfterRun s).store = s.store ∧ (enterAfterRun s).roster = s.roster ∧
    (enterAfterRun s).monitor = s.monitor ∧ (enterAfterRun s).scan = s.scan ∧
    (enterAfterRun s).pending = s.pending := by
  simp [enterAfterRun]

@[simp] theorem enterListening_frame (s : State) :
    (enterListening s).now = s.now ∧ (enterListening s).tables = s.tables ∧
    (enterListening s).slots = s.slots ∧ (enterListening s).gauges = s.gauges ∧
    (enterListening s).chime = s.chime ∧ (enterListening s).driver = s.driver ∧
    (enterListening s).distance = s.distance ∧ (enterListening s).store = s.store ∧
    (enterListening s).scan = s.scan ∧ (enterListening s).pending = s.pending := by
  simp [enterListening]

@[simp] theorem endAfterRun_frame (s : State) :
    (endAfterRun s).now = s.now ∧ (endAfterRun s).tables = s.tables ∧ (endAfterRun s).slots = s.slots ∧
    (endAfterRun s).gauges = s.gauges ∧ (endAfterRun s).chime = s.chime ∧
    (endAfterRun s).driver = s.driver ∧ (endAfterRun s).scan = s.scan ∧
    (endAfterRun s).pending = s.pending := by
  simp [endAfterRun]

@[simp] theorem wakeToListening_frame (s : State) :
    (wakeToListening s).now = s.now ∧ (wakeToListening s).tables = s.tables ∧
    (wakeToListening s).slots = s.slots ∧ (wakeToListening s).gauges = s.gauges ∧
    (wakeToListening s).telltale = s.telltale ∧ (wakeToListening s).chime = s.chime ∧
    (wakeToListening s).readout = s.readout ∧ (wakeToListening s).driver = s.driver ∧
    (wakeToListening s).distance = s.distance ∧ (wakeToListening s).store = s.store ∧
    (wakeToListening s).scan = s.scan ∧ (wakeToListening s).pending = s.pending := by
  simp [wakeToListening]

@[simp] theorem wakeByLine_frame (s : State) :
    (wakeByLine s).now = s.now ∧ (wakeByLine s).tables = s.tables ∧ (wakeByLine s).slots = s.slots ∧
    (wakeByLine s).gauges = s.gauges ∧ (wakeByLine s).telltale = s.telltale ∧
    (wakeByLine s).chime = s.chime ∧ (wakeByLine s).readout = s.readout ∧
    (wakeByLine s).driver = s.driver ∧ (wakeByLine s).distance = s.distance ∧
    (wakeByLine s).store = s.store ∧ (wakeByLine s).scan = s.scan ∧ (wakeByLine s).pending = s.pending := by
  unfold wakeByLine
  split <;> simp

@[simp] theorem wakeByPage_frame (s : State) :
    (wakeByPage s).now = s.now ∧ (wakeByPage s).tables = s.tables ∧ (wakeByPage s).slots = s.slots ∧
    (wakeByPage s).gauges = s.gauges ∧ (wakeByPage s).telltale = s.telltale ∧
    (wakeByPage s).chime = s.chime ∧ (wakeByPage s).driver = s.driver ∧
    (wakeByPage s).distance = s.distance ∧ (wakeByPage s).store = s.store ∧
    (wakeByPage s).scan = s.scan ∧ (wakeByPage s).pending = s.pending := by
  simp [wakeByPage]

@[simp] theorem wakeByIgnition_frame (s : State) :
    (wakeByIgnition s).now = s.now ∧ (wakeByIgnition s).tables = s.tables ∧
    (wakeByIgnition s).slots = s.slots ∧ (wakeByIgnition s).driver = s.driver ∧
    (wakeByIgnition s).distance = s.distance ∧ (wakeByIgnition s).store = s.store ∧
    (wakeByIgnition s).scan = s.scan ∧ (wakeByIgnition s).pending = s.pending := by
  simp [wakeByIgnition]

@[simp] theorem trySleep_frame (s : State) :
    (trySleep s).now = s.now ∧ (trySleep s).tables = s.tables ∧ (trySleep s).slots = s.slots ∧
    (trySleep s).gauges = s.gauges ∧ (trySleep s).telltale = s.telltale ∧ (trySleep s).chime = s.chime ∧
    (trySleep s).readout = s.readout ∧ (trySleep s).driver = s.driver ∧
    (trySleep s).distance = s.distance ∧ (trySleep s).store = s.store ∧
    (trySleep s).monitor = s.monitor ∧ (trySleep s).reports = s.reports ∧ (trySleep s).scan = s.scan ∧
    (trySleep s).pending = s.pending := by
  unfold trySleep
  split <;> simp

@[simp] theorem ignitionOn_frame (s : State) :
    (ignitionOn s).now = s.now ∧ (ignitionOn s).tables = s.tables ∧ (ignitionOn s).slots = s.slots ∧
    (ignitionOn s).driver = s.driver ∧ (ignitionOn s).distance = s.distance ∧
    (ignitionOn s).store = s.store ∧ (ignitionOn s).scan = s.scan ∧ (ignitionOn s).pending = s.pending := by
  unfold ignitionOn
  split <;> simp

@[simp] theorem ignitionOff_frame (s : State) :
    (ignitionOff s).now = s.now ∧ (ignitionOff s).tables = s.tables ∧ (ignitionOff s).line = s.line ∧
    (ignitionOff s).slots = s.slots ∧ (ignitionOff s).driver = s.driver ∧
    (ignitionOff s).distance = s.distance ∧ (ignitionOff s).store = s.store ∧
    (ignitionOff s).roster = s.roster ∧ (ignitionOff s).monitor = s.monitor ∧
    (ignitionOff s).scan = s.scan ∧ (ignitionOff s).pending = s.pending := by
  unfold ignitionOff
  split <;> simp

@[simp] theorem finishLoading_frame (s : State) :
    (finishLoading s).now = s.now ∧ (finishLoading s).tables = s.tables ∧
    (finishLoading s).slots = s.slots ∧ (finishLoading s).chime = s.chime ∧
    (finishLoading s).store = s.store ∧ (finishLoading s).roster = s.roster ∧
    (finishLoading s).scan = s.scan ∧ (finishLoading s).pending = s.pending := by
  simp only [finishLoading]
  repeat' split
  all_goals simp

@[simp] theorem endLoading_frame (s : State) :
    (endLoading s).now = s.now ∧ (endLoading s).tables = s.tables ∧ (endLoading s).slots = s.slots ∧
    (endLoading s).store = s.store ∧ (endLoading s).scan = s.scan ∧ (endLoading s).pending = s.pending := by
  simp only [endLoading]
  split <;> simp

@[simp] theorem tryEndLoading_frame (s : State) :
    (tryEndLoading s).now = s.now ∧ (tryEndLoading s).tables = s.tables ∧
    (tryEndLoading s).slots = s.slots ∧ (tryEndLoading s).store = s.store ∧
    (tryEndLoading s).scan = s.scan ∧ (tryEndLoading s).pending = s.pending := by
  unfold tryEndLoading
  split <;> simp

@[simp] theorem imageRead_frame (area : List Byte) (s : State) :
    (imageRead area s).now = s.now ∧ (imageRead area s).line = s.line ∧
    (imageRead area s).slots = s.slots ∧ (imageRead area s).gauges = s.gauges ∧
    (imageRead area s).chime = s.chime ∧ (imageRead area s).readout = s.readout ∧
    (imageRead area s).driver = s.driver ∧ (imageRead area s).distance = s.distance ∧
    (imageRead area s).monitor = s.monitor ∧ (imageRead area s).service = s.service ∧
    (imageRead area s).reports = s.reports ∧ (imageRead area s).scan = s.scan ∧
    (imageRead area s).pending = s.pending := by
  unfold imageRead
  split <;> simp

@[simp] theorem restoreDone_frame (readable : Bool) (s : State) :
    (restoreDone readable s).now = s.now ∧ (restoreDone readable s).tables = s.tables ∧
    (restoreDone readable s).slots = s.slots ∧ (restoreDone readable s).scan = s.scan ∧
    (restoreDone readable s).pending = s.pending := by
  simp [restoreDone]

@[simp] theorem restoreSlot_frame (bytes : List Byte) (s : State) :
    (restoreSlot bytes s).now = s.now ∧ (restoreSlot bytes s).tables = s.tables ∧
    (restoreSlot bytes s).slots = s.slots ∧ (restoreSlot bytes s).scan = s.scan ∧
    (restoreSlot bytes s).pending = s.pending := by
  simp only [restoreSlot]
  repeat' split
  all_goals simp

@[simp] theorem loadingReadFailed_frame (s : State) :
    (loadingReadFailed s).now = s.now ∧ (loadingReadFailed s).slots = s.slots ∧
    (loadingReadFailed s).scan = s.scan ∧ (loadingReadFailed s).pending = s.pending := by
  unfold loadingReadFailed
  repeat' split
  all_goals simp

@[simp] theorem debounceIgnition_frame (s : State) :
    (debounceIgnition s).now = s.now ∧ (debounceIgnition s).tables = s.tables ∧
    (debounceIgnition s).slots = s.slots ∧ (debounceIgnition s).store = s.store ∧
    (debounceIgnition s).scan = s.scan ∧ (debounceIgnition s).pending = s.pending := by
  simp only [debounceIgnition]
  repeat' split
  all_goals simp

@[simp] theorem ignitionInput_frame (level : Bool) (s : State) :
    (ignitionInput level s).now = s.now ∧ (ignitionInput level s).tables = s.tables ∧
    (ignitionInput level s).line = s.line ∧ (ignitionInput level s).slots = s.slots ∧
    (ignitionInput level s).gauges = s.gauges ∧ (ignitionInput level s).telltale = s.telltale ∧
    (ignitionInput level s).chime = s.chime ∧ (ignitionInput level s).readout = s.readout ∧
    (ignitionInput level s).driver = s.driver ∧ (ignitionInput level s).distance = s.distance ∧
    (ignitionInput level s).store = s.store ∧ (ignitionInput level s).roster = s.roster ∧
    (ignitionInput level s).monitor = s.monitor ∧ (ignitionInput level s).service = s.service ∧
    (ignitionInput level s).reports = s.reports ∧ (ignitionInput level s).scan = s.scan ∧
    (ignitionInput level s).pending = s.pending := by
  unfold ignitionInput
  split <;> simp

@[simp] theorem supplyLowEvent_frame (s : State) :
    (supplyLowEvent s).now = s.now ∧ (supplyLowEvent s).tables = s.tables ∧
    (supplyLowEvent s).line = s.line ∧ (supplyLowEvent s).slots = s.slots ∧
    (supplyLowEvent s).gauges = s.gauges ∧ (supplyLowEvent s).telltale = s.telltale ∧
    (supplyLowEvent s).chime = s.chime ∧ (supplyLowEvent s).driver = s.driver ∧
    (supplyLowEvent s).roster = s.roster ∧ (supplyLowEvent s).service = s.service ∧
    (supplyLowEvent s).scan = s.scan ∧ (supplyLowEvent s).pending = s.pending := by
  simp only [supplyLowEvent]
  split <;> simp

@[simp] theorem statusExpiry_frame (due : Nat) (s : State) :
    (statusExpiry due s).now = s.now ∧ (statusExpiry due s).tables = s.tables ∧
    (statusExpiry due s).slots = s.slots ∧ (statusExpiry due s).gauges = s.gauges ∧
    (statusExpiry due s).telltale = s.telltale ∧ (statusExpiry due s).chime = s.chime ∧
    (statusExpiry due s).readout = s.readout ∧ (statusExpiry due s).driver = s.driver ∧
    (statusExpiry due s).distance = s.distance ∧ (statusExpiry due s).store = s.store ∧
    (statusExpiry due s).scan = s.scan ∧ (statusExpiry due s).pending = s.pending := by
  simp [statusExpiry]

@[simp] theorem distanceReportExpiry_frame (due : Nat) (s : State) :
    (distanceReportExpiry due s).now = s.now ∧ (distanceReportExpiry due s).tables = s.tables ∧
    (distanceReportExpiry due s).slots = s.slots ∧ (distanceReportExpiry due s).gauges = s.gauges ∧
    (distanceReportExpiry due s).telltale = s.telltale ∧ (distanceReportExpiry due s).chime = s.chime ∧
    (distanceReportExpiry due s).readout = s.readout ∧ (distanceReportExpiry due s).driver = s.driver ∧
    (distanceReportExpiry due s).distance = s.distance ∧ (distanceReportExpiry due s).store = s.store ∧
    (distanceReportExpiry due s).scan = s.scan ∧ (distanceReportExpiry due s).pending = s.pending := by
  simp [distanceReportExpiry]

@[simp] theorem settle_frame (n : Nat) (s : State) :
    (settle n s).now = s.now ∧ (settle n s).tables = s.tables ∧ (settle n s).control = s.control ∧
    (settle n s).line = s.line ∧ (settle n s).slots = s.slots ∧ (settle n s).driver = s.driver ∧
    (settle n s).distance = s.distance ∧ (settle n s).store = s.store ∧ (settle n s).roster = s.roster ∧
    (settle n s).scan = s.scan ∧ (settle n s).pending = s.pending := by
  induction n generalizing s with
  | zero => simp [settle]
  | succ n ih =>
    simp only [settle]
    split <;> simp [ih]

@[simp] theorem finish_frame (s : State) :
    (finish s).now = s.now ∧ (finish s).tables = s.tables ∧ (finish s).slots = s.slots ∧
    (finish s).driver = s.driver ∧ (finish s).distance = s.distance ∧ (finish s).store = s.store ∧
    (finish s).scan = s.scan ∧ (finish s).pending = s.pending := by
  simp [finish]

@[simp] theorem putButton_frame (b : Button) (x : ButtonInput) (s : State) :
    (putButton b x s).now = s.now ∧ (putButton b x s).tables = s.tables ∧
    (putButton b x s).control = s.control ∧ (putButton b x s).line = s.line ∧
    (putButton b x s).slots = s.slots ∧ (putButton b x s).gauges = s.gauges ∧
    (putButton b x s).telltale = s.telltale ∧ (putButton b x s).chime = s.chime ∧
    (putButton b x s).driver = s.driver ∧ (putButton b x s).distance = s.distance ∧
    (putButton b x s).store = s.store ∧ (putButton b x s).roster = s.roster ∧
    (putButton b x s).monitor = s.monitor ∧ (putButton b x s).service = s.service ∧
    (putButton b x s).reports = s.reports ∧ (putButton b x s).scan = s.scan ∧
    (putButton b x s).pending = s.pending := by
  cases b <;> simp [putButton]

@[simp] theorem buttonInput_frame (b : Button) (raw : Bool) (s : State) :
    (buttonInput b raw s).now = s.now ∧ (buttonInput b raw s).tables = s.tables ∧
    (buttonInput b raw s).control = s.control ∧ (buttonInput b raw s).line = s.line ∧
    (buttonInput b raw s).slots = s.slots ∧ (buttonInput b raw s).gauges = s.gauges ∧
    (buttonInput b raw s).telltale = s.telltale ∧ (buttonInput b raw s).chime = s.chime ∧
    (buttonInput b raw s).driver = s.driver ∧ (buttonInput b raw s).distance = s.distance ∧
    (buttonInput b raw s).store = s.store ∧ (buttonInput b raw s).roster = s.roster ∧
    (buttonInput b raw s).monitor = s.monitor ∧ (buttonInput b raw s).service = s.service ∧
    (buttonInput b raw s).reports = s.reports ∧ (buttonInput b raw s).scan = s.scan ∧
    (buttonInput b raw s).pending = s.pending := by
  unfold buttonInput
  split <;> simp

@[simp] theorem restartWindow_frame (s : State) :
    (restartWindow s).now = s.now ∧ (restartWindow s).tables = s.tables ∧
    (restartWindow s).control = s.control ∧ (restartWindow s).line = s.line ∧
    (restartWindow s).slots = s.slots ∧ (restartWindow s).gauges = s.gauges ∧
    (restartWindow s).telltale = s.telltale ∧ (restartWindow s).chime = s.chime ∧
    (restartWindow s).driver = s.driver ∧ (restartWindow s).distance = s.distance ∧
    (restartWindow s).store = s.store ∧ (restartWindow s).roster = s.roster ∧
    (restartWindow s).monitor = s.monitor ∧ (restartWindow s).service = s.service ∧
    (restartWindow s).reports = s.reports ∧ (restartWindow s).scan = s.scan ∧
    (restartWindow s).pending = s.pending := by
  simp [restartWindow]

@[simp] theorem ackEvent_frame (s : State) :
    (ackEvent s).now = s.now ∧ (ackEvent s).tables = s.tables ∧ (ackEvent s).control = s.control ∧
    (ackEvent s).line = s.line ∧ (ackEvent s).slots = s.slots ∧ (ackEvent s).gauges = s.gauges ∧
    (ackEvent s).distance = s.distance ∧ (ackEvent s).store = s.store ∧
    (ackEvent s).monitor = s.monitor ∧ (ackEvent s).service = s.service ∧
    (ackEvent s).reports = s.reports ∧ (ackEvent s).scan = s.scan ∧ (ackEvent s).pending = s.pending := by
  simp [ackEvent]

@[simp] theorem ackShort_frame (s : State) :
    (ackShort s).now = s.now ∧ (ackShort s).tables = s.tables ∧ (ackShort s).control = s.control ∧
    (ackShort s).line = s.line ∧ (ackShort s).slots = s.slots ∧ (ackShort s).gauges = s.gauges ∧
    (ackShort s).distance = s.distance ∧ (ackShort s).store = s.store ∧
    (ackShort s).monitor = s.monitor ∧ (ackShort s).service = s.service ∧
    (ackShort s).reports = s.reports ∧ (ackShort s).scan = s.scan ∧ (ackShort s).pending = s.pending := by
  unfold ackShort
  repeat' split
  all_goals simp

@[simp] theorem advancePage_frame (s : State) :
    (advancePage s).now = s.now ∧ (advancePage s).tables = s.tables ∧
    (advancePage s).control = s.control ∧ (advancePage s).line = s.line ∧
    (advancePage s).slots = s.slots ∧ (advancePage s).gauges = s.gauges ∧
    (advancePage s).telltale = s.telltale ∧ (advancePage s).chime = s.chime ∧
    (advancePage s).driver = s.driver ∧ (advancePage s).distance = s.distance ∧
    (advancePage s).store = s.store ∧ (advancePage s).roster = s.roster ∧
    (advancePage s).monitor = s.monitor ∧ (advancePage s).service = s.service ∧
    (advancePage s).reports = s.reports ∧ (advancePage s).scan = s.scan ∧
    (advancePage s).pending = s.pending := by
  unfold advancePage
  split <;> simp

@[simp] theorem pageShort_frame (s : State) :
    (pageShort s).now = s.now ∧ (pageShort s).tables = s.tables ∧ (pageShort s).control = s.control ∧
    (pageShort s).line = s.line ∧ (pageShort s).slots = s.slots ∧ (pageShort s).gauges = s.gauges ∧
    (pageShort s).telltale = s.telltale ∧ (pageShort s).chime = s.chime ∧
    (pageShort s).driver = s.driver ∧ (pageShort s).distance = s.distance ∧
    (pageShort s).store = s.store ∧ (pageShort s).roster = s.roster ∧
    (pageShort s).monitor = s.monitor ∧ (pageShort s).service = s.service ∧
    (pageShort s).reports = s.reports ∧ (pageShort s).scan = s.scan ∧ (pageShort s).pending = s.pending := by
  unfold pageShort
  repeat' split
  all_goals simp

@[simp] theorem resetShownTrip_frame (s : State) :
    (resetShownTrip s).now = s.now ∧ (resetShownTrip s).tables = s.tables ∧
    (resetShownTrip s).control = s.control ∧ (resetShownTrip s).line = s.line ∧
    (resetShownTrip s).slots = s.slots ∧ (resetShownTrip s).gauges = s.gauges ∧
    (resetShownTrip s).telltale = s.telltale ∧ (resetShownTrip s).chime = s.chime ∧
    (resetShownTrip s).readout = s.readout ∧ (resetShownTrip s).driver = s.driver ∧
    (resetShownTrip s).store = s.store ∧ (resetShownTrip s).roster = s.roster ∧
    (resetShownTrip s).monitor = s.monitor ∧ (resetShownTrip s).service = s.service ∧
    (resetShownTrip s).reports = s.reports ∧ (resetShownTrip s).scan = s.scan ∧
    (resetShownTrip s).pending = s.pending := by
  unfold resetShownTrip
  repeat' split
  all_goals simp

@[simp] theorem tripLong_frame (s : State) :
    (tripLong s).now = s.now ∧ (tripLong s).tables = s.tables ∧ (tripLong s).control = s.control ∧
    (tripLong s).line = s.line ∧ (tripLong s).slots = s.slots ∧ (tripLong s).gauges = s.gauges ∧
    (tripLong s).telltale = s.telltale ∧ (tripLong s).chime = s.chime ∧
    (tripLong s).readout = s.readout ∧ (tripLong s).driver = s.driver ∧ (tripLong s).store = s.store ∧
    (tripLong s).roster = s.roster ∧ (tripLong s).monitor = s.monitor ∧
    (tripLong s).service = s.service ∧ (tripLong s).reports = s.reports ∧ (tripLong s).scan = s.scan ∧
    (tripLong s).pending = s.pending := by
  unfold tripLong
  split <;> simp

@[simp] theorem shortPress_frame (b : Button) (s : State) :
    (shortPress b s).now = s.now ∧ (shortPress b s).tables = s.tables ∧
    (shortPress b s).control = s.control ∧ (shortPress b s).line = s.line ∧
    (shortPress b s).slots = s.slots ∧ (shortPress b s).gauges = s.gauges ∧
    (shortPress b s).distance = s.distance ∧ (shortPress b s).store = s.store ∧
    (shortPress b s).monitor = s.monitor ∧ (shortPress b s).service = s.service ∧
    (shortPress b s).reports = s.reports ∧ (shortPress b s).scan = s.scan ∧
    (shortPress b s).pending = s.pending := by
  cases b <;> simp [shortPress]

@[simp] theorem longPress_frame (b : Button) (s : State) :
    (longPress b s).now = s.now ∧ (longPress b s).tables = s.tables ∧
    (longPress b s).control = s.control ∧ (longPress b s).line = s.line ∧
    (longPress b s).slots = s.slots ∧ (longPress b s).gauges = s.gauges ∧
    (longPress b s).telltale = s.telltale ∧ (longPress b s).chime = s.chime ∧
    (longPress b s).readout = s.readout ∧ (longPress b s).driver = s.driver ∧
    (longPress b s).store = s.store ∧ (longPress b s).roster = s.roster ∧
    (longPress b s).monitor = s.monitor ∧ (longPress b s).service = s.service ∧
    (longPress b s).reports = s.reports ∧ (longPress b s).scan = s.scan ∧
    (longPress b s).pending = s.pending := by
  cases b <;> simp [longPress]

@[simp] theorem buttonPressed_frame (b : Button) (s : State) :
    (buttonPressed b s).now = s.now ∧ (buttonPressed b s).tables = s.tables ∧
    (buttonPressed b s).slots = s.slots ∧ (buttonPressed b s).gauges = s.gauges ∧
    (buttonPressed b s).telltale = s.telltale ∧ (buttonPressed b s).chime = s.chime ∧
    (buttonPressed b s).driver = s.driver ∧ (buttonPressed b s).distance = s.distance ∧
    (buttonPressed b s).store = s.store ∧ (buttonPressed b s).scan = s.scan ∧
    (buttonPressed b s).pending = s.pending := by
  unfold buttonPressed
  split <;> simp

@[simp] theorem buttonReleased_frame (b : Button) (s : State) :
    (buttonReleased b s).now = s.now ∧ (buttonReleased b s).tables = s.tables ∧
    (buttonReleased b s).control = s.control ∧ (buttonReleased b s).line = s.line ∧
    (buttonReleased b s).slots = s.slots ∧ (buttonReleased b s).gauges = s.gauges ∧
    (buttonReleased b s).distance = s.distance ∧ (buttonReleased b s).store = s.store ∧
    (buttonReleased b s).monitor = s.monitor ∧ (buttonReleased b s).service = s.service ∧
    (buttonReleased b s).reports = s.reports ∧ (buttonReleased b s).scan = s.scan ∧
    (buttonReleased b s).pending = s.pending := by
  simp only [buttonReleased]
  split <;> simp

@[simp] theorem debounceButton_frame (b : Button) (s : State) :
    (debounceButton b s).now = s.now ∧ (debounceButton b s).tables = s.tables ∧
    (debounceButton b s).slots = s.slots ∧ (debounceButton b s).gauges = s.gauges ∧
    (debounceButton b s).distance = s.distance ∧ (debounceButton b s).store = s.store ∧
    (debounceButton b s).scan = s.scan ∧ (debounceButton b s).pending = s.pending := by
  simp only [debounceButton]
  repeat' split
  all_goals simp

@[simp] theorem longPressExpired_frame (b : Button) (s : State) :
    (longPressExpired b s).now = s.now ∧ (longPressExpired b s).tables = s.tables ∧
    (longPressExpired b s).control = s.control ∧ (longPressExpired b s).line = s.line ∧
    (longPressExpired b s).slots = s.slots ∧ (longPressExpired b s).gauges = s.gauges ∧
    (longPressExpired b s).telltale = s.telltale ∧ (longPressExpired b s).chime = s.chime ∧
    (longPressExpired b s).driver = s.driver ∧ (longPressExpired b s).store = s.store ∧
    (longPressExpired b s).roster = s.roster ∧ (longPressExpired b s).monitor = s.monitor ∧
    (longPressExpired b s).service = s.service ∧ (longPressExpired b s).reports = s.reports ∧
    (longPressExpired b s).scan = s.scan ∧ (longPressExpired b s).pending = s.pending := by
  simp only [longPressExpired]
  split <;> simp

@[simp] theorem closeWindow_frame (s : State) :
    (closeWindow s).now = s.now ∧ (closeWindow s).tables = s.tables ∧
    (closeWindow s).control = s.control ∧ (closeWindow s).line = s.line ∧
    (closeWindow s).slots = s.slots ∧ (closeWindow s).gauges = s.gauges ∧
    (closeWindow s).telltale = s.telltale ∧ (closeWindow s).chime = s.chime ∧
    (closeWindow s).driver = s.driver ∧ (closeWindow s).distance = s.distance ∧
    (closeWindow s).store = s.store ∧ (closeWindow s).roster = s.roster ∧
    (closeWindow s).monitor = s.monitor ∧ (closeWindow s).service = s.service ∧
    (closeWindow s).reports = s.reports ∧ (closeWindow s).scan = s.scan ∧
    (closeWindow s).pending = s.pending := by
  simp [closeWindow]

end Sys2Proof.Machine
end

