-- ==== Sys2Proof/Laws/Delivery.lean ====
section
/-! SUPPORT. No report to the Telltale Unit is left undelivered: the rounds that the end of a command allows
are enough for the reports that wait and for all they can give rise to. -/

namespace Sys2Proof.Machine

open Sys2Proof

/-! ## What is still owed -/

/-- How many more changes of its exceedance an attribute can tell of while it is only counted up. -/
def Attribute.changesLeft (a : Attribute) (c : HealthConfig) : Nat :=
  if a.exceeded then (if (a.counted c).exceeded then 0 else 2) else 1

/-- The changes that all ten attributes can still tell of. -/
def healthLeft (s : State) : Nat :=
  ((List.finRange 10).map (fun h : Fin 10 => s.monitor[h].changesLeft s.tables.health[h])).sum

/-- The changes of gauges' faults that the end of an override in force can tell of. -/
def overrideLeft (o : Override) : Nat := if o.inForce then 6 else 0

/-- The rounds of delivery that the waiting reports and all they give rise to can take. -/
def owed (s : State) : Nat := s.reports.length + healthLeft s + overrideLeft s.service.override

/-- What leaves the reports, the monitor, the weights and the override alone owes no more. -/
theorem owed_congr {s t : State} (hr : t.reports = s.reports) (hm : t.monitor = s.monitor)
    (ht : t.tables = s.tables) (ho : t.service.override.inForce = s.service.override.inForce) :
    owed t = owed s := by
  simp only [owed, healthLeft, overrideLeft, hr, hm, ht, ho]

/-- An exceedance that more counts have brought about is not ended by further ones. -/
theorem exceeds_mono {c : HealthConfig} {r r' : Nat} (h : r ≤ r')
    (he : exceedsThreshold c.threshold (normalizedValue r c.weight) = true) :
    exceedsThreshold c.threshold (normalizedValue r' c.weight) = true := by
  have hd : r * c.weight / 16 ≤ r' * c.weight / 16 := Nat.div_le_div_right (Nat.mul_le_mul_right _ h)
  unfold exceedsThreshold normalizedValue at he ⊢
  rw [Bool.and_eq_true, decide_eq_true_eq, decide_eq_true_eq] at he ⊢
  revert hd he
  generalize r * c.weight / 16 = x
  generalize r' * c.weight / 16 = y
  omega

/-- A count that changes an exceedance leaves one change fewer to tell of; no count leaves more. -/
theorem counted_changesLeft (a : Attribute) (c : HealthConfig) :
    (a.counted c).changesLeft c + (if (a.counted c).exceeded = a.exceeded then 0 else 1)
      ≤ a.changesLeft c := by
  have hm : (a.counted c).exceeded = true → ((a.counted c).counted c).exceeded = true :=
    fun h => exceeds_mono (by simp only [Attribute.counted]; omega) h
  unfold Attribute.changesLeft
  cases h1 : (a.counted c).exceeded
  · cases h2 : a.exceeded <;> simp
  · cases h2 : a.exceeded <;> simp [hm h1]

/-- A sum of which no part grows, and one part shrinks by `d`, shrinks by `d`. -/
theorem sum_shrinks {α : Type} (l : List α) (f g : α → Nat) (x : α) (d : Nat) (hx : x ∈ l)
    (hd : f x + d ≤ g x) (h : ∀ y, f y ≤ g y) : (l.map f).sum + d ≤ (l.map g).sum := by
  have hle : ∀ l' : List α, (l'.map f).sum ≤ (l'.map g).sum := by
    intro l'
    induction l' with
    | nil => simp
    | cons y ys ih => simpa using Nat.add_le_add (h y) ih
  induction l with
  | nil => simp at hx
  | cons y ys ih =>
    simp only [List.map_cons, List.sum_cons]
    rcases List.mem_cons.1 hx with rfl | hx
    · have := hle ys; omega
    · have := ih hx; have := h y; omega

/-! ## What a report's delivery can give rise to -/

theorem owed_count (h : Fin 10) (s : State) : owed (count h s) ≤ owed s := by
  have key := counted_changesLeft s.monitor[h] s.tables.health[h]
  have hsum := sum_shrinks (List.finRange 10)
    (fun i : Fin 10 => (s.monitor.set h (s.monitor[h].counted s.tables.health[h]))[i].changesLeft
      s.tables.health[i])
    (fun i : Fin 10 => s.monitor[i].changesLeft s.tables.health[i]) h
    (if (s.monitor[h].counted s.tables.health[h]).exceeded = s.monitor[h].exceeded then 0 else 1)
    (List.mem_finRange h) (by simpa using key) (by
      intro i
      by_cases hi : i = h
      · subst hi
        have := key
        simp only [Fin.getElem_fin, Vector.getElem_set_self]
        simp only [Fin.getElem_fin] at this
        omega
      · have : h.val ≠ i.val := fun e => hi (Fin.ext e.symm)
        simp [this])
  simp only [count]
  split
  · next hc =>
    rw [if_pos hc] at hsum
    simp only [owed, healthLeft, State.setMonitor_reports, State.setMonitor_monitor,
      State.setMonitor_tables, State.setMonitor_service]
    exact Nat.add_le_add_right (Nat.add_le_add_left hsum _) _
  · next hc =>
    rw [if_neg hc] at hsum
    simp only [owed, healthLeft, tellSource, State.setReports_reports, State.setReports_monitor,
      State.setReports_tables, State.setReports_service, State.setMonitor_reports,
      State.setMonitor_monitor, State.setMonitor_tables, State.setMonitor_service, List.length_append,
      List.length_cons, List.length_nil]
    omega

theorem owed_setReadout (r : Readout) (s : State) : owed (s.setReadout r) = owed s :=
  owed_congr (State.setReadout_reports _ _) (State.setReadout_monitor _ _) (State.setReadout_tables _ _)
    (congrArg _ (congrArg _ (State.setReadout_service _ _)))
theorem owed_setChime (c : Chime) (s : State) : owed (s.setChime c) = owed s :=
  owed_congr (State.setChime_reports _ _) (State.setChime_monitor _ _) (State.setChime_tables _ _)
    (congrArg _ (congrArg _ (State.setChime_service _ _)))
theorem owed_setTelltale (t : Telltale) (s : State) : owed (s.setTelltale t) = owed s :=
  owed_congr (State.setTelltale_reports _ _) (State.setTelltale_monitor _ _)
    (State.setTelltale_tables _ _) (congrArg _ (congrArg _ (State.setTelltale_service _ _)))

theorem owed_count_setChime (h : Fin 10) (c : Chime) (s : State) : owed (count h (s.setChime c)) ≤ owed s :=
  (owed_count _ _).trans (Nat.le_of_eq (owed_setChime _ _))

theorem owed_count_setReadout (h : Fin 10) (r : Readout) (s : State) :
    owed (count h (s.setReadout r)) ≤ owed s :=
  (owed_count _ _).trans (Nat.le_of_eq (owed_setReadout _ _))

theorem owed_postChime (id : ChimeId) (g : Grade) (s : State) : owed (postChime id g s) ≤ owed s := by
  simp only [postChime]
  split
  · exact Nat.le_refl _
  split
  · exact Nat.le_of_eq (owed_setChime _ _)
  split
  · exact Nat.le_of_eq (owed_setChime _ _)
  split
  · exact owed_count _ _
  split
  · exact owed_count_setChime _ _ _
  split
  · exact owed_count _ _
  · exact owed_count_setChime _ _ _

theorem owed_postPopup (message : Nat) (cls : Grade) (nonLatched : Bool) (s : State) :
    owed (postPopup message cls nonLatched s) ≤ owed s := by
  simp only [postPopup]
  split
  · exact Nat.le_of_eq (owed_setReadout _ _)
  split
  · exact Nat.le_of_eq (owed_setReadout _ _)
  split
  · exact owed_count _ _
  split
  · exact owed_count_setReadout _ _ _
  split
  · exact owed_count _ _
  · exact owed_count_setReadout _ _ _

theorem owed_postDemand (output : Fin 32) (cls : LampClass) (index : Nat) (r : DemandRecord) (s : State) :
    owed (postDemand output cls index r s) ≤ owed s := by
  unfold postDemand
  split <;> split
  · exact (owed_postPopup _ _ _ _).trans (owed_postChime _ _ _)
  · exact owed_postChime _ _ _
  · exact owed_postPopup _ _ _ _
  · exact Nat.le_refl _

theorem owed_leaveDemand (output : Fin 32) (index : Nat) (r : DemandRecord) (s : State) :
    owed (leaveDemand output index r s) ≤ owed s :=
  Nat.le_of_eq (owed_congr (by simp) (by simp) (by simp) (by simp))

theorem owed_announce (c : DemandChange) (s : State) : owed (announce c s) ≤ owed s := by
  unfold announce
  repeat' split
  · exact owed_postDemand _ _ _ _ _
  · exact Nat.le_refl _
  · exact owed_leaveDemand _ _ _ _

/-- One gauge tells of at most one change of its fault at the end of the override. -/
theorem endGaugeOverride_reports (s : State) (g : Fin 6) :
    (endGaugeOverride s g).reports.length ≤ s.reports.length + 1 := by
  unfold endGaugeOverride
  split
  · simp only [enterCalled, putChannel]
    split <;> simp [tellSource]
  · omega

theorem endGaugesOverride_reports (s : State) :
    (endGaugesOverride s).reports.length ≤ s.reports.length + 6 := by
  simp only [endGaugesOverride, allGauges, List.foldl]
  have h := endGaugeOverride_reports
  exact (h _ 5).trans (Nat.succ_le_succ ((h _ 4).trans (Nat.succ_le_succ ((h _ 3).trans
    (Nat.succ_le_succ ((h _ 2).trans (Nat.succ_le_succ ((h _ 1).trans (Nat.succ_le_succ (h _ 0))))))))))

theorem owed_endOverride (s : State) : owed (endOverride s) ≤ owed s := by
  unfold endOverride
  split
  · next h =>
    generalize hu : endTelltaleOverride
      (putOverride { s.service.override with inForce := false, due := none } s) = u
    have hr : u.reports = s.reports := by rw [← hu]; simp
    have hm : u.monitor = s.monitor := by rw [← hu]; simp
    have ht : u.tables = s.tables := by rw [← hu]; simp
    have ho : u.service.override.inForce = false := by rw [← hu]; simp [putOverride]
    have := endGaugesOverride_reports u
    simp only [owed, healthLeft, overrideLeft, endGaugesOverride_frame, hm, ht, ho, h]
    rw [hr] at this
    simp only [if_true, Bool.false_eq_true, if_false]
    omega
  · exact Nat.le_refl _

theorem owed_reportRed (c : DemandChange) (s : State) : owed (reportRed c s) ≤ owed s := by
  unfold reportRed
  split
  · exact owed_endOverride s
  · exact Nat.le_refl _

theorem owed_foldl {α : Type} (f : State → α → State) (h : ∀ s a, owed (f s a) ≤ owed s) (l : List α)
    (s : State) : owed (l.foldl f s) ≤ owed s := by
  induction l generalizing s with
  | nil => exact Nat.le_refl _
  | cons a l ih => exact (ih _).trans (h _ _)

theorem owed_updateFlags (s : State) : owed (updateFlags s) = owed s := by
  simp only [updateFlags]
  split
  · exact owed_setTelltale _ _
  · exact owed_congr (by simp) (by simp) (by simp) (by simp [putOverride])

theorem owed_takeSource (src : Source) (on : Bool) (s : State) : owed (takeSource src on s) ≤ owed s := by
  simp only [takeSource, applyConditions]
  refine (owed_foldl _ (fun s c => owed_announce c s) _ _).trans
    ((owed_foldl _ (fun s c => owed_reportRed c s) _ _).trans (Nat.le_of_eq ?_))
  rw [owed_updateFlags, owed_setTelltale, owed_setTelltale]

/-! ## The delivery is complete -/

/-- As many rounds as are owed deliver every report: more change nothing. -/
theorem settle_more (n k : Nat) (s : State) (h : owed s ≤ n) : settle (n + k) s = settle n s := by
  induction n generalizing s with
  | zero =>
    have h0 : s.reports = [] := by
      have : s.reports.length = 0 := by unfold owed at h; omega
      exact List.length_eq_zero_iff.1 this
    cases k with
    | zero => rfl
    | succ k => cases s; simp_all [settle, State.setReports]
  | succ n ih =>
    rw [show n + 1 + k = n + k + 1 by omega]
    simp only [settle]
    split
    · rfl
    · next r rs hr =>
      refine ih _ ((owed_takeSource _ _ _).trans ?_)
      have : owed s = owed (s.setReports rs) + 1 := by
        simp only [owed, healthLeft, State.setReports_reports, State.setReports_monitor,
          State.setReports_tables, State.setReports_service, hr, List.length_cons]
        omega
      omega

/-- The changes that all ten attributes can tell of are at most twenty. -/
theorem healthLeft_le (s : State) : healthLeft s ≤ 20 := by
  have h : ∀ i : Fin 10, s.monitor[i].changesLeft s.tables.health[i] ≤ 2 := by
    intro i
    unfold Attribute.changesLeft
    repeat' split
    all_goals omega
  have hl : ∀ l : List (Fin 10), (l.map (fun i => s.monitor[i].changesLeft s.tables.health[i])).sum
      ≤ 2 * l.length := by
    intro l
    induction l with
    | nil => simp
    | cons y ys ih =>
      have := h y
      simp only [List.map_cons, List.sum_cons, List.length_cons]
      omega
  have := hl (List.finRange 10)
  rw [List.length_finRange] at this
  exact this

/-- The end of a command leaves no report undelivered: with any number of rounds beyond its own the delivery
comes to the same state. -/
theorem settle_complete (s : State) (k : Nat) : settle (settleFuel s + k) s = settle (settleFuel s) s := by
  refine settle_more _ _ _ ?_
  have := healthLeft_le s
  unfold owed settleFuel overrideLeft
  split <;> omega

end Sys2Proof.Machine
end

