-- ==== Sys2Proof/Laws/Exec.lean ====
section
/-! SUPPORT. What exec and step can answer, said once: the effect of each command before the end that
every command has, and the equation that gives the outcome from it. -/

namespace Sys2Proof.Machine

open Sys2Proof

/-- The effect of each command, before the reports are delivered and the screen is composed. POWER_ON
stands apart (`exec_powerOn`). -/
def effectOf (c : Instr) : State → State :=
  match c with
  | .powerOn _ => fun t => t
  | .configImageRead area => imageRead area
  | .restoreSlotRead bytes => restoreSlot bytes
  | .memoryReadTimeout => fun t => onExpiry t.control.readDue (fun _ => loadingReadFailed) t
  | .ignitionInputChange level => ignitionInput level
  | .ignitionDebounceExpiry => fun t => onExpiry t.control.ignitionDue (fun _ => debounceIgnition) t
  | .afterRunExpiry => fun t => onExpiry t.control.afterRunDue (fun _ => endAfterRun) t
  | .supplyLow => supplyLowEvent
  | .lineWake => wakeByLine
  | .oscillatorSettled => oscillatorReady
  | .quietLine => lineQuiet
  | .frameReceived frame => receive (judgeFrame frame)
  | .timeMark sender payload => receiveGood 0 1 sender payload
  | .presence sender payload => receiveGood 1 2 sender payload
  | .presenceReplyDelayEnd => fun t => onExpiry (replyDue t) (fun _ => endReplyDelay) t
  | .readState sender args => receiveRequest sender 1 args
  | .readSlot sender args => receiveRequest sender 2 args
  | .readRoster sender args => receiveRequest sender 3 args
  | .readHealth sender args => receiveRequest sender 4 args
  | .clearHealth sender args => receiveRequest sender 5 args
  | .readDistance sender args => receiveRequest sender 6 args
  | .testOverride sender args => receiveRequest sender 7 args
  | .endOverride sender args => receiveRequest sender 8 args
  | .ackErrorIndication sender args => receiveRequest sender 9 args
  | .overrideExpiry => fun t => onExpiry t.service.override.due (fun _ => endOverride) t
  | .transmissionEnd outcome => endTransmission outcome
  | .mutingExpiry => fun t => onExpiry t.line.mutingDue (fun _ => endMuting) t
  | .peerSilenceExpiry => fun t => onExpiry t.line.silenceDue (fun _ => peersSilent) t
  | .clusterStatusTimer => fun t => onExpiry t.control.statusDue statusExpiry t
  | .distanceReportTimer => fun t => onExpiry t.control.distanceDue distanceReportExpiry t
  | .staleExpiry slot => fun t => onExpiry (staleDue t slot) (fun _ => staleSlot slot) t
  | .motionPeriod gauge => fun t => onExpiry (channelOf t gauge).periodDue (motionWork gauge) t
  | .stall gauge => stallChannel gauge
  | .holdExpiry gauge => fun t => onExpiry (channelOf t gauge).holdDue (fun _ => endHoldOf gauge) t
  | .standstillExpiry gauge => fun t => onExpiry (channelOf t gauge).standDue (fun _ => standstillOn gauge) t
  | .neverGraceExpiry => fun t => onExpiry (graceDue t) (fun _ => expireGrace) t
  | .persistenceExpiry gauge band => fun t => onExpiry (persistenceDue t gauge band) (fun _ => putBand gauge band .active) t
  | .provingExpiry => fun t => onExpiry t.telltale.provingDue (fun _ => endProving) t
  | .lampPhaseExpiry output => fun t => onExpiry (phaseDueOf t output) (lampPhase output) t
  | .lampLoadFault output kind => loadFault output kind
  | .chimePatternTimer => fun t => onExpiry t.chime.phaseDue chimeMark t
  | .popupTimeMark mark => popupMark mark
  | .displayWriteComplete => screenWritten
  | .buttonInputChange button pressed => buttonInput button pressed
  | .buttonDebounceExpiry button => fun t => onExpiry (buttonOf t button).debounceDue (fun _ => debounceButton button) t
  | .longPressExpiry button => fun t => onExpiry (buttonOf t button).longDue (fun _ => longPressExpired button) t
  | .listeningWindowExpiry => fun t => onExpiry t.readout.windowDue (fun _ => closeWindow) t
  | .driverStaleExpiry driver => fun t => onExpiry (driverStaleDue t driver) (fun _ => staleDriver driver) t
  | .secondMark driver => fun t => onExpiry (secondMarkDue t driver) (fun _ => takeSecondMark driver) t
  | .driverSpeedSample => fun t => onExpiry t.driver.sampleDue driverSampleAt t
  | .slewStep => fun t => onExpiry t.driver.clock.slewDue (fun due u => putClock (u.driver.clock.slewed due) u) t
  | .holdoverExpiry => fun t => onExpiry t.driver.clock.holdoverDue (fun _ u => putClock u.driver.clock.holdOver u) t
  | .clockSecond => passSecond
  | .distanceSample => fun t => onExpiry t.distance.sampleDue distanceSampleAt t
  | .programmingComplete attempt => programmingDone attempt
  | .readBackComplete bytes attempt => readBack attempt bytes
  | .writeAttemptTimeout => fun t => onExpiry (attemptDue t) (fun _ => attemptTimedOut) t
  | .silenceMark entry => fun t => onExpiry (quietDue 1 t entry.val) (fun _ => changeEntry entry.val RosterEntry.silenceMark) t
  | .lossMark entry => fun t => onExpiry (quietDue 3 t entry.val) (fun _ => changeEntry entry.val RosterEntry.lossMark) t
  | .censusClose => fun t => onExpiry t.roster.censusDue (fun _ => closeCensus) t
  | .peerStartMark => peerStart
  | .unknownRequest sender code args => receiveRequest sender code args

/-- POWER_ON. -/
theorem exec_powerOn (l : InputLevels) (s : State) :
    exec (.powerOn l) s = .next ((State.powerOn l).setPending s.pending) := rfl

/-- Every other command completes its effect. -/
theorem exec_eq_complete (c : Instr) (h : ∀ l, c ≠ .powerOn l) (s : State) :
    exec c s = complete (effectOf c) s := by
  cases c <;> first | rfl | exact absurd rfl (h _)

/-- Every command answers a next state. -/
theorem exec_next (c : Instr) (s : State) : ∃ t, exec c s = .next t := by
  cases c <;> exact ⟨_, rfl⟩

/-- What a next state of exec is. -/
theorem exec_cases {c : Instr} {s t : State} (h : exec c s = .next t) :
    (∃ l, c = .powerOn l ∧ t = (State.powerOn l).setPending s.pending)
      ∨ ((∀ l, c ≠ .powerOn l) ∧ t = finish (effectOf c (s.setReports []))) := by
  by_cases hc : ∃ l, c = .powerOn l
  · obtain ⟨l, rfl⟩ := hc
    rw [exec_powerOn] at h
    exact .inl ⟨l, rfl, (Host.Outcome.next.inj h).symm⟩
  · have hc' : ∀ l, c ≠ .powerOn l := fun l e => hc ⟨l, e⟩
    rw [exec_eq_complete c hc'] at h
    exact .inr ⟨hc', (Host.Outcome.next.inj h).symm⟩

/-- What a next state of step is. -/
theorem step_cases {s t : State} (h : step s = .next t) :
    (s.pending = [] ∧ t = tick s)
      ∨ ∃ c rest, s.pending = c :: rest ∧ exec c (s.setPending rest) = .next t := by
  unfold step at h
  split at h
  · next h0 => exact .inl ⟨h0, (Host.Outcome.next.inj h).symm⟩
  · next c rest h0 => exact .inr ⟨c, rest, h0, h⟩

/-- What a tick can do: the command of the next timer that the present millisecond has reached joins the queue,
or one millisecond passes. -/
theorem tick_cases (s : State) :
    (∃ i c, firstReached s s.scan (allTimers.drop s.scan) = some (i, c)
        ∧ tick s = (s.setPending [c]).setScan (i + 1))
      ∨ firstReached s s.scan (allTimers.drop s.scan) = none ∧ tick s = (advance 1 s).setScan 0 := by
  unfold tick
  split
  · next i c h => exact .inl ⟨i, c, h, rfl⟩
  · next h => exact .inr ⟨h, rfl⟩

/-- Nothing but the queue, the time base, the wall clock and the time shown of the SHOWING pop-up changes in
a tick. -/
@[simp] theorem tick_frame (s : State) :
    (tick s).tables = s.tables ∧ (tick s).control = s.control ∧ (tick s).line = s.line ∧
    (tick s).slots = s.slots ∧ (tick s).gauges = s.gauges ∧ (tick s).telltale = s.telltale ∧
    (tick s).chime = s.chime ∧ (tick s).distance = s.distance ∧ (tick s).store = s.store ∧
    (tick s).roster = s.roster ∧ (tick s).monitor = s.monitor ∧ (tick s).service = s.service ∧
    (tick s).reports = s.reports := by
  rcases tick_cases s with ⟨i, c, -, h⟩ | ⟨-, h⟩ <;> simp [h]

/-- A timer's command does nothing to what neither the passing of time nor its work changes. -/
theorem onExpiry_keeps {β : Type} (p : State → β) (due : Option Nat) (f : Nat → State → State)
    (h : ∀ d t, p (f d t) = p t) (hr : ∀ d t, p (reach d t) = p t) (s : State) :
    p (onExpiry due f s) = p s := by
  unfold onExpiry
  split
  · rw [h, hr]
  · rfl

/-- An invariant that the passing of time and a timer's work keep is kept by its command. -/
theorem onExpiry_inv (P : State → Prop) (due : Option Nat) (f : Nat → State → State)
    (h : ∀ d t, P t → P (f d t)) (hr : ∀ d t, P t → P (reach d t)) (s : State) (hs : P s) :
    P (onExpiry due f s) := by
  unfold onExpiry
  split
  · exact h _ _ (hr _ _ hs)
  · exact hs

end Sys2Proof.Machine
end

