-- ==== Sys2Proof/Laws/Parts.lean ====
section
/-! SUPPORT. Parts of a block that its own operations leave unchanged: the records that the restore has
found, the roster entries, the pop-up queue; and what the delivery of a frame leaves unchanged. -/

namespace Sys2Proof.Machine

open Sys2Proof

/-- A request's execution leaves the line, the slots, the drivers, the roster, the tables and the
queue. -/
@[simp] theorem executeRequest_frame (code : Nat) (args : List Byte) (s : State) :
    (executeRequest code args s).2.now = s.now ∧ (executeRequest code args s).2.tables = s.tables ∧
    (executeRequest code args s).2.line = s.line ∧ (executeRequest code args s).2.slots = s.slots ∧
    (executeRequest code args s).2.driver = s.driver ∧
    (executeRequest code args s).2.roster = s.roster ∧ (executeRequest code args s).2.scan = s.scan ∧
    (executeRequest code args s).2.pending = s.pending := by
  unfold executeRequest
  repeat' split
  all_goals simp [takeClearHealth, takeTestOverride, takeEndOverride, takeAckError]
  all_goals (repeat' split)
  all_goals simp

@[simp] theorem takeRequest_frame (sender : Nat) (payload : List Byte) (s : State) :
    (takeRequest sender payload s).now = s.now ∧ (takeRequest sender payload s).tables = s.tables ∧
    (takeRequest sender payload s).scan = s.scan ∧ (takeRequest sender payload s).pending = s.pending := by
  unfold takeRequest
  repeat' split
  all_goals simp

@[simp] theorem deliverRequest_frame (topic sender : Nat) (payload : List Byte) (s : State) :
    (deliverRequest topic sender payload s).now = s.now ∧
    (deliverRequest topic sender payload s).tables = s.tables ∧
    (deliverRequest topic sender payload s).scan = s.scan ∧
    (deliverRequest topic sender payload s).pending = s.pending := by
  unfold deliverRequest
  split <;> simp

@[simp] theorem deliverFrame_frame (topic sender : Nat) (payload : List Byte) (s : State) :
    (deliverFrame topic sender payload s).now = s.now ∧
    (deliverFrame topic sender payload s).tables = s.tables ∧
    (deliverFrame topic sender payload s).scan = s.scan ∧
    (deliverFrame topic sender payload s).pending = s.pending := by
  unfold deliverFrame
  split <;> simp

@[simp] theorem goodFrame_frame (key : Key) (payload : List Byte) (s : State) :
    (goodFrame key payload s).now = s.now ∧ (goodFrame key payload s).tables = s.tables ∧
    (goodFrame key payload s).scan = s.scan ∧ (goodFrame key payload s).pending = s.pending := by
  unfold goodFrame
  split <;> simp

@[simp] theorem judgeFrame_frame (f : Frame) (s : State) :
    (judgeFrame f s).now = s.now ∧ (judgeFrame f s).tables = s.tables ∧ (judgeFrame f s).scan = s.scan ∧
    (judgeFrame f s).pending = s.pending := by
  unfold judgeFrame
  split <;> simp

@[simp] theorem changeStoreState_found (st : StoreState) (s : State) :
    (changeStoreState st s).store.found = s.store.found := by
  unfold changeStoreState
  repeat' split
  all_goals simp

@[simp] theorem beginAttempt_found (w : Write) (s : State) :
    (beginAttempt w s).store.found = s.store.found := by
  simp [beginAttempt]

@[simp] theorem startWrite_found (s : State) :
    (startWrite s).store.found = s.store.found := by
  unfold startWrite
  repeat' split
  all_goals simp

@[simp] theorem requestWrite_found (s : State) :
    (requestWrite s).store.found = s.store.found := by
  unfold requestWrite
  repeat' split
  all_goals simp

@[simp] theorem endWrite_found (s : State) :
    (endWrite s).store.found = s.store.found := by
  unfold endWrite
  split <;> simp

@[simp] theorem programmingDone_found (attempt : Nat) (s : State) :
    (programmingDone attempt s).store.found = s.store.found := by
  unfold programmingDone
  repeat' split
  all_goals simp

@[simp] theorem verifyWrite_found (w : Write) (s : State) :
    (verifyWrite w s).store.found = s.store.found := by
  simp [verifyWrite]

@[simp] theorem rewrite_found (w : Write) (s : State) :
    (rewrite w s).store.found = s.store.found := by
  unfold rewrite
  split <;> simp

@[simp] theorem retireSlot_found (w : Write) (s : State) :
    (retireSlot w s).store.found = s.store.found := by
  simp only [retireSlot]
  split <;> simp

@[simp] theorem failAttempt_found (w : Write) (s : State) :
    (failAttempt w s).store.found = s.store.found := by
  unfold failAttempt
  split <;> simp

@[simp] theorem readBack_found (attempt : Nat) (bytes : List Byte) (s : State) :
    (readBack attempt bytes s).store.found = s.store.found := by
  unfold readBack
  repeat' split
  all_goals simp

@[simp] theorem attemptTimedOut_found (s : State) :
    (attemptTimedOut s).store.found = s.store.found := by
  unfold attemptTimedOut
  split <;> simp

@[simp] theorem storeTrigger_found (s : State) :
    (storeTrigger s).store.found = s.store.found := by
  unfold storeTrigger
  split <;> simp

@[simp] theorem putDistance_found (d : Distance) (s : State) :
    (putDistance d s).store.found = s.store.found := by
  unfold putDistance
  split <;> simp

@[simp] theorem distanceSampleAt_found (due : Nat) (s : State) :
    (distanceSampleAt due s).store.found = s.store.found := by
  unfold distanceSampleAt
  split <;> simp

@[simp] theorem reconcile_found (r : Nat) (s : State) :
    (reconcile r s).store.found = s.store.found := by
  simp only [reconcile]
  repeat' split
  all_goals simp

@[simp] theorem recorderDistance_found (payload : List Byte) (s : State) :
    (recorderDistance payload s).store.found = s.store.found := by
  unfold recorderDistance
  split <;> simp

@[simp] theorem treatEntry_found (sender : Nat) (payload : List Byte)  (e : IntakeEntry) (s : State) :
    (treatEntry sender payload s e).store.found = s.store.found := by
  unfold treatEntry
  split
  · exact foldl_keeps (·.store.found) _ (fun _ _ => by simp) _ _
  all_goals simp

@[simp] theorem takeData_found (topic sender : Nat) (payload : List Byte) (s : State) :
    (takeData topic sender payload s).store.found = s.store.found := by
  unfold takeData
  exact (foldl_keeps (·.store.found) _ (fun _ _ => by simp) _ _).trans (by simp)

@[simp] theorem executeRequest_found (code : Nat) (args : List Byte) (s : State) :
    (executeRequest code args s).2.store.found = s.store.found := by
  unfold executeRequest
  repeat' split
  all_goals simp [takeClearHealth, takeTestOverride, takeEndOverride, takeAckError]
  all_goals (repeat' split)
  all_goals simp

@[simp] theorem takeRequest_found (sender : Nat) (payload : List Byte) (s : State) :
    (takeRequest sender payload s).store.found = s.store.found := by
  unfold takeRequest
  repeat' split
  all_goals simp

@[simp] theorem deliverRequest_found (topic sender : Nat) (payload : List Byte) (s : State) :
    (deliverRequest topic sender payload s).store.found = s.store.found := by
  unfold deliverRequest
  split <;> simp

@[simp] theorem deliverFrame_found (topic sender : Nat) (payload : List Byte) (s : State) :
    (deliverFrame topic sender payload s).store.found = s.store.found := by
  unfold deliverFrame
  split <;> simp

@[simp] theorem goodFrame_found (key : Key) (payload : List Byte) (s : State) :
    (goodFrame key payload s).store.found = s.store.found := by
  unfold goodFrame
  split <;> simp

@[simp] theorem judgeFrame_found (f : Frame) (s : State) :
    (judgeFrame f s).store.found = s.store.found := by
  unfold judgeFrame
  split <;> simp

@[simp] theorem endAfterRun_found (s : State) :
    (endAfterRun s).store.found = s.store.found := by
  simp [endAfterRun]

@[simp] theorem supplyLowEvent_found (s : State) :
    (supplyLowEvent s).store.found = s.store.found := by
  simp only [supplyLowEvent]
  split <;> simp

@[simp] theorem reportLeaving_entries (kind : TxKind) (payload : List Byte) (how : Leaving) (s : State) :
    (reportLeaving kind payload how s).roster.entries = s.roster.entries := by
  cases kind <;> simp only [reportLeaving] <;> (try split) <;> simp

@[simp] theorem tryTransmit_entries (s : State) :
    (tryTransmit s).roster.entries = s.roster.entries := by
  unfold tryTransmit
  repeat' split
  all_goals simp

@[simp] theorem placeFrame_entries (kind : TxKind) (payload : List Byte) (s : State) :
    (placeFrame kind payload s).roster.entries = s.roster.entries := by
  simp only [placeFrame]
  repeat' split
  all_goals simp

@[simp] theorem placeStatus_entries (s : State) :
    (placeStatus s).roster.entries = s.roster.entries := by
  simp [placeStatus]

@[simp] theorem placeDistanceReport_entries (s : State) :
    (placeDistanceReport s).roster.entries = s.roster.entries := by
  simp [placeDistanceReport]

@[simp] theorem restartStatus_entries (period : Nat) (s : State) :
    (restartStatus period s).roster.entries = s.roster.entries := by
  simp [restartStatus]

@[simp] theorem restartDistanceReport_entries (s : State) :
    (restartDistanceReport s).roster.entries = s.roster.entries := by
  simp [restartDistanceReport]

@[simp] theorem endReplyDelay_entries (s : State) :
    (endReplyDelay s).roster.entries = s.roster.entries := by
  simp [endReplyDelay]

@[simp] theorem takePresence_entries (payload : List Byte) (s : State) :
    (takePresence payload s).roster.entries = s.roster.entries := by
  unfold takePresence
  repeat' split
  all_goals simp

@[simp] theorem placeReply_entries (requester code : Nat) (r : Reply) (s : State) :
    (placeReply requester code r s).roster.entries = s.roster.entries := by
  simp [placeReply]

@[simp] theorem removeSent_entries (e : TxEntry) (how : Leaving) (s : State) :
    (removeSent e how s).roster.entries = s.roster.entries := by
  simp [removeSent]

@[simp] theorem returnEntry_entries (e : TxEntry) (s : State) :
    (returnEntry e s).roster.entries = s.roster.entries := by
  unfold returnEntry
  repeat' split
  all_goals simp

@[simp] theorem takeOutcome_entries (o : TxOutcome) (e : TxEntry) (s : State) :
    (takeOutcome o e s).roster.entries = s.roster.entries := by
  cases o <;> simp [takeOutcome]

@[simp] theorem discardAll_entries (q : List TxEntry) (s : State) :
    (discardAll q s).roster.entries = s.roster.entries := by
  unfold discardAll
  exact (foldl_keeps (·.roster.entries) _ (fun _ _ => by simp) _ _).trans (by simp)

@[simp] theorem restLine_entries (s : State) :
    (restLine s).roster.entries = s.roster.entries := by
  simp [restLine]

@[simp] theorem sleepLine_entries (s : State) :
    (sleepLine s).roster.entries = s.roster.entries := by
  unfold sleepLine
  split <;> simp

@[simp] theorem discardWaiting_entries (s : State) :
    (discardWaiting s).roster.entries = s.roster.entries := by
  simp [discardWaiting]

@[simp] theorem finishSleep_entries (s : State) :
    (finishSleep s).roster.entries = s.roster.entries := by
  unfold finishSleep
  split <;> simp

@[simp] theorem wakeLine_entries (s : State) :
    (wakeLine s).roster.entries = s.roster.entries := by
  unfold wakeLine
  split <;> simp

@[simp] theorem endTransmission_entries (o : TxOutcome) (s : State) :
    (endTransmission o s).roster.entries = s.roster.entries := by
  simp only [endTransmission]
  repeat' split
  all_goals simp

@[simp] theorem trySleep_entries (s : State) :
    (trySleep s).roster.entries = s.roster.entries := by
  unfold trySleep
  split <;> simp

@[simp] theorem finish_entries (s : State) :
    (finish s).roster.entries = s.roster.entries := by
  simp [finish]

@[simp] theorem wakeToListening_entries (s : State) :
    (wakeToListening s).roster.entries = s.roster.entries := by
  simp [wakeToListening]

@[simp] theorem wakeByLine_entries (s : State) :
    (wakeByLine s).roster.entries = s.roster.entries := by
  unfold wakeByLine
  split <;> simp

@[simp] theorem wakeByPage_entries (s : State) :
    (wakeByPage s).roster.entries = s.roster.entries := by
  simp [wakeByPage]

@[simp] theorem enterListening_entries (s : State) :
    (enterListening s).roster.entries = s.roster.entries := by
  simp [enterListening]

@[simp] theorem endAfterRun_entries (s : State) :
    (endAfterRun s).roster.entries = s.roster.entries := by
  simp [endAfterRun]

@[simp] theorem statusExpiry_entries (due : Nat) (s : State) :
    (statusExpiry due s).roster.entries = s.roster.entries := by
  simp [statusExpiry]

@[simp] theorem distanceReportExpiry_entries (due : Nat) (s : State) :
    (distanceReportExpiry due s).roster.entries = s.roster.entries := by
  simp [distanceReportExpiry]

@[simp] theorem takeRequest_entries (sender : Nat) (payload : List Byte) (s : State) :
    (takeRequest sender payload s).roster.entries = s.roster.entries := by
  unfold takeRequest
  repeat' split
  all_goals simp

@[simp] theorem deliverRequest_entries (topic sender : Nat) (payload : List Byte) (s : State) :
    (deliverRequest topic sender payload s).roster.entries = s.roster.entries := by
  unfold deliverRequest
  split <;> simp

@[simp] theorem deliverSystem_entries (topic sender : Nat) (payload : List Byte) (s : State) :
    (deliverSystem topic sender payload s).roster.entries = s.roster.entries := by
  unfold deliverSystem
  repeat' split
  all_goals simp

@[simp] theorem buttonPressed_entries (b : Button) (s : State) :
    (buttonPressed b s).roster.entries = s.roster.entries := by
  unfold buttonPressed
  split <;> simp

@[simp] theorem refreshScreen_queue (s : State) :
    (refreshScreen s).readout.queue = s.readout.queue := by
  simp only [refreshScreen]
  repeat' split
  all_goals simp

@[simp] theorem firstWrite_queue (s : State) :
    (firstWrite s).readout.queue = s.readout.queue := by
  simp [firstWrite]

@[simp] theorem screenWritten_queue (s : State) :
    (screenWritten s).readout.queue = s.readout.queue := by
  unfold screenWritten
  repeat' split
  all_goals simp

@[simp] theorem pageHome_queue (s : State) :
    (pageHome s).readout.queue = s.readout.queue := by
  simp [pageHome]

@[simp] theorem putButton_queue (b : Button) (x : ButtonInput) (s : State) :
    (putButton b x s).readout.queue = s.readout.queue := by
  cases b <;> simp [putButton]

@[simp] theorem buttonInput_queue (b : Button) (raw : Bool) (s : State) :
    (buttonInput b raw s).readout.queue = s.readout.queue := by
  unfold buttonInput
  split <;> simp

@[simp] theorem restartWindow_queue (s : State) :
    (restartWindow s).readout.queue = s.readout.queue := by
  simp [restartWindow]

@[simp] theorem advancePage_queue (s : State) :
    (advancePage s).readout.queue = s.readout.queue := by
  unfold advancePage
  split <;> simp

@[simp] theorem closeWindow_queue (s : State) :
    (closeWindow s).readout.queue = s.readout.queue := by
  simp [closeWindow]

@[simp] theorem pageShort_queue (s : State) :
    (pageShort s).readout.queue = s.readout.queue := by
  unfold pageShort
  repeat' split
  all_goals simp

@[simp] theorem wakeByPage_queue (s : State) :
    (wakeByPage s).readout.queue = s.readout.queue := by
  simp [wakeByPage]

@[simp] theorem buttonPressed_queue (b : Button) (s : State) :
    (buttonPressed b s).readout.queue = s.readout.queue := by
  unfold buttonPressed
  split <;> simp

@[simp] theorem longPressExpired_queue (b : Button) (s : State) :
    (longPressExpired b s).readout.queue = s.readout.queue := by
  simp only [longPressExpired]
  split <;> simp

end Sys2Proof.Machine
end

