-- ==== Sys2Proof/Laws/Invariants.lean ====
section
/-! SUPPORT. How an invariant is shown to be kept: one principle for each shared operation that calls
others. An invariant of some fields is kept by whatever leaves those fields (the frame lemmas); the
principles say which parts of an operation are left to look at. -/

namespace Sys2Proof.Machine

open Sys2Proof

/-- What exec keeps: it is kept by POWER_ON, by each effect and by the end of every command. -/
theorem exec_inv (P : State → Prop) (hp : ∀ s x, P s → P (s.setPending x))
    (hr : ∀ s x, P s → P (s.setReports x)) (hpow : ∀ l, P (State.powerOn l))
    (hfin : ∀ s, P s → P (finish s))
    (heff : ∀ c, (∀ l, c ≠ .powerOn l) → ∀ s, P s → P (effectOf c s)) {c : Instr} {s t : State}
    (h : exec c s = .next t) (hs : P s) : P t := by
  rcases exec_cases h with ⟨l, rfl, rfl⟩ | ⟨hc, rfl⟩
  · exact hp _ _ (hpow l)
  · exact hfin _ (heff c hc _ (hr _ _ hs))

/-- What step keeps: what exec keeps, where the passing of time keeps it too. -/
theorem step_inv (P : State → Prop) (hp : ∀ s x, P s → P (s.setPending x))
    (hc : ∀ s x, P s → P (s.setScan x)) (hr : ∀ s x, P s → P (s.setReports x)) (ha : ∀ s d, P s → P (advance d s))
    (hpow : ∀ l, P (State.powerOn l)) (hfin : ∀ s, P s → P (finish s))
    (heff : ∀ c, (∀ l, c ≠ .powerOn l) → ∀ s, P s → P (effectOf c s)) {s t : State}
    (h : step s = .next t) (hs : P s) : P t := by
  rcases step_cases h with ⟨_, rfl⟩ | ⟨c, rest, _, h⟩
  · rcases tick_cases s with ⟨i, c, -, h⟩ | ⟨-, h⟩ <;> rw [h]
    · exact hc _ _ (hp _ _ hs)
    · exact hc _ _ (ha _ _ hs)
  · exact exec_inv P hp hr hpow hfin heff h (hp _ _ hs)

/-- What the delivery of reports keeps. -/
theorem settle_inv (P : State → Prop) (hr : ∀ s x, P s → P (s.setReports x))
    (h : ∀ src on s, P s → P (takeSource src on s)) (n : Nat) (s : State) (hs : P s) : P (settle n s) := by
  induction n generalizing s with
  | zero => exact hr _ _ hs
  | succ n ih =>
    simp only [settle]
    split
    · exact hs
    · exact ih _ (h _ _ _ (hr _ _ hs))

/-- After the delivery no report is left. -/
@[simp] theorem settle_reports (n : Nat) (s : State) : (settle n s).reports = [] := by
  induction n generalizing s with
  | zero => rfl
  | succ n ih =>
    simp only [settle]
    split
    · next h => exact h
    · exact ih _

/-- Where there is nothing to deliver, nothing is delivered. -/
theorem settle_idle (n : Nat) (s : State) (h : s.reports = []) : settle n s = s := by
  cases n with
  | zero => cases s; simp_all [settle, State.setReports]
  | succ n => simp [settle, h]

/-- What the end of a command keeps. -/
theorem finish_inv (P : State → Prop) (hr : ∀ s x, P s → P (s.setReports x))
    (h : ∀ src on s, P s → P (takeSource src on s)) (hsleep : ∀ s, P s → P (trySleep s))
    (hscreen : ∀ s, P s → P (refreshScreen s)) (s : State) (hs : P s) : P (finish s) :=
  hscreen _ (hsleep _ (settle_inv P hr h _ _ hs))

/-- What the handling of a good frame keeps. -/
theorem goodFrame_inv (P : State → Prop) (hover : ∀ a t, P t → P (frameOver a t))
    (hclash : ∀ t, P t → P (count 5 t)) (hhear : ∀ n t, P t → P (hearStation n t))
    (hsys : ∀ k n p t, P t → P (deliverSystem k n p t)) (hdata : ∀ k n p t, P t → P (takeData k n p t))
    (hreq : ∀ n p t, P t → P (takeRequest n p t)) (key : Key) (payload : List Byte) (s : State)
    (hs : P s) : P (goodFrame key payload s) := by
  simp only [goodFrame]
  split
  · exact hclash _ (hover _ _ hs)
  · simp only [deliverFrame]
    have h1 := hsys (keyTopic key) (keySender key) payload _ (hhear (keySender key) _
      (hover (acknowledges s) _ hs))
    generalize deliverSystem (keyTopic key) (keySender key) payload
      (hearStation (keySender key) (frameOver (acknowledges s) s)) = u at h1 ⊢
    have h2 : P (if 8 ≤ keyTopic key then takeData (keyTopic key) (keySender key) payload u else u) := by
      split
      · exact hdata _ _ _ _ h1
      · exact h1
    generalize (if 8 ≤ keyTopic key then takeData (keyTopic key) (keySender key) payload u else u) = v
      at h2 ⊢
    simp only [deliverRequest]
    split
    · exact hreq _ _ _ h2
    · exact h2

/-- What a reception keeps. -/
theorem receive_inv (P : State → Prop) (hmark : ∀ t, P t → P (ownStartMark t)) (f : State → State)
    (hf : ∀ t, P t → P (f t)) (s : State) (hs : P s) : P (receive f s) := by
  unfold receive
  split
  · exact hf _ (hmark _ hs)
  · exact hs

/-- What the execution of a request keeps. -/
theorem executeRequest_inv (P : State → Prop) (hclear : ∀ t, P t → P (requestWrite (clearMonitor t)))
    (hstart : ∀ p n b t, overrideRefused t = false → P t → P (startOverride p n b t))
    (hend : ∀ t, P t → P (endOverride t))
    (hack : ∀ t, P t → P (t.setControl { t.control with errorIndication := false }))
    (code : Nat) (args : List Byte) (s : State) (hs : P s) : P (executeRequest code args s).2 := by
  unfold executeRequest
  repeat' split
  all_goals try exact hs
  · exact hclear _ hs
  · unfold takeTestOverride
    split
    · split
      · exact hs
      · next h => exact hstart _ _ _ _ (by simpa using h) hs
    · exact hs
  · unfold takeEndOverride
    split
    · exact hend _ hs
    · exact hs
  · exact hack _ hs

/-- What the taking of a request keeps. -/
theorem takeRequest_inv (P : State → Prop) (hdrop : ∀ t, P t → P (count 9 t))
    (hexec : ∀ c a t, P t → P (executeRequest c a t).2) (hplace : ∀ n c r t, P t → P (placeReply n c r t))
    (sender : Nat) (payload : List Byte) (s : State) (hs : P s) : P (takeRequest sender payload s) := by
  unfold takeRequest
  split
  · exact hdrop _ hs
  · split
    · exact hplace _ _ _ _ (hexec _ _ _ hs)
    · exact hs
    · exact hs

/-- What the end of LOADING keeps. -/
theorem tryEndLoading_inv (P : State → Prop) (hfin : ∀ t, P t → P (finishLoading t))
    (hstart : ∀ t, P t → P (enterStart t)) (hlisten : ∀ t, P t → P (enterListening t))
    (hreport : ∀ t, P t → P (restartDistanceReport t)) (s : State) (hs : P s) : P (tryEndLoading s) := by
  unfold tryEndLoading
  split
  · simp only [endLoading]
    apply hreport
    split
    · exact hstart _ (hfin _ hs)
    · exact hlisten _ (hfin _ hs)
  · exact hs

/-- What a fold keeps. -/
theorem foldl_inv {α : Type} (P : State → Prop) (f : State → α → State) (h : ∀ s a, P s → P (f s a))
    (l : List α) (s : State) (hs : P s) : P (l.foldl f s) := by
  induction l generalizing s with
  | nil => exact hs
  | cons a l ih => exact ih _ (h _ _ hs)

end Sys2Proof.Machine
end

