-- ==== Sys2Proof/Laws/PerInstr.lean ====
section
/-! SUPPORT. A law of every command as syntax, one lemma per constructor: the bytes that come with a
well-formed command are whole two-byte words, and no more than the configuration area holds. -/

namespace Sys2Proof.Laws.WholeWords

open Sys2Proof

/-- The bytes a command brings with it: a payload, the arguments of a request, or bytes of the memory. -/
def operandBytes : Instr → List Byte
  | .powerOn _ => []
  | .configImageRead area => area
  | .restoreSlotRead bytes => bytes
  | .memoryReadTimeout => []
  | .ignitionInputChange _ => []
  | .ignitionDebounceExpiry => []
  | .afterRunExpiry => []
  | .supplyLow => []
  | .lineWake => []
  | .oscillatorSettled => []
  | .quietLine => []
  | .frameReceived f => f.payload
  | .timeMark _ payload => payload
  | .presence _ payload => payload
  | .presenceReplyDelayEnd => []
  | .readState _ args => args
  | .readSlot _ args => args
  | .readRoster _ args => args
  | .readHealth _ args => args
  | .clearHealth _ args => args
  | .readDistance _ args => args
  | .testOverride _ args => args
  | .endOverride _ args => args
  | .ackErrorIndication _ args => args
  | .overrideExpiry => []
  | .transmissionEnd _ => []
  | .mutingExpiry => []
  | .peerSilenceExpiry => []
  | .clusterStatusTimer => []
  | .distanceReportTimer => []
  | .staleExpiry _ => []
  | .motionPeriod _ => []
  | .stall _ => []
  | .holdExpiry _ => []
  | .standstillExpiry _ => []
  | .neverGraceExpiry => []
  | .persistenceExpiry _ _ => []
  | .provingExpiry => []
  | .lampPhaseExpiry _ => []
  | .lampLoadFault _ _ => []
  | .chimePatternTimer => []
  | .popupTimeMark _ => []
  | .displayWriteComplete => []
  | .buttonInputChange _ _ => []
  | .buttonDebounceExpiry _ => []
  | .longPressExpiry _ => []
  | .listeningWindowExpiry => []
  | .driverStaleExpiry _ => []
  | .secondMark _ => []
  | .driverSpeedSample => []
  | .slewStep => []
  | .holdoverExpiry => []
  | .clockSecond => []
  | .distanceSample => []
  | .programmingComplete _ => []
  | .readBackComplete bytes _ => bytes
  | .writeAttemptTimeout => []
  | .silenceMark _ => []
  | .lossMark _ => []
  | .censusClose => []
  | .peerStartMark => []
  | .unknownRequest _ _ args => args

/-- Whole words, and at most 7168 bytes. -/
def Statement (i : Instr) : Prop :=
  i.wellFormed = true → (operandBytes i).length % 2 = 0 ∧ (operandBytes i).length ≤ 7168

theorem of_none {i : Instr} (h : operandBytes i = []) : Statement i := fun _ => by simp [h]

theorem of_payload {p : List Byte} (h : wordPayload p = true) : p.length % 2 = 0 ∧ p.length ≤ 7168 := by
  simp [wordPayload] at h; omega

theorem of_args {p : List Byte} (h : requestArgs p = true) : p.length % 2 = 0 ∧ p.length ≤ 7168 := by
  simp [requestArgs] at h; omega

theorem of_slot {p : List Byte} (h : slotBytes p = true) : p.length % 2 = 0 ∧ p.length ≤ 7168 := by
  simp [slotBytes] at h; omega

theorem of_frame {f : Frame} (h : f.wellFormed = true) :
    f.payload.length % 2 = 0 ∧ f.payload.length ≤ 7168 := by
  unfold Frame.wellFormed at h
  split at h <;> simp at h
  · omega
  · simp [h]

theorem powerOn (levels : InputLevels) : Statement (.powerOn levels) := of_none rfl
theorem configImageRead (area : List Byte) : Statement (.configImageRead area) := fun h => by
  have : area.length = 7168 := of_decide_eq_true h
  simp [operandBytes, this]
theorem restoreSlotRead (bytes : List Byte) : Statement (.restoreSlotRead bytes) := fun h => of_slot h
theorem memoryReadTimeout : Statement .memoryReadTimeout := of_none rfl
theorem ignitionInputChange (level : Bool) : Statement (.ignitionInputChange level) := of_none rfl
theorem ignitionDebounceExpiry : Statement .ignitionDebounceExpiry := of_none rfl
theorem afterRunExpiry : Statement .afterRunExpiry := of_none rfl
theorem supplyLow : Statement .supplyLow := of_none rfl
theorem lineWake : Statement .lineWake := of_none rfl
theorem oscillatorSettled : Statement .oscillatorSettled := of_none rfl
theorem quietLine : Statement .quietLine := of_none rfl
theorem frameReceived (frame : Frame) : Statement (.frameReceived frame) := fun h => of_frame h
theorem timeMark (sender : BitVec 6) (payload : List Byte) : Statement (.timeMark sender payload) := fun h => of_payload h
theorem presence (sender : BitVec 6) (payload : List Byte) : Statement (.presence sender payload) := fun h => of_payload h
theorem presenceReplyDelayEnd : Statement .presenceReplyDelayEnd := of_none rfl
theorem readState (sender : BitVec 6) (args : List Byte) : Statement (.readState sender args) := fun h => of_args h
theorem readSlot (sender : BitVec 6) (args : List Byte) : Statement (.readSlot sender args) := fun h => of_args h
theorem readRoster (sender : BitVec 6) (args : List Byte) : Statement (.readRoster sender args) := fun h => of_args h
theorem readHealth (sender : BitVec 6) (args : List Byte) : Statement (.readHealth sender args) := fun h => of_args h
theorem clearHealth (sender : BitVec 6) (args : List Byte) : Statement (.clearHealth sender args) := fun h => of_args h
theorem readDistance (sender : BitVec 6) (args : List Byte) : Statement (.readDistance sender args) := fun h => of_args h
theorem testOverride (sender : BitVec 6) (args : List Byte) : Statement (.testOverride sender args) := fun h => of_args h
theorem endOverride (sender : BitVec 6) (args : List Byte) : Statement (.endOverride sender args) := fun h => of_args h
theorem ackErrorIndication (sender : BitVec 6) (args : List Byte) : Statement (.ackErrorIndication sender args) := fun h => of_args h
theorem overrideExpiry : Statement .overrideExpiry := of_none rfl
theorem transmissionEnd (outcome : TxOutcome) : Statement (.transmissionEnd outcome) := of_none rfl
theorem mutingExpiry : Statement .mutingExpiry := of_none rfl
theorem peerSilenceExpiry : Statement .peerSilenceExpiry := of_none rfl
theorem clusterStatusTimer : Statement .clusterStatusTimer := of_none rfl
theorem distanceReportTimer : Statement .distanceReportTimer := of_none rfl
theorem staleExpiry (slot : Fin 64) : Statement (.staleExpiry slot) := of_none rfl
theorem motionPeriod (gauge : Fin 6) : Statement (.motionPeriod gauge) := of_none rfl
theorem stall (gauge : Fin 6) : Statement (.stall gauge) := of_none rfl
theorem holdExpiry (gauge : Fin 6) : Statement (.holdExpiry gauge) := of_none rfl
theorem standstillExpiry (gauge : Fin 6) : Statement (.standstillExpiry gauge) := of_none rfl
theorem neverGraceExpiry : Statement .neverGraceExpiry := of_none rfl
theorem persistenceExpiry (gauge : Fin 6) (band : Fin 2) : Statement (.persistenceExpiry gauge band) := of_none rfl
theorem provingExpiry : Statement .provingExpiry := of_none rfl
theorem lampPhaseExpiry (output : Fin 32) : Statement (.lampPhaseExpiry output) := of_none rfl
theorem lampLoadFault (output : Fin 32) (kind : LoadKind) : Statement (.lampLoadFault output kind) := of_none rfl
theorem chimePatternTimer : Statement .chimePatternTimer := of_none rfl
theorem popupTimeMark (mark : PopupMark) : Statement (.popupTimeMark mark) := of_none rfl
theorem displayWriteComplete : Statement .displayWriteComplete := of_none rfl
theorem buttonInputChange (button : Button) (pressed : Bool) : Statement (.buttonInputChange button pressed) := of_none rfl
theorem buttonDebounceExpiry (button : Button) : Statement (.buttonDebounceExpiry button) := of_none rfl
theorem longPressExpiry (button : Button) : Statement (.longPressExpiry button) := of_none rfl
theorem listeningWindowExpiry : Statement .listeningWindowExpiry := of_none rfl
theorem driverStaleExpiry (driver : Fin 2) : Statement (.driverStaleExpiry driver) := of_none rfl
theorem secondMark (driver : Fin 2) : Statement (.secondMark driver) := of_none rfl
theorem driverSpeedSample : Statement .driverSpeedSample := of_none rfl
theorem slewStep : Statement .slewStep := of_none rfl
theorem holdoverExpiry : Statement .holdoverExpiry := of_none rfl
theorem clockSecond : Statement .clockSecond := of_none rfl
theorem distanceSample : Statement .distanceSample := of_none rfl
theorem programmingComplete (attempt : Nat) : Statement (.programmingComplete attempt) := of_none rfl
theorem readBackComplete (bytes : List Byte) (attempt : Nat) : Statement (.readBackComplete bytes attempt) :=
  fun h => of_slot h
theorem writeAttemptTimeout : Statement .writeAttemptTimeout := of_none rfl
theorem silenceMark (entry : Fin 24) : Statement (.silenceMark entry) := of_none rfl
theorem lossMark (entry : Fin 24) : Statement (.lossMark entry) := of_none rfl
theorem censusClose : Statement .censusClose := of_none rfl
theorem peerStartMark : Statement .peerStartMark := of_none rfl
theorem unknownRequest (sender : BitVec 6) (code : Byte) (args : List Byte) : Statement (.unknownRequest sender code args) := fun h => of_args (Bool.and_eq_true _ _ ▸ h).1

end Sys2Proof.Laws.WholeWords
end

