-- ==== Sys2Proof/Tests/Slice0.lean ====
section
/-! SUPPORT. Tests: the well-formedness checks, the worked examples and tables of the manual (each test
names its source), and for every statement with hypotheses a state and operands that meet them. -/

set_option maxRecDepth 100000

namespace Sys2Proof.Tests

open Sys2Proof Sys2Proof.Machine Sys2Proof.Claims

/-! ## Small states -/

/-- The state after a command. -/
def after (c : Instr) (s : State) : State :=
  match exec c s with
  | .next t => t
  | .fault _ => s
  | .refused _ => s

/-- A state in another part state. -/
def inPart (p : PartState) (s : State) : State := { s with control := { s.control with part := p } }

/-- RUN at 200 000 ms, the line ACTIVE and received, no gauge fitted with a source. -/
def run : State :=
  { State.reset with
    now := 200000
    control := { State.reset.control with
      part := .run, load := .restored, readDue := none, debounced := true, ignitionDue := none }
    line := { State.reset.line with state := .active, listening := true, lastOrder := 8 }
    telltale := { State.reset.telltale with evaluating := true }
    chime := { State.reset.chime with accepting := true } }

/-- A station that hears no one else: RUN, LISTEN-ONLY. -/
def mute : State := { run with line := { run.line with state := .listenOnly } }

/-- LISTENING, the peers not quiet, the readout dark. -/
def listening : State := inPart .listening run

/-- SLEEP. -/
def asleep : State := inPart .sleep run

/-- The speedometer of 2.3.1, with the hold time and homing speed of 2.8.1. -/
def speedo : GaugeRecord :=
  { enabled := true, source := some 7, breakpoints := [⟨0, 0⟩, ⟨12500, 6000⟩], fullScale := 6000, k := 3,
    standstill := none, speedLimit := 16, acceleration := 2, homingSpeed := 16, holdTime := 2000,
    rest := 0, bands := [] }

/-- The coolant gauge of 2.3.1 and 2.12.1. -/
def coolant : GaugeRecord :=
  { speedo with
    breakpoints := [⟨40, 0⟩, ⟨75, 1500⟩, ⟨95, 1500⟩, ⟨120, 3000⟩], fullScale := 3000
    bands := [⟨.high, 105, 100, 3000⟩] }

/-- A slot that station 2 wrote at a time. -/
def fresh (e : Int) (time : Nat) : Slot :=
  { value := e, quality := .fresh,
    writer := some { rank := .primary, staleLimit := 500, station := 2, time := time } }

/-- RUN with one gauge, gauge 0, on slot 7, which is FRESH; slot 7 is the road speed slot too. -/
def driving (r : GaugeRecord) (c : Channel) (e : Int) : State :=
  { run with
    tables := { run.tables with roadSlot := 7, gauges := run.tables.gauges.set 0 r }
    slots := run.slots.set 7 (fresh e 199900)
    gauges := { channels := run.gauges.channels.set 0 c, grace := .expired } }

/-- A TRACKING channel at a position, at rest. -/
def tracking (c f : Nat) : Channel :=
  { Channel.initial with state := .tracking, position := some c, damped := f, periodDue := some 200000 }

/-! ## Well-formedness: for each check a term that it refuses, and one that it takes -/

theorem test_wellFormed_image :
    Instr.wellFormed (.configImageRead []) = false
    ∧ Instr.wellFormed (.configImageRead (List.replicate 7168 0)) = true := by
  constructor
  · decide
  · simp [Instr.wellFormed]

theorem test_wellFormed_slotBytes :
    Instr.wellFormed (.restoreSlotRead (List.replicate 35 0)) = false
    ∧ Instr.wellFormed (.readBackComplete (List.replicate 37 0) 1) = false
    ∧ Instr.wellFormed (.restoreSlotRead (List.replicate 36 0)) = true
    ∧ Instr.wellFormed (.readBackComplete (List.replicate 36 0) 1) = true := by decide

theorem test_wellFormed_frame :
    Instr.wellFormed (.frameReceived ⟨0, 2, [0, 0], 0⟩) = false
    ∧ Instr.wellFormed (.frameReceived ⟨0, 5, [0], 0⟩) = false
    ∧ Instr.wellFormed (.frameReceived ⟨0, 1, [0, 0], 0⟩) = true
    ∧ Instr.wellFormed (.frameReceived ⟨0, 5, [], 0⟩) = true := by decide

theorem test_wellFormed_payload :
    Instr.wellFormed (.timeMark 1 [0]) = false ∧ Instr.wellFormed (.presence 1 [0]) = false
    ∧ Instr.wellFormed (.timeMark 1 (List.replicate 10 0)) = false
    ∧ Instr.wellFormed (.timeMark 1 (List.replicate 8 0)) = true := by decide

theorem test_wellFormed_args :
    Instr.wellFormed (.readState 1 [0]) = false ∧ Instr.wellFormed (.readSlot 1 [0]) = false
    ∧ Instr.wellFormed (.readRoster 1 [0]) = false ∧ Instr.wellFormed (.readHealth 1 [0]) = false
    ∧ Instr.wellFormed (.clearHealth 1 [0]) = false ∧ Instr.wellFormed (.readDistance 1 [0]) = false
    ∧ Instr.wellFormed (.testOverride 1 [0]) = false ∧ Instr.wellFormed (.endOverride 1 [0]) = false
    ∧ Instr.wellFormed (.ackErrorIndication 1 [0]) = false
    ∧ Instr.wellFormed (.readState 1 (List.replicate 8 0)) = false
    ∧ Instr.wellFormed (.readState 1 [0, 0]) = true := by decide

theorem test_wellFormed_unknownRequest :
    Instr.wellFormed (.unknownRequest 1 9 []) = false ∧ Instr.wellFormed (.unknownRequest 1 10 [0]) = false
    ∧ Instr.wellFormed (.unknownRequest 1 10 []) = true ∧ Instr.wellFormed (.unknownRequest 1 0 []) = true := by
  decide

/-- The table gives no row any bits: no word spells a command, and none is put into the queue. -/
theorem test_no_word_spells_a_command :
    decodeTableWord 8 0 = none ∧ decodeTableWord 16 65535 = none
    ∧ State.reset.withFetchWord 8 0 = State.reset := by decide

/-! ## Chapter 1 -/

/-- Tables 1-7 and 1-8. -/
theorem test_extraction :
    let p : List Byte := [0x00, 0x12, 0x34, 0x56, 0x78, 0x9A, 0xBC, 0xDE]
    let d : Descriptor :=
      { start := 8, length := 16, big := false, signed := false, reserve := false, numerator := 1,
        divisor := 1, offset := 0, target := 0, rank := .primary }
    extractField d p = 13330
    ∧ extractField { d with start := 4, length := 8 } p = 32
    ∧ interpretField { d with start := 60, length := 4, signed := true }
        (extractField { d with start := 60, length := 4 } p) = .value (-3)
    ∧ extractField { d with start := 32, big := true } p = 13398
    ∧ extractField { d with start := 56, length := 8, big := true } p = 0 := by decide

/-- Table 1-9. -/
theorem test_scaling :
    let d : Descriptor :=
      { start := 0, length := 32, big := false, signed := false, reserve := false, numerator := 100,
        divisor := 256, offset := 0, target := 0, rank := .primary }
    scaleValue d 21250 = 8301
    ∧ scaleValue { d with numerator := 5, divisor := 4, offset := -4000 } (-10) = -4013
    ∧ scaleValue { d with numerator := 3, divisor := 8 } 13330 = 4999
    ∧ scaleValue { d with numerator := 32767, divisor := 1, offset := 1000 } 4294967293 = 2147483647 := by
  decide

/-- The fields of the descriptor of a coolant slot (1.5.1). -/
def coolantField : Descriptor :=
  { start := 0, length := 8, big := false, signed := false, reserve := true, numerator := 1, divisor := 1,
    offset := 0, target := 7, rank := .primary }

/-- Table 1-6: the reserved codes of an 8-bit field. -/
theorem test_reserved_codes :
    interpretField coolantField 253 = .value 253 ∧ interpretField coolantField 254 = .faulted
    ∧ interpretField coolantField 255 = .absent := by decide

/-- A good frame of a station. -/
def goodFrame (topic sender : Nat) (payload : List Byte) : Frame :=
  { key := makeKey 3 topic sender, length := BitVec.ofNat 4 (payload.length / 2), payload := payload,
    check := BitVec.ofNat 16 (frameCheck (makeKey 3 topic sender) (payload.length / 2) payload) }

/-- RUN with an intake map of one entry for topic 35. -/
def withIntake (e : IntakeEntry) : State :=
  let s := driving coolant (tracking 0 0) 88
  { s with tables := { s.tables with intake := [e] } }

/-- Table 1-12, the rows at 0 and 100: a primary arrival is applied, a backup one discarded. -/
theorem test_frameReceived_ranks :
    let e : IntakeEntry :=
      { topic := 35, sender := none, sink := .signals, staleLimit := 500, descriptors := [coolantField] }
    let e' : IntakeEntry := { e with descriptors := [{ coolantField with rank := .backup }] }
    (after (.frameReceived (goodFrame 35 2 [90, 0])) (withIntake e)).slots[7] = fresh 90 200000
    ∧ (after (.frameReceived (goodFrame 35 2 [92, 0])) (withIntake e')).slots[7] = fresh 88 199900 := by
  decide

/-- R17, R34: the stale expiry holds the pointer for the hold time of 2000 ms (2.8.1). -/
theorem test_staleExpiry_holds :
    let t := after (.staleExpiry 7) (driving speedo (tracking 3000 0) 8301)
    t.now = 200400 ∧ t.slots[7].quality = .stale ∧ t.slots[7].value = 8301
    ∧ (channelOf t 0).state = .holding ∧ (channelOf t 0).holdDue = some 202400 := by decide

/-! ## Chapter 2 -/

/-- 2.3.1 with Table 2-8. -/
theorem test_characteristic :
    characteristic speedo.breakpoints 8301 = 3984 ∧ characteristic speedo.breakpoints 13000 = 6000
    ∧ characteristic speedo.breakpoints (-50) = 0
    ∧ [20, 60, 75, 88, 100, 130].map (characteristic coolant.breakpoints) = [0, 857, 1500, 1500, 1800, 3000]
    ∧ characteristic [⟨0, 2400⟩, ⟨1000, 0⟩] 333 = 1601 := by decide

/-- Table 2-9. -/
theorem test_damping :
    damp 3 3984 0 = 127488 ∧ damp 3 3984 127488 = 239040 ∧ damp 3 3984 239040 = 336648
    ∧ goalOf 127488 = 498 ∧ goalOf 239040 = 934 ∧ goalOf 336648 = 1315 := by decide

/-- Tables 2-10a, 2-10b and 2-10c: v = 8, a = 2. -/
theorem test_motion :
    let step := moveStep 8000 8 2
    let at1 (c s : Nat) : Motion := { position := c, speed := s, upward := true }
    [step 30 (at1 0 0), step 30 (at1 2 2), step 30 (at1 6 4), step 30 (at1 12 6), step 30 (at1 18 6),
      step 30 (at1 24 6), step 30 (at1 28 4)].map (fun m => (m.position, m.speed))
      = [(2, 2), (6, 4), (12, 6), (18, 6), (24, 6), (28, 4), (30, 0)]
    ∧ step 10 (at1 18 6) = at1 22 4 ∧ step 10 (at1 24 2) = at1 24 0
    ∧ step 10 (at1 24 0) = { position := 22, speed := 2, upward := false }
    ∧ step 15 (at1 12 6) = at1 16 4 ∧ step 15 (at1 18 2) = at1 18 0
    ∧ step 15 { position := 16, speed := 2, upward := false }
        = { position := 15, speed := 0, upward := false } := by decide

/-- Table 2-9, its first period, at a channel of the speedometer. -/
theorem test_motionPeriod_damps :
    let t := after (.motionPeriod 0) (driving speedo (tracking 0 0) 8301)
    (channelOf t 0).damped = 127488 ∧ (channelOf t 0).position = some 2
    ∧ (channelOf t 0).periodDue = some 200010 := by decide

/-- Table 2-13, its first row. -/
theorem test_stall_rehomes :
    let t := after (.stall 0) (driving speedo { tracking 3000 0 with stepping := true } 8301)
    (channelOf t 0).state = .homing ∧ (channelOf t 0).stalls = 1 ∧ (channelOf t 0).position = none
    ∧ t.monitor[(0 : Fin 10)].raw = 1 := by decide

/-- R37: the fourth stall. -/
theorem test_stall_fails :
    let t := after (.stall 0) (driving speedo { tracking 3000 0 with stepping := true, stalls := 3 } 8301)
    (channelOf t 0).state = .failed ∧ (channelOf t 0).fault = true ∧ t.control.errorIndication = true := by
  decide

/-- A channel in HOLDING that steps, its hold timer due at a moment. -/
def stalling (due : Nat) : State :=
  driving speedo { tracking 3000 0 with state := .holding, stepping := true, holdDue := some due } 8301

/-- R36: a stall and a hold expiry that has come due leave the same channel in either order, with hold spent; a timer
not yet due is only stopped (Table 2-13). -/
theorem test_stall_and_holdExpiry_in_either_order :
    channelOf (after (.holdExpiry 0) (after (.stall 0) (stalling 199990))) 0
      = channelOf (after (.stall 0) (after (.holdExpiry 0) (stalling 199990))) 0
    ∧ (channelOf (after (.stall 0) (stalling 199990)) 0).holdSpent = true
    ∧ (channelOf (after (.stall 0) (stalling 200880)) 0).holdSpent = false := by decide

/-- R34. -/
theorem test_holdExpiry_rests :
    let t := after (.holdExpiry 0)
      (driving speedo { tracking 3000 0 with state := .holding, holdDue := some 199999 } 8301)
    (channelOf t 0).state = .resting ∧ (channelOf t 0).rest = some .stale ∧ (channelOf t 0).holdSpent = true := by
  decide

/-- R26. -/
theorem test_standstillExpiry_turns_the_mode_on :
    (channelOf (after (.standstillExpiry 0)
      (driving speedo { tracking 0 0 with standDue := some 200000 } 0)) 0).standMode = true := by decide

/-- Table 3-11, its row at 2000: the never-grace expiry makes the fault of a channel RESTING for NEVER
true. -/
theorem test_neverGrace_raises_the_fault :
    let s := driving speedo { tracking 0 0 with state := .resting, rest := some .never } 0
    (channelOf (after .neverGraceExpiry { s with gauges := { s.gauges with grace := .running 200000 } }) 0).fault
      = true := by decide

/-- Table 2-15, its row at 4900: a band paused at 1100 ms and resumed at 3000 is ACTIVE 1900 ms later. -/
theorem test_persistenceExpiry_resumed :
    let s := driving coolant { tracking 0 0 with bands := #v[.running (200000 - 1100), .inactive] } 108
    let t := after (.persistenceExpiry 0 0) s
    t.now = 201900 ∧ (channelOf t 0).bands[0] = .active := by decide

/-! ## Chapters 3 and 4 -/

/-- A demand record. -/
def demandRecord (src : SourceRef) (p : Pattern) (latching : Bool) (g : Grade) (m : Nat) : DemandRecord :=
  { source := src, pattern := p, latching := latching, chime := some g, message := some m }

/-- A demand. -/
def demand (r : DemandRecord) (on : Bool) (st : DemandState) : Demand :=
  { record := r, condition := on, state := st }

/-- A lamp on an output, SHOWING. -/
def lampOn (o : Fin 32) (cls : LampClass) (ds : List Demand) : Lamp :=
  { output := o, cls := cls, proved := true, showAfterRun := false, demands := ds, state := .showing,
    shown := none, phase := 0, phaseDue := none }

/-- RUN with lamps. -/
def withLamps (ls : List Lamp) : State := { run with telltale := { run.telltale with lamps := ls } }

/-- The lamp of 3.9 with its two demands. -/
def sharedLamp : Lamp :=
  lampOn 4 .red
    [demand (demandRecord (.band 5 0) .blink false .urgent 13) false .inactive,
      demand (demandRecord (.station 0) (.flash 2) true .caution 60) false .inactive]

/-- A roster entry of 8.5's example. -/
def trailer : RosterEntry :=
  { record := { station := 22, role := .trailer2, required := true, silenceLimit := 300,
                coupling := some { slot := 41, mask := 1 } },
    state := .silent, acknowledged := false, lastHeard := some 199100, quietStart := some 199100,
    uncoupled := false }

/-- Table 3-13, its row at 0: the loss of the trailer lights FLASH-2, posts the chime and pop-up 60. -/
theorem test_lossMark_posts :
    let s := { withLamps [sharedLamp] with roster := { run.roster with entries := [trailer] } }
    let t := after (.lossMark 0) s
    t.roster.entries.map (fun e => e.state) = [.lost]
    ∧ t.telltale.lamps.map (fun l => l.shown) = [some (.flash 2)] ∧ t.telltale.red = true
    ∧ t.chime.entries.map (fun e => (e.id, e.group, e.state)) = [(.demand 4 1, .caution, .sounding)]
    ∧ t.readout.queue.map (fun e => (e.message, e.cls, e.nonLatched)) = [(60, .urgent, false)] := by decide

/-- Table 3-11, its row at 3000: the proving expiry posts what was deferred. -/
theorem test_provingExpiry_posts :
    let l := { lampOn 4 .red [demand (demandRecord (.station 0) (.flash 2) true .caution 60) true .active] with
      state := .proving }
    let s := inPart .start { withLamps [l] with telltale :=
      { run.telltale with lamps := [l], provingDue := some 200000, red := true } }
    let t := after .provingExpiry s
    t.telltale.lamps.map (fun l => (l.state, l.shown, l.phase)) = [(.showing, some (.flash 2), 0)]
    ∧ t.chime.entries.map (fun e => e.id) = [.demand 4 0]
    ∧ t.readout.queue.map (fun e => e.message) = [60] := by decide

/-- R58, Table 3-9: BLINK is on for 500 ms and off for 500 ms. -/
theorem test_lampPhase_blinks :
    let l := { lampOn 6 .amber [] with shown := some .blink, phase := 0, phaseDue := some 200000 }
    (after (.lampPhaseExpiry 6) (withLamps [l])).telltale.lamps.map (fun l => (l.lit, l.phaseDue))
      = [(false, some 200500)] := by decide

/-- R65, R66: a load fault of a lit RED lamp is counted and posts pop-up 57. -/
theorem test_lampLoadFault :
    let l := { lampOn 4 .red [] with shown := some .steady }
    let t := after (.lampLoadFault 4 .openLoad) (withLamps [l])
    t.monitor[(1 : Fin 10)].raw = 1 ∧ t.readout.queue.map (fun e => (e.message, e.cls)) = [(57, .caution)]
    ∧ (after (.lampLoadFault 4 .openLoad) t).monitor[(1 : Fin 10)].raw = 1 := by decide

/-- R66: faults on two RED lamps in proving post twice at its end; a full queue drops both (R87, H9). -/
theorem test_two_deferred_load_faults :
    let l (o : Fin 32) := { lampOn o .red [] with state := .proving, shown := some .steady }
    let popups := (List.range 8).map (fun i =>
      { message := i, cls := .urgent, nonLatched := false, order := i, state := .queued : PopupEntry })
    let s := inPart .start { withLamps [l 2, l 4] with telltale :=
      { run.telltale with lamps := [l 2, l 4], provingDue := some 200000 } }
    let t := after (.lampLoadFault 4 .shortLoad) (after (.lampLoadFault 2 .openLoad) s)
    t.readout.queue = [] ∧ t.monitor[(1 : Fin 10)].raw = 2
    ∧ (after .provingExpiry { t with readout := { t.readout with queue := popups } }).monitor[(9 : Fin 10)].raw = 2 := by
  decide

/-- R51: ANY is formed from the reports held; of two attributes exceeded it falls at the second's. -/
theorem test_any_health_is_held :
    let d := demand { demandRecord (.health none) .blink false .notice 5 with chime := none, message := none } true .active
    let s := { withLamps [lampOn 6 .amber [d]] with telltale :=
      { (withLamps [lampOn 6 .amber [d]]).telltale with health := ((Vector.replicate 10 false).set 3 true).set 5 true } }
    let t := takeSource (.health 3) false s
    let u := takeSource (.health 5) false t
    t.telltale.lamps.flatMap (fun l => l.demands.map (fun d => d.state)) = [.active]
    ∧ u.telltale.lamps.flatMap (fun l => l.demands.map (fun d => d.state)) = [.inactive] := by decide

/-- A chime entry. -/
def chimeEntry (i : Nat) (g : Grade) (st : ChimeState) (bursts : Nat) : ChimeEntry :=
  { id := .demand 4 i, group := g, state := st, bursts := bursts, order := i }

/-- RUN with a chime list, its pattern at a phase. -/
def withChimes (es : List ChimeEntry) (phase : Nat) : State :=
  { run with chime := { run.chime with entries := es, lastOrder := 9, phase := phase, phaseDue := some 200000 } }

/-- R68: a CAUTION entry is FINISHED after its third burst, and the oldest waiting entry sounds. -/
theorem test_chime_third_burst :
    (after .chimePatternTimer
      (withChimes [chimeEntry 0 .caution .sounding 2, chimeEntry 1 .notice .waiting 0] 2)).chime.entries.map
        (fun e => (e.state, e.bursts)) = [(.finished, 3), (.sounding, 0)] := by decide

/-! ## Chapter 5 -/

/-- A pop-up entry. -/
def popup (m : Nat) (g : Grade) (order : Nat) (st : PopupState) : PopupEntry :=
  { message := m, cls := g, nonLatched := false, order := order, state := st }

/-- RUN with a pop-up queue and buttons. -/
def withPopups (q : List PopupEntry) : State := { run with readout := { run.readout with queue := q } }

/-- RUN with a full pop-up queue: an URGENT entry showing and seven CAUTION ones. -/
def fullPopups : State :=
  withPopups (popup 10 .urgent 1 (.showing 0) :: (List.range 7).map (fun i => popup (i + 11) .caution (i + 2) .queued))

/-- The ACK button about to be debounced to RELEASED, its press short so far. -/
def releasing : ButtonInput :=
  { raw := false, pressed := true, debounceDue := some 200000, longDue := some 201000, held := false }

/-- Table 5-4, its row at 2500: ACK removes entry 60 at 1300 ms and the oldest CAUTION is selected. -/
theorem test_ack_removes_popup :
    let s := withPopups [popup 61 .caution 1 .queued, popup 60 .urgent 2 (.showing 1300),
      popup 57 .caution 3 .queued, popup 64 .notice 4 .queued]
    let t := after (.buttonDebounceExpiry .ack) { s with readout := { s.readout with ackButton := releasing } }
    t.readout.queue.map (fun e => (e.message, e.state)) = [(61, .showing 0), (57, .queued), (64, .queued)]
    ∧ t.readout.ackCount = 1 := by decide

/-- Table 5-4, its last row: the 10 000 ms life of entry 64 ends in a consumption. -/
theorem test_popupMark_consumes :
    let s := withPopups [popup 64 .notice 4 (.showing 9000)]
    let t := after (.popupTimeMark .ms10000) { s with driver := { s.driver with mailbox := .full 17 .notice [] } }
    t.now = 201000 ∧ t.readout.queue = [] ∧ t.driver.mailbox = .empty ∧ t.driver.lastConsumed = 17 := by decide

/-- R93, R116: TRIP held on the DISTANCE page. -/
theorem test_trip_resets_the_shown_trip :
    let s := { run with
      readout := { run.readout with tripButton := { releasing with raw := true, debounceDue := none } }
      distance := { run.distance with total := 1204352, tripA := 41279, tripB := 1 } }
    let t := after (.longPressExpiry .trip) s
    t.distance.tripA = 0 ∧ t.distance.tripB = 1 ∧ t.distance.total = 1204352 := by decide

/-- R92: the press of PAGE wakes the part from SLEEP. -/
theorem test_page_wakes :
    let t := after (.buttonDebounceExpiry .page) { asleep with readout :=
      { run.readout with pageButton := { releasing with raw := true, pressed := false } } }
    t.control.part = .listening ∧ t.readout.windowDue = some 230000 ∧ readoutLit t = true := by decide

/-- R78, Table 5-5: where the press of PAGE and the end of the window fall in one ms, the press restarts the
window, which then has not ended. -/
theorem test_restarted_window_does_not_end :
    let s := { listening with readout :=
      { run.readout with windowDue := some 200000, pageButton := releasing } }
    let t := after (.buttonDebounceExpiry .page) s
    reached s (.buttonDebounceExpiry .page) = true ∧ reached s .listeningWindowExpiry = true
    ∧ t.readout.windowDue = some 230000 ∧ reached t .listeningWindowExpiry = false := by decide

/-- R85: a mark is that of the entry which shows; one selected in the same ms has reached none. -/
theorem test_new_showing_entry_has_reached_no_mark :
    let s := withPopups [popup 5 .notice 1 (.showing 5000), popup 6 .notice 2 .queued]
    let t := after (.popupTimeMark .ms5000) s
    reached s (.popupTimeMark .ms5000) = true
    ∧ t.readout.queue.map (fun e => (e.message, e.state)) = [(6, .showing 0)]
    ∧ reached t (.popupTimeMark .ms5000) = false := by decide

/-! ## Chapter 6 -/

/-- A snapshot of Table 6-3: RB 16, CD 254, DD 512 and RD 90 minutes. -/
def snapshot : Snapshot :=
  { activity := .drive, card := .inserted, sequence := 41, continuous := some 15240, toBreak := some 960,
    daily := some 30720, toDaily := some 5400, arrival := 140000 }

/-- RUN with a record of driver 1. -/
def withDriver (r : DriverRecord) : State :=
  { run with driver := { run.driver with records := run.driver.records.set 0 r } }

/-- A CURRENT record of that snapshot, `e` seconds on. -/
def current (e : Nat) : DriverRecord :=
  { DriverRecord.initial with state := .current, snapshot := some snapshot, elapsed := e }

/-- Table 6-3, its row at 60 000. -/
theorem test_secondMark_breakSoon :
    let t := after (.secondMark 0) (withDriver (current 59))
    (driverRecord t 0).elapsed = 60 ∧ (driverRecord t 0).warnings.breakSoon = true
    ∧ displayed (driverRecord t 0)
        = { continuous := some 255, toBreak := some 15, daily := some 513, toDaily := some 89 } := by decide

/-- Table 6-3, its last row. -/
theorem test_driverStale_shows_nothing :
    let t := after (.driverStaleExpiry 0) (withDriver (current 89))
    t.now = 230000 ∧ (driverRecord t 0).state = .stale ∧ displayed (driverRecord t 0) = Figures.none
    ∧ (driverRecord t 0).warnings.breakSoon = false := by decide

/-- A clock of Table 6-9. -/
def clockAt (st : ClockState) (seconds ms : Nat) (slew : Option Int) : Clock :=
  { state := st, seconds := seconds, ms := ms, offset := 40, slew := slew, slewDue := some 200000,
    holdoverDue := some 200000, reported := some seconds }

/-- RUN with that clock, station 12 the time source. -/
def withClock (c : Clock) : State :=
  { run with
    tables := { run.tables with timeSource := some 12 }
    driver := { run.driver with clock := c } }

/-- A TIME MARK payload (Table 12-3) with offset +40. -/
def markPayload (seconds ms : Nat) : List Byte := leBytes 7 (seconds + ms * 2 ^ 32 + 40 * 2 ^ 42) ++ [0]

/-- Table 6-9, its rows at 60 000 and 400 000. -/
theorem test_timeMark_slews_and_steps :
    let t := after (.timeMark 12 (markPayload 1000061 750)) (withClock (clockAt .locked 1000060 250 none))
    let u := after (.timeMark 12 (markPayload 1000404 0)) (withClock (clockAt .holdover 1000400 650 none))
    t.driver.clock.state = .slewing ∧ t.driver.clock.slew = some 1500 ∧ t.driver.clock.ms = 250
    ∧ u.driver.clock.state = .locked ∧ u.driver.clock.seconds = 1000404 ∧ u.driver.clock.ms = 0
    ∧ u.monitor[(8 : Fin 10)].raw = 1 := by decide

/-- Table 6-9: one of the 300 slew steps of 1 ms, and the holdover expiry that discards the slew. -/
theorem test_slewStep_and_holdover :
    let t := after .slewStep (withClock (clockAt .slewing 1000060 250 (some 1500)))
    let u := after .holdoverExpiry (withClock (clockAt .slewing 1000100 650 (some 1100)))
    t.driver.clock.ms = 251 ∧ t.driver.clock.slew = some 1499
    ∧ u.driver.clock.state = .holdover ∧ u.driver.clock.slew = none := by decide

/-- R109: the ms that a negative slew step gives up is one in which the clock stands; it never shows .000 and then
.999 again. -/
theorem test_negative_slew_never_runs_backward :
    let s := withClock { clockAt .slewing 1000060 999 (some (-5)) with slewDue := some 200001 }
    let t := advance 1 s
    let u := after .slewStep t
    let v := advance 1 u
    t.driver.clock.ms = 999 ∧ u.driver.clock.ms = 999 ∧ u.driver.clock.slew = some (-4)
    ∧ (v.driver.clock.seconds, v.driver.clock.ms) = (1000061, 0)
    ∧ (advance 1000 s).driver.clock.seconds = 1000061 ∧ (advance 1000 s).driver.clock.ms = 994 := by decide

/-- Table 6-9: the time of day at its first mark. -/
theorem test_timeOfDay : timeOfDay (clockAt .locked 1000000 250 none) = 85600 := by decide

/-! ## Chapter 7 -/

/-- RUN with the distances before sample 5 of Table 7-2, road speed 83.01 km/h. -/
def sampling : State :=
  let s := driving speedo Channel.initial 8301
  { s with distance :=
    { total := 1204350, tripA := 41277, tripB := 9999999, accumulator := 33204, reference := 1204350,
      sampleDue := some 200000 } }

/-- Table 7-2, sample 5. -/
theorem test_distanceSample :
    (after .distanceSample sampling).distance
      = { total := 1204351, tripA := 41278, tripB := 0, accumulator := 5505, reference := 1204350,
          sampleDue := some 200100 } := by decide

/-- Table 7-3, its second and third rows. -/
theorem test_recorderDistance :
    let e : IntakeEntry := { topic := 35, sender := none, sink := .recorderDistance, staleLimit := 500, descriptors := [] }
    let s := { withIntake e with distance :=
      { run.distance with total := 1204352, tripA := 41279, tripB := 1, reference := 1204350 } }
    let t := after (.frameReceived (goodFrame 35 2 (leBytes 4 12043645))) s
    let u := after (.frameReceived (goodFrame 35 2 (leBytes 4 12103640))) t
    (t.distance.total, t.distance.tripA, t.distance.tripB) = (1204364, 41291, 13)
    ∧ (u.distance.total, u.distance.tripA, u.distance.tripB) = (1210364, 41291, 13)
    ∧ t.monitor[(7 : Fin 10)].raw = 0 ∧ u.monitor[(7 : Fin 10)].raw = 1 := by decide

/-- Record 813 of 12.2.1. -/
def record813 : StoredRecord :=
  { sequence := 813, total := 1204450, tripA := 0, tripB := 0, retired := 0xFF9DB, stamp := some 1,
    health := none }

/-- 12.2.1. -/
theorem test_record_bytes :
    (encodeRecord record813).take 8 = [0x2D, 0x03, 0x00, 0x00, 0xE2, 0x60, 0x12, 0x00]
    ∧ ((encodeRecord record813).drop 16).take 4 = [0xDB, 0xF9, 0x0F, 0x01]
    ∧ ((encodeRecord record813).drop 24).take 10 = List.replicate 10 0
    ∧ validRecord (encodeRecord record813) = some record813 := by decide

/-- The store of Table 7-6: slots 2, 5, 6, 9 and 10 LIVE, the newest slot 5 with record 812. -/
def storeBefore : Store :=
  { run.store with
    retired := 0xFF99B, newest := some 5, newestSequence := 812
    health := some { worst := Vector.replicate 10 100, slot := some 5 } }

/-- RUN with a write in flight. -/
def writing (w : Write) (pendingToo : Bool) : State :=
  { run with
    store := { storeBefore with write := some w, attempts := 1, requestPending := pendingToo }
    distance := { run.distance with total := 1204451, reference := 1204450 } }

/-- A write of record 813 as formed at 0 (its mask: slot 6 not yet RETIRED), its attempt the first. -/
def write813 (second : Bool) (phase : WritePhase) : Write :=
  firstAttempt 199980 1 { record813 with retired := 0xFF99B } 6 (Vector.replicate 10 100)
    |> fun w => { w with second := second, phase := phase, due := 200000 }

/-- Table 7-6, its first row: slot 6 is the target, with no health block. -/
theorem test_supplyLow_target :
    let s := { run with store := storeBefore, distance := { run.distance with total := 1204450 } }
    ((after .supplyLow s).store.write).map (fun w => (w.target, w.record.sequence, w.record.total, w.record.health))
      = some (6, 813, 1204450, none) := by decide

/-- Table 7-6, its rows at 4 and 5. -/
theorem test_programming_then_readBack_differs :
    let t := after (.programmingComplete 1) (writing (write813 false .programming) false)
    let u := after (.readBackComplete [] 1) t
    t.store.write.map (fun w => w.phase) = some .verifying
    ∧ u.store.write.map (fun w => (w.target, w.second, w.phase, w.number)) = some (6, true, .programming, 2) := by
  decide

/-- R121: a completion report that comes after the timer expiry of its attempt is disregarded; that of the
attempt which follows is taken. -/
theorem test_late_report_is_disregarded :
    let t := after .writeAttemptTimeout (writing (write813 false .programming) false)
    (after (.programmingComplete 1) t).store.write.map (fun w => (w.second, w.phase)) = some (true, .programming)
    ∧ (after (.programmingComplete 2) t).store.write.map (fun w => (w.second, w.phase)) = some (true, .verifying) := by
  decide

/-- Table 7-6, its row at 25: slot 6 is retired and 813 rewritten to 9. -/
theorem test_writeAttemptTimeout_retires :
    let t := after .writeAttemptTimeout (writing (write813 true .programming) true)
    t.store.retired = 0xFF9DB ∧ t.store.state = .degraded ∧ t.monitor[(6 : Fin 10)].raw = 1
    ∧ t.store.write.map (fun w => (w.target, w.second, w.record.sequence, w.record.retired))
        = some (9, false, 813, 0xFF9DB)
    ∧ t.store.write.map (fun w => w.sent) = some (encodeRecord record813) ∧ t.store.requestPending = true
    ∧ t.readout.queue.map (fun e => e.message) = [61] := by decide

/-- R119, R122: where the slot that is retired held the health block, the rewrite carries the block. -/
theorem test_rewrite_decides_the_block_anew :
    let s := writing (write813 true .programming) false
    let t := after .writeAttemptTimeout { s with
      store := { s.store with health := some { worst := Vector.replicate 10 100, slot := some 6 } } }
    t.store.health = some { worst := Vector.replicate 10 100, slot := none }
    ∧ t.store.write.map (fun w => w.record.health) = some (some (Vector.replicate 10 100)) := by decide

/-- Table 7-6, its row at 30: 813 is verified in 9 and the pending request writes 814 to 10. -/
theorem test_readBack_verifies :
    let w := { firstAttempt 199980 1 record813 9 (Vector.replicate 10 100) with phase := .verifying }
    let s := { run with
      store := { storeBefore with retired := 0xFF9DB, state := .degraded, write := some w, requestPending := true }
      distance := { run.distance with total := 1204451 } }
    let t := after (.readBackComplete w.sent 1) s
    t.store.newest = some 9 ∧ t.store.newestSequence = 813 ∧ t.store.requestPending = false
    ∧ t.store.write.map (fun w => (w.target, w.record.sequence, w.record.total, w.record.health))
        = some (10, 814, 1204451, none) := by decide

/-- Table 7-7: record 814 is selected, the block of 812 in slot 5 restored, and the store DEGRADED. -/
theorem test_restore_selects :
    let block := (Vector.replicate 10 100).set 3 90
    let r812 := { record813 with sequence := 812, retired := 0xFF99B, health := some block }
    let found : List (Fin 20 × StoredRecord) :=
      [(5, r812), (6, { record813 with retired := 0xFF99B }), (9, record813),
        (10, { record813 with sequence := 814, total := 1204451 })]
    let s := { State.reset with
      control := { State.reset.control with load := .restoring }
      store := { State.reset.store with restoreNext := 19, found := found } }
    let t := after (.restoreSlotRead (List.replicate 36 0xFF)) s
    t.store.newest = some 10 ∧ t.distance.total = 1204451 ∧ t.store.state = .degraded
    ∧ t.store.health = some { worst := block, slot := some 5 } ∧ t.monitor[(3 : Fin 10)].worst = 90 := by decide

/-! ## Chapters 8 to 12 -/

/-- Table 8-6, its row at 300; Table 3-11, its row at 1500. -/
theorem test_silence_and_census :
    let s := { run with roster := { run.roster with
      entries := [{ trailer with state := .present }, { trailer with state := .unknown, quietStart := none }]
      censusDue := some 200000 } }
    (after (.silenceMark 0) s).roster.entries.map (fun e => e.state) = [.silent, .unknown]
    ∧ (after .censusClose s).roster.entries.map (fun e => e.state) = [.present, .absent]
    ∧ (after .censusClose s).roster.censusComplete = true := by decide

/-- A transmit queue entry. -/
def txEntry (kind : TxKind) (order : Nat) (st : TxState) : TxEntry :=
  { key := txKey kind 63, payload := [0, 0], kind := kind, placer := txPlacer kind, order := order, state := st }

/-- RUN with a transmit queue. -/
def withQueue (q : List TxEntry) : State := { run with line := { run.line with queue := q } }

/-- Table 9-5: the sixteenth UNHEARD mutes the line and adds 2 to H3. -/
theorem test_sixteenth_failure :
    let s := withQueue [txEntry .clusterStatus 1 .inTransmission]
    let t := after (.transmissionEnd .unheard) { s with
      line := { s.line with failures := 15 }
      monitor := s.monitor.set 3 { s.monitor[3] with raw := 15 } }
    t.line.state = .muted ∧ t.line.failures = 16 ∧ t.line.mutingDue = some 201000
    ∧ t.monitor[(3 : Fin 10)].raw = 17
    ∧ t.line.queue = [txEntry .clusterStatus 1 .waiting] := by decide

/-- Table 9-5: CLUSTER STATUS content replaced in place, and the muting expiry that starts it. -/
theorem test_muting_queue :
    let s := withQueue [txEntry .clusterStatus 1 .waiting, txEntry .distanceReport 2 .waiting]
    let s := { s with
      line := { s.line with state := .muted, failures := 16, mutingDue := some 200000, quiet := true }
      control := { s.control with statusDue := some 200000, statusPeriod := 100 } }
    (after .clusterStatusTimer s).line.queue.map (fun e => (e.kind, e.order))
      = [(.clusterStatus, 1), (.distanceReport, 2)]
    ∧ (after .mutingExpiry s).line.queue.map (fun e => e.state) = [.inTransmission, .waiting]
    ∧ (after .mutingExpiry s).line.failures = 0 := by decide

/-- Table 10-3: weight 32 and threshold 60 after 15, 17 and 20 counts, and the note on weight 255. -/
theorem test_normalized :
    [15, 17, 20].map (fun n => normalizedValue n 32) = [70, 66, 60] ∧ exceedsThreshold 60 60 = true
    ∧ exceedsThreshold 60 66 = false ∧ normalizedValue 7 255 = 1 := by decide

/-- Table 10-3, its steps 6 and 7. -/
theorem test_clearHealth :
    let s := { run with
      tables := { run.tables with ownStation := 5 }
      monitor := run.monitor.set 3 { raw := 20, normalized := 60, worst := 60, exceeded := true } }
    let t := after (.clearHealth 9 []) s
    t.monitor[(3 : Fin 10)] = { raw := 0, normalized := 100, worst := 100, exceeded := false }
    ∧ (t.store.write.bind (fun w => w.record.health)) = some (Vector.replicate 10 100)
    ∧ t.line.queue.map (fun e => e.payload) = [[9, 5, 0, 0]] := by decide

/-- Table 3-12: the override is granted, and a red band ends it. -/
theorem test_override_and_red :
    let amber := lampOn 6 .amber [demand (demandRecord (.band 0 0) .blink true .notice 5) false .latched]
    let red := lampOn 2 .red [demand (demandRecord (.band 4 0) .flicker false .urgent 12) false .inactive]
    let s := withLamps [red, amber]
    let ch := { (channelOf s 4) with bands := #v[.running 199000, .inactive] }
    let s := { s with
      tables := { s.tables with ownStation := 5
                                gauges := s.tables.gauges.set 4 { fallbackGauge with bands := [⟨.low, 5, 6, 1000⟩] } }
      gauges := { s.gauges with channels := s.gauges.channels.set 4 ch } }
    let t := after (.testOverride 9 [14, 128, 0, 0]) s
    let u := after (.persistenceExpiry 4 0) t
    t.telltale.lamps.map (fun l => (l.state, l.shown)) = [(.overridden, some .steady), (.overridden, some .steady)]
    ∧ t.service.override.due = some 260000
    ∧ u.telltale.lamps.map (fun l => (l.state, l.shown)) = [(.showing, some .flicker), (.showing, some .blink)]
    ∧ u.service.override.inForce = false := by decide

/-- R168, Table 12-5: READ-DISTANCE of trip A; an item that the table does not give. -/
theorem test_readDistance :
    let s := { run with distance := { run.distance with tripA := 41279 } }
    (after (.readDistance 9 [1, 0]) s).line.queue.map (fun e => e.payload)
      = [[9, 6, 0, 0x3F, 0xA1, 0, 0, 0]]
    ∧ (after (.readDistance 9 [3, 0]) s).line.queue.map (fun e => e.payload) = [[9, 6, 2, 0]] := by decide

/-- R167: a code that Table 11-3 does not give draws UNKNOWN-REQUEST. -/
theorem test_unknownRequest :
    (after (.unknownRequest 9 10 []) run).line.queue.map (fun e => e.payload) = [[9, 10, 3, 0]] := by decide

/-- A gauge record of Table 12-9: full scale 4000, breakpoints (0, 0) and (12000, 4000), the six bytes of its
standstill items as given. -/
def gaugeBytes (standstill : List Byte) : List Byte :=
  [1, 7, 0xA0, 0x0F, 3] ++ standstill ++ [16, 2, 16, 0xF4, 1, 0, 0, 2, 0, 0, 0, 0, 0, 0, 0,
    0xE0, 0x2E, 0, 0, 0xA0, 0x0F]

/-- A configuration area by Tables 12-7 to 12-9 and 12-12, its check worked out apart from the model: five
standstill slots and the coupling slot of its one station are absent, their other bytes arbitrary (R172). -/
def imageArea : List Byte :=
  [0xE7, 0x00, 0x3A, 0xE8, 5, 7, 255, 255, 13] ++ (List.replicate 10 [16, 50]).flatten
    ++ gaugeBytes [8, 100, 0, 0, 0, 1] ++ (List.replicate 5 (gaugeBytes (255 :: List.replicate 5 0xEE))).flatten
    ++ [0, 0, 1, 22, 6, 1, 0x2C, 1, 255, 0xEE, 0xEE, 0xEE, 0xEE, 0]

/-- R159, R172: what the image holds, read past the fields that are in it and not read. -/
theorem test_image_with_absent_slots :
    (checkImage imageArea).map (fun t => (t.ownStation, t.roadSlot, t.timeSource, t.warningLead))
      = some (5, 7, none, 15)
    ∧ (checkImage imageArea).map (fun t => t.gauges.toList.map (fun g => g.standstill))
      = some (some { slot := 8, threshold := 100, kFast := 1 } :: List.replicate 5 none)
    ∧ (checkImage imageArea).map (fun t => t.gauges.toList.map (fun g => (g.holdTime, g.breakpoints)))
      = some (List.replicate 6 (500, [⟨0, 0⟩, ⟨12000, 4000⟩]))
    ∧ (checkImage imageArea).map (fun t => t.roster)
      = some [{ station := 22, role := .trailer2, required := true, silenceLimit := 300, coupling := none }] := by
  decide

/-- R136, Table 12-3: the part's PRESENCE at START entry has its starting flag set and role CLUSTER. -/
theorem test_ignition_enters_start :
    let t := after .ignitionDebounceExpiry { listening with
      control := { listening.control with ignitionRaw := true, ignitionDue := some 200000 } }
    t.control.part = .start ∧ t.telltale.provingDue = some 203000
    ∧ (t.line.queue.map (fun e => (e.kind, e.payload))).head? = some (.presence, [0x13, 0]) := by decide

/-- R38, 00_scope.md 4.5: ignition off at C = 0 enters PARKED at once, and s keeps its value. -/
theorem test_park_keeps_speed :
    let c := { tracking 0 0 with speed := 4 }
    let s := driving speedo c 0
    let t := after .ignitionDebounceExpiry { s with
      control := { s.control with ignition := true, ignitionDue := some 200000 } }
    (channelOf t 0).state = .parked ∧ (channelOf t 0).speed = 4 ∧ (channelOf t 0).periodDue = none := by decide

/-- R162: ignition off enters AFTER-RUN for 30 s, whose end enters LISTENING with a write asked for. -/
theorem test_after_run :
    let t := after .ignitionDebounceExpiry { run with
      control := { run.control with ignition := true, ignitionDue := some 200000 } }
    let u := after .afterRunExpiry t
    t.control.part = .afterRun ∧ t.control.afterRunDue = some 230000
    ∧ u.control.part = .listening ∧ u.store.write.isSome = true := by decide

/-- The CRC of R170 over the nine ASCII digits "123456789" is 0x29B1, the published check value of this
polynomial with a register of all ones and nothing inverted. -/
theorem test_crc :
    memoryCheck [0x31, 0x32, 0x33, 0x34, 0x35, 0x36, 0x37, 0x38, 0x39] = 0x29B1 := by decide

/-! ## Witnesses: for each statement with hypotheses, states and operands that meet them, clause by clause

A witness of a statement about a timer's command names the moment the timer is due. -/

/-- RUN with commands waiting. -/
def queued : State := { run with pending := [.supplyLow, .distanceSample] }

theorem witness_StepTakesFrontCommand : queued.pending = .supplyLow :: [.distanceSample] := by decide

theorem witness_EmptyQueueTicks :
    let s := { run with control := { run.control with statusDue := some 200000 } }
    s.pending = [] ∧ s.scan ≤ 205 ∧ allTimers[205]? = some .clusterStatusTimer
    ∧ reached s .clusterStatusTimer = true
    ∧ (allTimers.take 205).all (fun c => !reached s c) = true
    ∧ run.pending = [] ∧ allTimers.all (fun c => !reached run c) = true := by decide

/-- The tick at which a negative slew step comes due, and one at which none does. -/
theorem witness_EmptyQueueTicks_slew :
    let s := withClock { clockAt .slewing 1000060 250 (some (-1)) with slewDue := some 200001, holdoverDue := none }
    s.pending = [] ∧ allTimers.all (fun c => !reached s c) = true ∧ ClockLaw s
    ∧ givesUpAt s.driver.clock (s.now + 1) ∧ ¬ givesUpAt run.driver.clock (run.now + 1) := by
  refine ⟨by decide, by decide, by decide, ⟨-1, 200001, rfl, by decide, rfl, 0, by decide, rfl⟩, ?_⟩
  rintro ⟨r, due, h, -⟩
  revert h
  decide +revert

/-- RUN with every block at work: a pointer on its dial, a write in flight, a chime, a pop-up, a LOST
trailer, a frame in transmission, a count, a clock. -/
def busy : State :=
  { driving coolant (tracking 1500 384000) 88 with
    store := { storeBefore with write := some (write813 false .programming) }
    chime := { run.chime with
      entries := [chimeEntry 0 .urgent .sounding 0, chimeEntry 1 .notice .waiting 0], lastOrder := 1
      phaseDue := some 200150 }
    readout := { run.readout with queue := [popup 60 .urgent 1 (.showing 500), popup 61 .caution 2 .queued] }
    roster := { run.roster with entries := [{ trailer with state := .lost, quietStart := none }] }
    line := { run.line with queue :=
      [txEntry .clusterStatus 1 .inTransmission, txEntry .clusterStatus 2 .waiting] }
    monitor := run.monitor.set 3 { raw := 20, normalized := 80, worst := 60, exceeded := false }
    driver := { run.driver with clock := clockAt .locked 1000060 999 none }
    distance := { run.distance with total := 999999999, tripA := 9999999, tripB := 0, accumulator := 35999 }
    pending := [.distanceSample] }

theorem witness_StepKeeps_laws :
    PointerLaw busy ∧ DistanceLaw busy ∧ ClockLaw busy ∧ StoreLaw busy ∧ PopupLaw busy ∧ ChimeLaw busy
    ∧ RosterLaw busy ∧ HealthLaw busy ∧ FaultLaw busy ∧ TablesLaw busy ∧ LoadingLineLaw busy
    ∧ OutputsLaw (withLamps [lampOn 4 .red [], lampOn 6 .amber []]) ∧ AwakeLaw busy ∧ busy.control.part ≠ .loading
    ∧ step busy = .next (after .distanceSample (busy.setPending [])) := by
  refine ⟨by decide, by decide, by decide, by decide, by decide, by decide, by decide, by decide,
    by decide, by decide, by decide, by decide, by decide, by decide, rfl⟩

/-- An AMBER lamp with a LATCHED demand. -/
def latchedLamp (st : LampState) (shown : Option Pattern) : Lamp :=
  { lampOn 6 .amber [demand (demandRecord (.band 0 0) .blink true .notice 5) false .latched] with
    state := st, shown := shown }

theorem witness_StepKeepsLampLawAndFifthLaw :
    let s := { withLamps [latchedLamp .showing (some .blink)] with pending := [.distanceSample] }
    let o := { withLamps [latchedLamp .overridden (some .steady)] with service := { run.service with override :=
      { inForce := true, pattern := .steady, fraction := 128, beep := false, due := some 200000, red := false } } }
    LampLaw s ∧ step s = .next (after .distanceSample (s.setPending [])) ∧ LampLaw o
    ∧ s.control.part = .run ∧ s.service.override.inForce = false
    ∧ (∃ l ∈ s.telltale.lamps, ∃ d ∈ l.demands, d.state ≠ .inactive)
    ∧ LampLaw (inPart .afterRun (withLamps [latchedLamp .afterRun none]))
    ∧ LampLaw (inPart .listening (withLamps [latchedLamp .off none]))
    ∧ LampLaw (inPart .sleep (withLamps [latchedLamp .off none])) := by
  refine ⟨by decide, rfl, by decide, by decide, by decide, by decide, by decide, by decide, by decide⟩

/-- A queue of each kind that the selection of R84 finds: empty, with the highest class SHOWING, with a QUEUED entry of
a higher class, with none SHOWING. -/
theorem witness_StepKeepsPopupLaw :
    let q := [popup 57 .caution 1 (.showing 500), popup 61 .caution 2 .queued]
    let raised := [popup 57 .caution 1 (.showing 500), popup 61 .urgent 2 .queued]
    PopupLaw (withPopups q) ∧ (∃ e ∈ q, e.message = 61) ∧ (∀ e ∈ q, e.message ≠ 5) ∧ q.length < 8
    ∧ PopupLaw run ∧ PopupLaw (withPopups (fullPopups.readout.queue.take 7))
    ∧ (fullPopups.readout.queue.take 7).length < 8 ∧ (∀ e ∈ fullPopups.readout.queue.take 7, e.message ≠ 5)
    ∧ (raised.map (fun e => e.message)).Nodup ∧ (raised.filter PopupEntry.isShowing).length ≤ 1
    ∧ (∀ e ∈ raised, e.isShowing = true → ∃ f ∈ raised, e.cls.rank < f.cls.rank)
    ∧ (∀ e ∈ raised.drop 1, e.isShowing = false) := by decide

/-- R83, R84: a class raise above the SHOWING entry preempts it; of two QUEUED of one class the older is selected. -/
theorem test_popup_raise_preempts :
    let s := withPopups [popup 57 .caution 1 (.showing 500), popup 61 .caution 2 .queued]
    (postPopup 61 .urgent false s).readout.queue.map (fun e => (e.message, e.order, e.state))
      = [(57, 1, .queued), (61, 2, .showing 0)]
    ∧ (settlePopups [popup 57 .caution 3 .queued, popup 61 .caution 2 .queued]).map (fun e => e.state)
      = [.queued, .showing 0] := by decide

/-- The third burst of a CAUTION entry ends beside two that wait; an URGENT one that SOUNDS stays. -/
theorem witness_StepKeepsChimeLaw :
    let c := { withChimes
      [chimeEntry 0 .caution .sounding 2, chimeEntry 1 .caution .waiting 0, chimeEntry 2 .caution .preempted 1] 2 with
      pending := [.chimePatternTimer] }
    let t := after .chimePatternTimer (c.setPending [])
    ChimeLaw c ∧ step c = .next t ∧ t.chime.entries.map (fun e => e.state) = [.finished, .sounding, .preempted]
    ∧ t.chime.phase = 0 ∧ t.chime.phaseDue = some 200200
    ∧ ChimeLaw busy ∧ (busy.chime.entries.map (fun e => e.state)) = [.sounding, .waiting] := by
  refine ⟨by decide, rfl, by decide, by decide, by decide, by decide, by decide⟩

theorem witness_StepKeepsQueueLaw : QueueLaw busy :=
  ⟨by decide, by decide, fun k hk => by cases k <;> revert hk <;> decide⟩

theorem witness_TotalNeverDecreases :
    ∀ l rest, busy.pending ≠ .powerOn l :: rest := by
  intro l rest h
  exact Instr.noConfusion (List.cons.inj h).1

theorem witness_RemainingMinutesNeverIncrease :
    let s := withDriver (current 59)
    exec (.secondMark 0) s = .next (after (.secondMark 0) s)
    ∧ (driverRecord s 0).state = .current ∧ (driverRecord (after (.secondMark 0) s) 0).state = .current
    ∧ (driverRecord (after (.secondMark 0) s) 0).snapshot = (driverRecord s 0).snapshot
    ∧ (displayed (driverRecord s 0)).toBreak = some 16
    ∧ (displayed (driverRecord (after (.secondMark 0) s) 0)).toBreak = some 15
    ∧ (displayed (driverRecord s 0)).toDaily = some 90
    ∧ (displayed (driverRecord (after (.secondMark 0) s) 0)).toDaily = some 89 :=
  ⟨rfl, by decide⟩

theorem witness_ClusterStatusBits :
    run.driver.lastConsumed < 256 ∧ run.readout.ackCount < 16
    ∧ { run with driver := { run.driver with lastConsumed := 255 } }.driver.lastConsumed < 256 := by decide

/-- The length, sign and reserve of a field, each at an end of its range. -/
theorem witness_RawFieldsAreInterpretedAndScaled :
    1 ≤ coolantField.divisor ∧ 1 ≤ coolantField.length
    ∧ 255 = 2 ^ coolantField.length - 1 ∧ 254 = 2 ^ coolantField.length - 2 ∧ 253 + 2 < 2 ^ coolantField.length
    ∧ coolantField.signed = false ∧ coolantField.reserve = true
    ∧ [0x5A, 1, 2, 3, 4, 5, 6, (7 : Byte)].length ≤ 8 ∧ coolantField.start + coolantField.length ≤ 64
    ∧ { coolantField with start := 56, big := true }.start + { coolantField with start := 56 }.length ≤ 64
    ∧ { coolantField with signed := true, reserve := false, length := 1 }.length = 1
    ∧ (2147483647 : Int) < 1000 + 140733193289731 ∧ (-5 : Int) - 2147483648 < -2147483648 := by decide

theorem witness_CharacteristicInterpolates :
    coolant.breakpoints.Pairwise (fun p q => p.value < q.value)
    ∧ (∀ p ∈ coolant.breakpoints, p.position ≤ 3000)
    ∧ coolant.breakpoints.head? = some ⟨40, 0⟩ ∧ coolant.breakpoints.getLast? = some ⟨120, 3000⟩
    ∧ coolant.breakpoints[1]? = some ⟨75, 1500⟩ ∧ coolant.breakpoints[1 + 1]? = some ⟨95, 1500⟩
    ∧ (40 : Int) ≤ 40 ∧ (120 : Int) ≤ 120 ∧ (75 : Int) ≤ 75 ∧ (94 : Int) < 95 := by decide

theorem witness_DampingAndMotionStayWithinLimits :
    0 ≤ 256 * 3984 ∧ 256 * 3984 ≤ 256 * 3984 ∧ 3 ≤ 7 ∧ damp 3 3984 (256 * 3984) = 256 * 3984
    ∧ (moveStep 8000 8 2 30 { position := 28, speed := 4, upward := true }).position = 30
    ∧ (moveStep 8000 8 2 30 { position := 8000, speed := 8, upward := true }).position ≠ 30 := by decide

/-- R27: the stopping distances with a = 2, and a state and a goal for each of the three cases (Tables 2-10a to
2-10c). -/
theorem witness_DampingAndMotionStayWithinLimits_cases :
    [stopping 2 2, stopping 2 4, stopping 2 6, stopping 2 8] = [0, 2, 6, 12]
    ∧ (let m : Motion := { position := 18, speed := 6, upward := true }
       m.position ≤ 8000 ∧ m.speed ≤ 8 ∧ 0 < m.speed ∧ (10 < m.position ∧ m.upward = true) ∧ ¬ m.position < 30 - 12
       ∧ moveStep 8000 8 2 10 m = { position := 22, speed := 4, upward := true }
       ∧ moveStep 8000 8 2 30 m = { position := 24, speed := 6, upward := true }
       ∧ moveStep 8000 8 2 18 m = { m with speed := 0 })
    ∧ moveStep 8000 8 2 15 { position := 16, speed := 2, upward := false }
        = { position := 15, speed := 0, upward := false } := by decide

theorem witness_InputChangeRestartsDebounce : AwakeLaw run ∧ AwakeLaw State.reset := by decide

theorem witness_ImageIsCheckedAndHandedOut :
    AwakeLaw State.reset ∧ State.reset.control.part = .loading ∧ State.reset.control.load = .readingImage
    ∧ AwakeLaw run ∧ ¬ (run.control.part = .loading ∧ run.control.load = .readingImage)
    ∧ (checkImage imageArea).isSome = true := by decide

/-- Tables with a gauge of each band, an intake entry, a lamp with a demand and a trailer, whose figures stand at ends
of their ranges. -/
def smallTables : Tables :=
  { fallbackTables with
    ownStation := 0, timeSource := some 63, warningLead := 60
    gauges := Vector.replicate 6 { coolant with
      breakpoints := [⟨-2147483648, 0⟩, ⟨2147483647, 3000⟩]
      standstill := some { slot := 63, threshold := -1, kFast := 7 } }
    intake := [{ topic := 127, sender := none, sink := .signals, staleLimit := 20, descriptors := [
      { start := 63, length := 1, big := true, signed := true, reserve := false, numerator := -32768,
        divisor := 65535, offset := 2147483647, target := 63, rank := .backup }] }]
    lamps := [{ output := 31, cls := .red, proved := true, afterRun := false, demands := [
      demandRecord (.gaugeFault 5) (.flash 12) true .urgent 63] }]
    roster := [{ station := 63, role := .trailer3, required := true, silenceLimit := 100,
                 coupling := some { slot := 0, mask := 0xFFFFFFFF } }]
    texts := [{ message := 55, codes := List.replicate 20 127 }] }

/-- The tables of an image that passes its check, and are read back. -/
theorem witness_ImageIsCheckedAndHandedOut_readBack : TablesAdmitted smallTables ∧ TablesFit smallTables where
  left :=
    { own := by decide
      source := by intro n h; cases h; decide
      lead := by decide
      health := by decide
      gauges := by intro g; fin_cases g <;> decide
      intakeCount := by decide
      intake := by
        intro e h
        simp only [smallTables, List.mem_singleton] at h
        subst h
        exact ⟨by decide, by decide, (fun n h => nomatch h), by decide, by decide, by decide, by decide⟩
      lampCount := by decide
      outputs := by decide
      lampDemands := by
        intro l h
        simp only [smallTables, List.mem_singleton] at h
        subst h
        refine ⟨by decide, fun d h => ?_⟩
        simp only [List.mem_singleton] at h
        subst h
        refine ⟨fun g i h => (nomatch h), fun n h => (nomatch h), fun n h => ?_, fun m h => ?_⟩
        · cases h; decide
        · cases h; exact ⟨by decide, fun h => absurd h (by decide)⟩
      demandCount := by decide
      rosterCount := by decide
      roster := by
        intro e h
        simp only [smallTables, List.mem_singleton] at h
        subst h
        exact ⟨⟨by decide, by decide, fun c h => by cases h; decide⟩, by decide⟩
      stations := by decide }
  right :=
    { breakpoints := by intro g; fin_cases g <;> decide
      bands := by intro g; fin_cases g <;> decide
      standstill := by intro g; fin_cases g <;> decide
      descriptors := by decide
      texts := by decide
      room := by decide }

/-- Table 12-11, 12-12: bytes of a demand and of a roster entry as the tables give them. -/
theorem test_image_bytes :
    demandImage (demandRecord (.band 5 1) (.flash 2) true .caution 60) = [1, 5, 1, 0, 0, 0, 0, 3, 1, 1, 60]
    ∧ (smallTables.roster.map rosterImage) = [[63, 7, 1, 100, 0, 0, 0xFF, 0xFF, 0xFF, 0xFF]] := by decide

theorem witness_RecordIsReadBackAsWritten :
    record813.sequence < 4294967296 ∧ record813.total < 4294967296 ∧ record813.tripA < 4294967296
    ∧ record813.tripB < 4294967296 ∧ (∀ n ∈ record813.stamp, n < 4294967296)
    ∧ (∀ b ∈ some (Vector.replicate 10 255), ∀ h : Fin 10, b[h] < 256) := by decide

/-- Bytes whose check agrees, bytes whose check does not, and bytes that are not 36. -/
theorem witness_RecordIsReadBackAsWritten_check :
    let bytes := encodeRecord record813
    bytes.length = 36 ∧ leNat (bytes.drop 34) = (crcOf ((bytes.take 34).flatMap wordBits)).toNat
    ∧ leNat ((bytes.set 4 0).drop 34) ≠ (crcOf (((bytes.set 4 0).take 34).flatMap wordBits)).toNat
    ∧ (bytes.take 35).length ≠ 36 ∧ bitField bytes 152 1 = 1 ∧ bitField bytes 153 1 = 0
    ∧ bitField (bytes.set 19 2) 153 1 = 1 := by decide

/-- The restore before its slot `n`. -/
def restoring (n : Nat) (debounced ignition : Bool) : State :=
  { State.reset with
    now := 100
    control := { State.reset.control with
      load := .restoring, readDue := some 100, debounced := debounced, ignition := ignition }
    store := { State.reset.store with restoreNext := n } }

theorem witness_RestoreSetsTheRecordedState :
    (restoring 18 false false).control.part = .loading ∧ (restoring 18 false false).control.load = .restoring
    ∧ (restoring 18 false false).store.restoreNext < 19
    ∧ (restoring 19 false false).store.restoreNext = 19 ∧ (restoring 19 false false).control.debounced = false
    ∧ selectRecord (foundWith 19 (encodeRecord record813) (restoring 19 false false).store.found)
        = some (19, record813)
    ∧ foundWith 19 [] (restoring 19 false false).store.found = [] := by decide

/-- Two records of one sequence, whose masks mark one another's slot or not: R125's choice and log 15's. -/
theorem witness_RestoreSetsTheRecordedState_choices :
    let r (mask : BitVec 20) (b : Option (Vector Nat 10)) := { record813 with retired := mask, health := b }
    let f (m n : BitVec 20) : List (Fin 20 × StoredRecord) := [(3, r m none), (7, r n (some (Vector.replicate 10 90)))]
    (f 0 8).Pairwise (fun x y => x.1 < y.1)
    ∧ (selectRecord (f 0 8)).map Prod.fst = some 7 ∧ (selectRecord (f 0 0)).map Prod.fst = some 3
    ∧ (selectRecord (f 128 8)).map Prod.fst = some 3
    ∧ restoredReference 0 (f 0 0) = some { worst := Vector.replicate 10 90, slot := some 7 }
    ∧ restoredReference 128 (f 0 0) = none := by decide

theorem witness_LoadingEndsOrFails :
    (restoring 19 true true).control.part = .loading ∧ (restoring 19 true true).control.load = .restoring
    ∧ (restoring 19 true true).store.restoreNext = 19 ∧ (restoring 19 true true).control.debounced = true
    ∧ LoadingLineLaw (restoring 19 true true)
    ∧ cameDue .memoryReadTimeout 100 (restoring 0 false false)
    ∧ cameDue .memoryReadTimeout 20 { State.reset with now := 20 }
    ∧ (let s := { State.reset with
        now := 50, control := { State.reset.control with load := .restored, ignitionRaw := true } }
      cameDue .ignitionDebounceExpiry 50 s ∧ s.control.part = .loading ∧ s.control.load = .restored
      ∧ LoadingLineLaw s)
    ∧ State.reset.control.load = .readingImage := by decide

/-- R159, R160: the end of LOADING under fallback posts pop-up 56, with the ignition on and off. -/
theorem witness_LoadingEndsOrFails_popups :
    let s (on : Bool) := (restoring 19 true on).setControl { (restoring 19 true on).control with fallback := true }
    let popups (on : Bool) := (after (.restoreSlotRead []) (s on)).readout.queue.map (fun e => (e.message, e.cls))
    (s false).readout.queue = [] ∧ LoadingLineLaw (s false) ∧ LoadingLineLaw (s true)
    ∧ popups false = [(56, .urgent)] ∧ popups true = [(56, .urgent)]
    ∧ cameDue .memoryReadTimeout 100 (s false) := by decide

/-- R76, R89: the end of LOADING with ACK found PRESSED: its held mark, the dark first write, the screen of START merged
behind it. -/
theorem test_loadingEnds_buttons_and_screen :
    let s (on : Bool) := (restoring 19 true on).setReadout { (restoring 19 true on).readout with
      ackButton := { (restoring 19 true on).readout.ackButton with pressed := true } }
    let t (on : Bool) := after (.restoreSlotRead []) (s on)
    (s true).readout.composed = darkScreen ∧ (s false).service.override.inForce = false
    ∧ (t true).readout.ackButton.held = true ∧ (t true).readout.pageButton.held = false
    ∧ (t true).readout.writing = some darkScreen ∧ (t true).readout.again = true
    ∧ (t false).readout.again = false := by decide

/-- A state whose ignition debounce timer comes due. -/
def debouncing (s : State) (raw ignition : Bool) : State :=
  { s with control := { s.control with ignitionRaw := raw, ignition := ignition, ignitionDue := some 200000 } }

theorem witness_IgnitionOnEntersStart :
    let s := debouncing (inPart .afterRun run) true false
    let t := debouncing asleep true false
    cameDue .ignitionDebounceExpiry 200000 s ∧ s.control.ignitionRaw = true ∧ s.control.ignition = false
    ∧ s.control.part = .afterRun ∧ cameDue .ignitionDebounceExpiry 200000 t ∧ t.control.part = .sleep
    ∧ cameDue .ignitionDebounceExpiry 200000 (debouncing listening true false) := by decide

/-- The frames and pop-ups of START entry: out of a quiet LISTENING, of a SLEEP with a transmission in progress, of
LISTEN-ONLY, and under fallback with a FAILED store and a FULL mailbox. -/
theorem witness_IgnitionOnEntersStart_frames :
    let s := debouncing listening true false
    let q := { s with line := { s.line with quiet := true, queue := [txEntry .distanceReport 8 .waiting] } }
    let z := debouncing asleep true false
    let z := { z with line := { z.line with
      sleepPending := true, queue := [txEntry .clusterStatus 7 .inTransmission, txEntry .presence 8 .waiting] } }
    let f := { s with
      control := { s.control with fallback := true }, store := { s.store with state := .failed }
      driver := { s.driver with mailbox := .full 17 .urgent [] } }
    q.line.state ≠ .listenOnly ∧ q.control.fallback = false ∧ q.line.queue.length ≤ 5
    ∧ (q.line.quiet && decide (q.control.part ≠ .sleep)) = true ∧ q.line.state = .active
    ∧ transmitting q.line.queue = false ∧ cameDue .ignitionDebounceExpiry 200000 q
    ∧ cameDue .ignitionDebounceExpiry 200000 z ∧ z.control.part = .sleep ∧ z.line.sleepPending = true
    ∧ (z.line.queue.filter (fun e => e.state == .inTransmission)).length ≤ 5
    ∧ mute.line.state = .listenOnly ∧ s.roster.reply ≠ .queued
    ∧ startPosts f = [(56, .urgent), (61, .caution), (64, .urgent)]
    ∧ cameDue .ignitionDebounceExpiry 200000 f := by decide

/-- R131, R151: START entry at a queue of seven: the PRESENCE takes the last place, the status bulletin is dropped. -/
theorem test_start_frames_full_queue :
    let s := debouncing listening true false
    let u := { s with line := { s.line with queue := List.replicate 7 (txEntry .serviceReply 8 .waiting) } }
    let t := after .ignitionDebounceExpiry u
    (cameDue .ignitionDebounceExpiry 200000 u ∧ u.line.state ≠ .listenOnly ∧ u.control.fallback = false)
    ∧ t.line.queue.length = 8 ∧ (t.line.queue.map (fun e => e.kind)).getLast? = some .presence
    ∧ t.monitor[(9 : Fin 10)].raw = oneMore u.monitor[(9 : Fin 10)].raw := by decide

/-- R82, R84: of the three pop-ups of START entry the oldest URGENT one shows. -/
theorem test_start_popups :
    let s := debouncing listening true false
    (after .ignitionDebounceExpiry { s with
      store := { s.store with state := .failed }, driver := { s.driver with mailbox := .full 17 .urgent [] }
      }).readout.queue.map (fun e => (e.message, e.order, e.state))
      = [(61, 1, .queued), (64, 2, .showing 0)] := by decide

theorem witness_IgnitionOffEntersAfterRun :
    let s := debouncing run false true
    let t := debouncing listening false true
    cameDue .ignitionDebounceExpiry 200000 s ∧ AwakeLaw s ∧ s.control.ignitionRaw = false
    ∧ s.control.ignition = true ∧ s.control.part = .run
    ∧ cameDue .ignitionDebounceExpiry 200000 t ∧ AwakeLaw t ∧ t.control.part ≠ .loading
    ∧ t.control.part ≠ .start ∧ t.control.part ≠ .run
    ∧ cameDue .ignitionDebounceExpiry 200000 (debouncing run true true)
    ∧ cameDue .ignitionDebounceExpiry 50 { State.reset with now := 50 }
    ∧ State.reset.control.part = .loading ∧ State.reset.control.load ≠ .restored := by decide

/-- AFTER-RUN at the end of its 30 s, with a store. -/
def runningDown (st : Store) : State :=
  { run with store := st, control := { run.control with part := .afterRun, afterRunDue := some 200000 } }

theorem witness_AfterRunExpiryFlushesAndListens :
    let s := runningDown storeBefore
    cameDue .afterRunExpiry 200000 s ∧ s.line.peersQuiet = false ∧ s.store.state ≠ .failed
    ∧ s.store.write = none ∧ s.store.newestSequence < 4294967295
    ∧ (∃ i : Fin 20, s.store.newest ≠ some i ∧ slotLive s.store.retired i.val = true)
    ∧ cameDue .afterRunExpiry 200000 (runningDown { storeBefore with state := .failed })
    ∧ cameDue .afterRunExpiry 200000 (runningDown busy.store) ∧ busy.store.write.isSome = true
    ∧ busy.store.state ≠ .failed
    ∧ (let q := runningDown { storeBefore with state := .failed }
      let q := { q with line := { q.line with peersQuiet := true } }
      q.line.peersQuiet = true ∧ (requestWrite q).store.write = none ∧ q.line.quiet = false
      ∧ transmitting q.line.queue = false) := by decide

theorem witness_AfterRunExpiryFlushesAndListens_sleep :
    let s := { listening with line := { listening.line with silenceDue := some 200000 } }
    let u := { listening with
      line := { listening.line with peersQuiet := true }
      readout := { listening.readout with windowDue := some 200000 } }
    cameDue .peerSilenceExpiry 200000 s ∧ s.control.part = .listening ∧ s.store.write = none
    ∧ s.readout.windowDue = none ∧ transmitting s.line.queue = false
    ∧ cameDue .peerSilenceExpiry 200000 (inPart .run s)
    ∧ cameDue .listeningWindowExpiry 200000 u ∧ u.control.part = .listening ∧ u.line.peersQuiet = true
    ∧ u.store.write = none
    ∧ cameDue .listeningWindowExpiry 200000 { u with line := listening.line } := by decide

theorem witness_SupplyLowAsksForAWrite :
    AwakeLaw State.reset ∧ AwakeLaw asleep ∧ asleep.control.part = .sleep
    ∧ AwakeLaw { run with store := storeBefore } ∧ run.control.part ≠ .loading ∧ run.control.part ≠ .sleep
    ∧ storeBefore.state ≠ .failed ∧ storeBefore.write = none ∧ storeBefore.newestSequence < 4294967295
    ∧ (∃ i : Fin 20, storeBefore.newest ≠ some i ∧ slotLive storeBefore.retired i.val = true)
    ∧ 4294967295 ≤ { storeBefore with newestSequence := 4294967295 }.newestSequence := by decide

theorem witness_LineWakesAndListens :
    AwakeLaw asleep ∧ asleep.control.part = .sleep ∧ asleep.line.sleepPending = false
    ∧ asleep.line.queue = [] ∧ asleep.line.state ≠ .listenOnly ∧ AwakeLaw run ∧ run.control.part ≠ .sleep := by
  decide

/-- SLEEP, entered while a CLUSTER STATUS was in transmission. -/
def sending : State :=
  { asleep with line := { asleep.line with
    sleepPending := true, queue := [txEntry .clusterStatus 7 .inTransmission, txEntry .presence 8 .waiting] } }

theorem witness_LineWakesAndListens_sending :
    AwakeLaw sending ∧ sending.control.part = .sleep ∧ sending.line.sleepPending = true
    ∧ sending.line.state ≠ .listenOnly ∧ QueueLaw sending :=
  ⟨by decide, by decide, by decide, by decide, by decide, by decide, fun k hk => by cases k <;> revert hk <;> decide⟩

/-- R149: a transmission in progress at a wake runs on, and its outcome is taken. -/
theorem test_wake_during_transmission :
    let t := after .lineWake sending
    let u := after (.transmissionEnd .unheard) t
    t.line.queue.map (fun e => (e.kind, e.state))
      = [(.clusterStatus, .inTransmission), (.clusterStatus, .waiting), (.distanceReport, .waiting)]
    ∧ u.line.queue.map (fun e => (e.kind, e.state)) = [(.clusterStatus, .waiting), (.distanceReport, .waiting)]
    ∧ u.monitor[(3 : Fin 10)].raw = 1 ∧ u.line.sleepPending = false := by decide

theorem witness_QuietLineStartsTheFirstWaitingFrame :
    let s := withQueue [txEntry .clusterStatus 2 .waiting, txEntry .presence 1 .waiting]
    AwakeLaw s ∧ s.control.part.awake = true ∧ s.line.settling = false ∧ transmitting s.line.queue = false
    ∧ s.line.state = .active ∧ firstWaiting s.line.queue = some (txEntry .presence 1 .waiting)
    ∧ firstWaiting run.line.queue = none ∧ firstWaiting busy.line.queue ≠ none ∧ s.line.queue.Nodup ∧ mute.line.state ≠ .active ∧ asleep.control.part.awake = false
    ∧ transmitting busy.line.queue = true := by decide

theorem witness_CorruptAndClashingFramesAreNotDelivered :
    AwakeLaw run ∧ hearing asleep = false ∧ hearing run = true
    ∧ isGood { goodFrame 35 2 [90, 0] with check := 0 } = false
    ∧ isGood (goodFrame 35 63 [90, 0]) = true
    ∧ keySender (goodFrame 35 63 [90, 0]).key = run.tables.ownStation := by decide

theorem witness_GoodFrameIsHeardAndWritesSlots :
    isGood (goodFrame 35 22 [90, 0]) = true ∧ hears (keySender (goodFrame 35 22 [90, 0]).key) busy
    ∧ AwakeLaw busy ∧ 8 ≤ keyTopic (goodFrame 35 22 [90, 0]).key ∧ keyTopic (goodFrame 3 22 []).key < 8
    ∧ isGood (goodFrame 3 22 []) = true := by decide

/-- R9: a frame of two bytes at an entry with a descriptor that fits it and two that are short. -/
theorem witness_GoodFrameIsHeardAndWritesSlots_short :
    let e : IntakeEntry :=
      { topic := 35, sender := none, sink := .signals, staleLimit := 500,
        descriptors := [coolantField, { coolantField with start := 9 }, { coolantField with start := 16 }] }
    let f := goodFrame 35 2 [90, 0]
    isGood f = true ∧ hears (keySender f.key) (withIntake e) ∧ AwakeLaw (withIntake e) ∧ 8 ≤ keyTopic f.key
    ∧ (∀ x ∈ (withIntake e).tables.intake, entryMatches (keyTopic f.key) (keySender f.key) x = true →
        x.sink = .signals)
    ∧ shortResults f.payload ((withIntake e).tables.intake.filter
        (entryMatches (keyTopic f.key) (keySender f.key))) = 2
    ∧ (after (.frameReceived f) (withIntake e)).monitor[4].raw = 2 := by decide

/-- R9, R153, R157: topic 126 at an entry with a short descriptor and an H4 count of 3. A READ-STATE, and a
CLEAR-HEALTH that finds the mailbox PENDING, count the short result; a CLEAR-HEALTH that is taken leaves 0. -/
theorem witness_GoodFrameIsHeardAndWritesSlots_request :
    let e : IntakeEntry :=
      { topic := 126, sender := none, sink := .signals, staleLimit := 500,
        descriptors := [{ coolantField with start := 16 }] }
    let s := { withIntake e with
      monitor := (withIntake e).monitor.set 4 { raw := 3, normalized := 97, worst := 97, exceeded := false } }
    let p := { s with service := { s.service with pendingReply := true } }
    let reading := goodFrame 126 22 [63, 1]
    let clear := goodFrame 126 22 [63, 5]
    isGood reading = true ∧ isGood clear = true ∧ hears (keySender clear.key) s ∧ AwakeLaw s ∧ AwakeLaw p
    ∧ keySender reading.key = keySender clear.key ∧ 8 ≤ keyTopic reading.key
    ∧ (∀ x ∈ s.tables.intake, entryMatches (keyTopic clear.key) (keySender clear.key) x = true → x.sink = .signals)
    ∧ shortResults clear.payload
        (s.tables.intake.filter (entryMatches (keyTopic clear.key) (keySender clear.key))) = 1
    ∧ ¬ takenAsClear reading s ∧ (after (.frameReceived reading) s).monitor[4].raw = 4
    ∧ ¬ takenAsClear clear p ∧ (after (.frameReceived clear) p).monitor[4].raw = 4
    ∧ takenAsClear clear s ∧ (after (.frameReceived clear) s).monitor[4].raw = 0 := by decide

theorem witness_GoodFrameIsHeardAndWritesSlots_system :
    keyTopic (goodFrame 1 22 []).key = 1 ∧ isGood (goodFrame 1 22 []) = true ∧ (22 : BitVec 6).toNat = keySender (goodFrame 1 22 []).key
    ∧ keyTopic (goodFrame 2 22 [1, 0]).key = 2 ∧ isGood (goodFrame 2 22 [1, 0]) = true
    ∧ keyTopic (goodFrame 126 22 [63, 1]).key = 126 ∧ isGood (goodFrame 126 22 [63, 1]) = true
    ∧ (goodFrame 126 22 [63, 1]).payload = BitVec.ofNat 8 run.tables.ownStation :: 1 :: [] := by decide

theorem witness_TransmissionOutcomesAndMuting :
    let sent (k : TxKind) := withQueue [txEntry k 1 .inTransmission]
    AwakeLaw run ∧ run.line.sleepPending = false ∧ transmitting run.line.queue = false
    ∧ sentEntry (sent .serviceReply).line.queue = some (txEntry .serviceReply 1 .inTransmission)
    ∧ sentEntry (sent .presence).line.queue = some (txEntry .presence 1 .inTransmission)
    ∧ bitFlag (txEntry .presence 1 .inTransmission).payload 0 = false
    ∧ { run.roster with reply := .queued }.reply = .queued
    ∧ run.line.state = .active ∧ run.line.failures + 1 < 16
    ∧ 16 ≤ { run.line with failures := 15 }.failures + 1
    ∧ cameDue .mutingExpiry 200000 { run with
        line := { run.line with state := .muted, mutingDue := some 200000 } } := by decide

/-- Outcomes taken after the entry to SLEEP, in SLEEP and after a wake, of a station that hears nothing yet. -/
theorem witness_TransmissionOutcomesAndMuting_sleep :
    let w := inPart .listening { sending with line := { sending.line with listening := false } }
    AwakeLaw sending ∧ sending.line.sleepPending = true ∧ sending.control.part.awake = false
    ∧ sentEntry sending.line.queue = some (txEntry .clusterStatus 7 .inTransmission)
    ∧ (∃ x ∈ sending.line.queue, x.kind = .presence ∧ bitFlag x.payload 0 = false)
    ∧ (∃ x ∈ [txEntry .serviceReply 1 .inTransmission], x.kind = .serviceReply)
    ∧ AwakeLaw w ∧ w.control.part.awake = true ∧ hearing w = false := by decide

/-- Queues that obey the eighth law, with a PRESENCE and with a SERVICE REPLY that the entry to SLEEP discards. -/
theorem witness_TransmissionOutcomesAndMuting_discarded :
    let s := { sending with line := { sending.line with
      queue := [txEntry .clusterStatus 7 .inTransmission, txEntry .serviceReply 8 .waiting] } }
    QueueLaw sending ∧ QueueLaw s ∧ (∃ x ∈ s.line.queue, x.kind = .serviceReply) ∧ s.line.sleepPending = true
    ∧ s.control.part.awake = false
    ∧ sentEntry s.line.queue = some (txEntry .clusterStatus 7 .inTransmission) :=
  ⟨⟨by decide, by decide, fun k hk => by cases k <;> revert hk <;> decide⟩,
    ⟨by decide, by decide, fun k hk => by cases k <;> revert hk <;> decide⟩,
    by decide, by decide, by decide, by decide⟩

/-- RUN with driver records, one entry of the intake map for topic 35. -/
def bulletinTo (sink : Sink) (r : DriverRecord) (m : Mailbox) : State :=
  let e : IntakeEntry := { topic := 35, sender := none, sink := sink, staleLimit := 500, descriptors := [] }
  let s := withDriver r
  { s with tables := { s.tables with intake := [e] }, driver := { s.driver with mailbox := m } }

/-- A DRIVER STATUS payload (Table 12-3): DRIVE, card inserted, a sequence number, RB 16 and the other figures not
available. -/
def statusBytes (sequence : Byte) : List Byte :=
  [0x0B, sequence] ++ leBytes 6 (1023 + 16 * 2 ^ 10 + 2047 * 2 ^ 20 + 2047 * 2 ^ 31)

theorem witness_RecorderBulletinsAreTaken :
    let e (sink : Sink) : IntakeEntry :=
      { topic := 35, sender := none, sink := sink, staleLimit := 500, descriptors := [] }
    let asm : Assembly := { id := 2, parts := [{ index := 0, codes := [] }], last := some (1, .caution), time := 199501 }
    let n : NoticeFields := { id := 2, index := 1, last := true, cls := .caution, codes := [] }
    takenBy (goodFrame 35 2 (statusBytes 42)) (e .driverStatus1) (bulletinTo .driverStatus1 (current 5) .empty)
    ∧ AwakeLaw (bulletinTo .driverStatus1 (current 5) .empty)
    ∧ (e .driverStatus2).sink = statusSink 1 ∧ 8 ≤ (statusBytes 42).length ∧ ([0, 0] : List Byte).length < 4
    ∧ (decodeDriverStatus (statusBytes 42) 0).sequence = 42
    ∧ (decodeDriverStatus (statusBytes 42) 0).toBreak = some 960
    ∧ takenBy (goodFrame 35 2 (statusBytes 42)) (e .recorderNotice)
        (bulletinTo .recorderNotice (current 5) (.assembling asm))
    ∧ (200000 : Nat) < asm.time + 500 ∧ { asm with time := 199500 }.time + 500 ≤ 200000
    ∧ asm.id = n.id ∧ ¬ (∃ p ∈ asm.parts, p.index = n.index) ∧ ({ n with index := 2 } : NoticeFields).index > 1
    ∧ (∀ i, i < 2 → ∃ p ∈ (joinedAssembly asm n 200000).parts, p.index = i)
    ∧ run.distance.total + 5000 < 5001 ∧ 5000 ≤ run.distance.total + 5000 := by
  decide

/-- The distance of a recorder that is 50.01 km ahead, at an idle store, at a FAILED one and with a write in flight. -/
theorem witness_RecorderBulletinsAreTaken_ahead :
    let e : IntakeEntry :=
      { topic := 35, sender := none, sink := .recorderDistance, staleLimit := 500, descriptors := [] }
    let s := { bulletinTo .recorderDistance (current 5) .empty with store := storeBefore }
    let f := { s with store := { storeBefore with state := .failed } }
    takenBy (goodFrame 35 2 (leBytes 4 50010)) e s ∧ AwakeLaw s ∧ leNat ((leBytes 4 50010).take 4) / 10 = 5001
    ∧ 4 ≤ (leBytes 4 50010).length ∧ s.distance.total + 5000 < 5001 ∧ s.distance.reference + 100 ≤ 5001
    ∧ s.store.state ≠ .failed ∧ s.store.write = none ∧ s.store.newestSequence < 4294967295
    ∧ (∃ i : Fin 20, s.store.newest ≠ some i ∧ slotLive s.store.retired i.val = true)
    ∧ takenBy (goodFrame 35 2 (leBytes 4 50010)) e f ∧ f.store.state = .failed
    ∧ (writing (write813 false .programming) false).store.write.isSome = true := by decide

/-- R115, R117: that distance moves the total, counts toward H7 and starts a write of it. -/
theorem test_recorderDistance_ahead_writes :
    let t := after (.frameReceived (goodFrame 35 2 (leBytes 4 50010)))
      { bulletinTo .recorderDistance (current 5) .empty with store := storeBefore }
    t.store.write.map (fun w => (w.target, w.record.sequence, w.record.total)) = some (6, 813, 5001)
    ∧ t.distance.reference = 5001 ∧ t.monitor[(7 : Fin 10)].raw = 1 := by decide

/-- The ends of the range of R96. -/
theorem witness_RecorderBulletinsAreTaken_sequences :
    (snapshotAccepted (current 5) 42 ∧ snapshotAccepted (current 5) 168 ∧ snapshotAccepted DriverRecord.initial 41)
    ∧ ¬ snapshotAccepted (current 5) 169 ∧ ¬ snapshotAccepted (current 5) 41 :=
  ⟨⟨fun _ _ h => Option.some.inj h ▸ by decide, fun _ _ h => Option.some.inj h ▸ by decide,
      fun h => absurd h (by decide)⟩,
    fun h => absurd (h rfl _ rfl) (by decide), fun h => absurd (h rfl _ rfl) (by decide)⟩

theorem snapshotLaw_of_all (s : State)
    (h : ∀ n : Fin 2, (driverRecord s n).snapshot.all (fun p => decide (p.sequence < 256)) = true) :
    SnapshotLaw s := fun n p e => by simpa [e] using h n

theorem witness_RecorderBulletinsAreTaken_snapshots :
    SnapshotLaw (bulletinTo .driverStatus1 (current 5) .empty) ∧ SnapshotLaw busy
    ∧ (driverRecord (bulletinTo .driverStatus1 (current 5) .empty) 0).snapshot.isSome = true :=
  ⟨snapshotLaw_of_all _ (by decide), snapshotLaw_of_all _ (by decide), by decide⟩

theorem witness_StepKeepsModelInvariants_snapshots : SnapshotLaw (bulletinTo .driverStatus1 (current 5) .empty) :=
  snapshotLaw_of_all _ (by decide)

/-- Table 12-4: the last part of a notice, id 2, index 1, class CAUTION, and its characters; and other codes. -/
theorem test_notice_part_layout :
    decodeNotice [2, 0x0D, 0x4B, 0xCB, 0, 0, 0, 0]
      = { id := 2, index := 1, last := true, cls := .caution, codes := [0x4B, 0x4B, 0, 0, 0, 0] }
    ∧ bitField [2, 0x1D] 11 2 = 3 ∧ bitField [2, 0] 11 2 = 0 := by decide

/-- R97, R105: a status bulletin that is accepted, and the part that completes a notice of two parts. -/
theorem test_bulletins :
    let t := after (.frameReceived (goodFrame 35 2 (statusBytes 42))) (bulletinTo .driverStatus1 (current 5) .empty)
    let asm : Assembly :=
      { id := 2, parts := [{ index := 0, codes := [0x4F] }], last := none, time := 199900 }
    let u := after (.frameReceived (goodFrame 35 2 [2, 0x0D, 0x4B, 0, 0, 0, 0, 0]))
      (bulletinTo .recorderNotice (current 5) (.assembling asm))
    (driverRecord t 0).elapsed = 0 ∧ (driverRecord t 0).warnings.breakSoon = false
    ∧ driverStaleDue t 0 = some 290000
    ∧ u.driver.mailbox = .full 2 .caution [0x4F, 0x4B]
    ∧ u.readout.queue.map (fun x => (x.message, x.cls, x.state)) = [(64, .caution, .showing 0)] := by decide

theorem witness_PeriodicBulletinsArePlaced :
    let s := { run with control := { run.control with statusDue := some 200000, distanceDue := some 199990 } }
    AwakeLaw s ∧ cameDue .clusterStatusTimer 200000 s ∧ cameDue .distanceReportTimer 199990 s
    ∧ mute.line.state = .listenOnly
    ∧ (withQueue [txEntry .clusterStatus 1 .waiting]).line.queue.any (waitingOfKind .clusterStatus) = true
    ∧ s.line.queue.any (waitingOfKind .clusterStatus) = false ∧ s.line.queue.length < 8 ∧ s.line.quiet = false
    ∧ s.line.state = .active ∧ transmitting s.line.queue = false ∧ { s.line with quiet := true }.quiet = true
    ∧ 8 ≤ (List.replicate 8 (txEntry .serviceReply 1 .waiting)).length
    ∧ (List.replicate 8 (txEntry .serviceReply 1 .waiting)).any (waitingOfKind .clusterStatus) = false := by decide

/-- RUN, own station number 5, with a presence reply state. -/
def answering (r : ReplyState) : State :=
  { run with tables := { run.tables with ownStation := 5 }, roster := { run.roster with reply := r } }

theorem witness_PresenceIsAnswered :
    hears (9 : BitVec 6).toNat (answering .none) ∧ AwakeLaw (answering .none)
    ∧ (answering .none).control.fallback = false ∧ bitFlag [1, 0] 0 = true ∧ bitFlag [0, 0] 0 = false
    ∧ (answering .none).roster.reply = .none ∧ 1 ≤ (answering .none).tables.ownStation
    ∧ (answering .queued).roster.reply ≠ .none ∧ presentAlready 9 (answering .none)
    ∧ cameDue .presenceReplyDelayEnd 200000 (answering (.delaying 200000))
    ∧ (answering .none).line.state ≠ .listenOnly ∧ (answering .none).line.queue.length < 8
    ∧ 8 ≤ (List.replicate 8 (txEntry .serviceReply 1 .waiting)).length
    ∧ (let z := { answering .none with tables := { run.tables with ownStation := 0 } }
      hears (9 : BitVec 6).toNat z ∧ AwakeLaw z ∧ z.tables.ownStation = 0 ∧ z.line.state ≠ .listenOnly
      ∧ z.line.queue.length < 8) := by decide

theorem witness_TimeMarkSetsStepsOrSlews :
    let s := withClock (clockAt .locked 1000060 250 none)
    let e (seconds ms : Nat) : Int := ((seconds : Int) * 1000 + ms)
      - ((s.driver.clock.seconds : Int) * 1000 + s.driver.clock.ms)
    hears (12 : BitVec 6).toNat s ∧ AwakeLaw s ∧ s.tables.timeSource = some (12 : BitVec 6).toNat
    ∧ s.tables.timeSource ≠ some (9 : BitVec 6).toNat
    ∧ 7 ≤ (markPayload 1000061 750).length ∧ ([0, 0, 0, 0, 0, 0] : List Byte).length < 7
    ∧ bitField (markPayload 1000061 750) 0 32 = 1000061 ∧ bitField (markPayload 1000061 999) 32 10 = 999
    ∧ bitField (markPayload 0 1000) 32 10 = 1000 ∧ bitField (markPayload 1000061 750) 42 7 ≤ 56
    ∧ bitField [0, 0, 0, 0, 0, 0x40, 1] 42 7 = 80
    ∧ s.driver.clock.state ≠ .unset ∧ run.driver.clock.state = .unset
    ∧ e 1000060 250 = 0 ∧ (e 1000062 250).natAbs ≤ 2000 ∧ e 1000062 250 ≠ 0
    ∧ 2000 < (e 1000062 251).natAbs := by decide

/-- RUN with the override in force. -/
def overridden : State :=
  { run with service := { run.service with override :=
    { inForce := true, pattern := .steady, fraction := 128, beep := false, due := some 200000, red := false } } }

theorem witness_ReadingsAreAnsweredOrDropped :
    let s := hearStation (9 : BitVec 6).toNat run
    readingOf (.readState 9 [0, 0]) s = some (9, 1, replyReadState [0, 0] s)
    ∧ readingOf (.readSlot 9 [0, 0]) s = some (9, 2, replyReadSlot [0, 0] s)
    ∧ readingOf (.readRoster 9 [0, 0]) s = some (9, 3, replyReadRoster [0, 0] s)
    ∧ readingOf (.readHealth 9 [0, 0]) s = some (9, 4, replyReadHealth [0, 0] s)
    ∧ readingOf (.readDistance 9 [0, 0]) s = some (9, 6, replyReadDistance [0, 0] s)
    ∧ readingOf (.unknownRequest 9 10 []) s = some (9, 10, .unknownRequest)
    ∧ requestTaken 9 run ∧ TablesLaw run ∧ AwakeLaw run ∧ presentAlready (9 : BitVec 6).toNat run
    ∧ requestSender (.clearHealth 9 []) = some 9
    ∧ { run.service with pendingReply := true }.pendingReply = true :=
  ⟨rfl, rfl, rfl, rfl, rfl, rfl, by decide⟩

/-- A SERVICE REQUEST that finds the mailbox PENDING, with a RED lamp that no station and no health attribute lights,
and with an override in force. -/
theorem witness_ReadingsAreAnsweredOrDropped_pending :
    let red := lampOn 4 .red [demand (demandRecord (.band 5 0) .blink false .urgent 13) false .inactive]
    let s := { withLamps [red] with service := { run.service with pendingReply := true } }
    let o := { overridden with service := { overridden.service with pendingReply := true } }
    LampLaw s ∧ LampLaw o
    ∧ (∀ l ∈ s.telltale.lamps, l.cls = .red → ∀ x ∈ l.demands, x.record.source = .band 5 0)
    ∧ hears (9 : BitVec 6).toNat s ∧ noIntake 126 (9 : BitVec 6).toNat s ∧ s.service.pendingReply = true
    ∧ TablesLaw s ∧ AwakeLaw s ∧ presentAlready (9 : BitVec 6).toNat s
    ∧ (countedAttribute s.tables.health[(9 : Fin 10)] s.monitor[(9 : Fin 10)]).exceeded
        = s.monitor[(9 : Fin 10)].exceeded
    ∧ hears (9 : BitVec 6).toNat o ∧ noIntake 126 (9 : BitVec 6).toNat o ∧ AwakeLaw o ∧ TablesLaw o
    ∧ requestSender (.endOverride 9 []) = some 9 := ⟨by decide, by decide, by decide, by decide⟩

/-- R167: END-OVERRIDE and CLEAR-HEALTH that find the mailbox PENDING are not executed. -/
theorem test_pending_mailbox_drops :
    let o := { overridden with
      service := { overridden.service with pendingReply := true }
      monitor := run.monitor.set 3 { raw := 20, normalized := 80, worst := 60, exceeded := false } }
    let t := after (.endOverride 9 []) o
    let u := after (.clearHealth 9 []) o
    t.service = o.service ∧ t.monitor[(9 : Fin 10)].raw = 1 ∧ u.monitor[(3 : Fin 10)].raw = 20
    ∧ u.monitor[(9 : Fin 10)].raw = 1 := by decide

/-- Requests in LISTEN-ONLY and at a full queue. -/
theorem witness_requests_without_a_place :
    let f := withQueue (List.replicate 8 (txEntry .serviceReply 1 .waiting))
    requestTaken 9 mute ∧ TablesLaw mute ∧ AwakeLaw mute ∧ presentAlready (9 : BitVec 6).toNat mute
    ∧ mute.line.state = .listenOnly ∧ replyTaken mute
    ∧ requestTaken 9 f ∧ TablesLaw f ∧ AwakeLaw f ∧ presentAlready (9 : BitVec 6).toNat f
    ∧ f.line.state ≠ .listenOnly ∧ 8 ≤ f.line.queue.length := by decide

/-- R167: the reply that a full queue drops counts toward H9, and the mailbox is EMPTY again. -/
theorem test_reply_dropped :
    let t := after (.readState 9 [0, 0]) (withQueue (List.replicate 8 (txEntry .serviceReply 1 .waiting)))
    t.monitor[(9 : Fin 10)].raw = 1 ∧ t.service.pendingReply = false ∧ t.line.queue.length = 8 := by decide

/-- The ends of the ranges of Table 12-5. -/
theorem witness_ReadingLayouts :
    6 < (7 : Byte).toNat ∧ 63 < (64 : Byte).toNat ∧ 2 < (3 : Byte).toNat ∧ 31 < (32 : Byte).toNat
    ∧ 9 < (10 : Byte).toNat ∧ DistanceLaw busy
    ∧ busy.roster.entries[(0 : Fin 24).val]? = some { trailer with state := .lost, quietStart := none }
    ∧ busy.roster.entries[(23 : Fin 24).val]? = none
    ∧ (let us : List UnlistedRecord := [{ station := 9, time := 5 }, { station := 8, time := 7 }]
      (byRecency us)[(0 : Fin 8).val]? = some { station := 8, time := 7 } ∧ (byRecency us)[(7 : Fin 8).val]? = none)
    ∧ -2147483648 ≤ (driving coolant (tracking 0 0) (-2147483648)).slots[7].value
    ∧ (driving coolant (tracking 0 0) 2147483647).slots[7].value ≤ 2147483647 := by decide

theorem witness_HealthAndErrorIndicationAreCleared :
    requestTaken 9 run ∧ presentAlready (9 : BitVec 6).toNat run ∧ TablesLaw run ∧ AwakeLaw run
    ∧ { storeBefore with state := .failed }.state = .failed ∧ busy.store.write.isSome = true
    ∧ storeBefore.state ≠ .failed ∧ storeBefore.write = none ∧ storeBefore.newestSequence < 4294967295
    ∧ (∃ i : Fin 20, storeBefore.newest ≠ some i ∧ slotLive storeBefore.retired i.val = true) := by decide

theorem witness_TestOverrideIsGrantedOrRefused :
    let s := driving speedo (tracking 3000 0) 8301
    LampLaw s
    ∧ requestTaken 9 s ∧ presentAlready (9 : BitVec 6).toNat s ∧ TablesLaw s ∧ AwakeLaw s ∧ FaultLaw s
    ∧ overrideArgs [15, 0, 0] = none ∧ overrideArgs [14, 128, 1] = some (.steady, 128, true)
    ∧ listening.control.part ≠ .run ∧ s.control.part = .run ∧ s.service.override.red = false
    ∧ s.service.override.inForce = false ∧ s.chime.entries.length < 16 ∧ s.chime.accepting = true
    ∧ (gaugeRecord s 0).enabled = true ∧ (channelOf s 0).state = .tracking
    ∧ replyTaken s ∧ s.control.fallback = false
    ∧ (14 : Byte).toNat ≤ 14 ∧ (1 : Byte).toNat ≤ 1 ∧ 14 < (15 : Byte).toNat ∧ 1 < (2 : Byte).toNat
    ∧ ([14, 128] : List Byte).length < 3 := ⟨by decide, by decide⟩

theorem witness_TestOverrideIsGrantedOrRefused_fallback :
    let f := { mute with control := { mute.control with fallback := true } }
    LampLaw f
    ∧ requestTaken 9 f ∧ presentAlready (9 : BitVec 6).toNat f ∧ TablesLaw f ∧ AwakeLaw f ∧ FaultLaw f
    ∧ replyTaken f ∧ f.control.fallback = true ∧ f.control.part = .run := ⟨by decide, by decide⟩

/-- RUN with gauge 0 RESTING for a source that was never heard, its GAUGE-FAULT condition true. -/
def faulty : State :=
  driving speedo { tracking 0 0 with state := .resting, rest := some .never, fault := true } 0

theorem witness_TestOverrideIsGrantedOrRefused_fault :
    LampLaw faulty
    ∧ requestTaken 9 faulty ∧ presentAlready (9 : BitVec 6).toNat faulty ∧ TablesLaw faulty ∧ AwakeLaw faulty
    ∧ FaultLaw faulty ∧ replyTaken faulty ∧ faulty.control.part = .run
    ∧ faulty.control.fallback = false ∧ (gaugeRecord faulty 0).enabled = true
    ∧ (channelOf faulty 0).state = .resting ∧ faulty.chime.entries.length < 16 := ⟨by decide, by decide⟩

/-- R40, R41: a grant takes that channel to OVERRIDDEN, and its condition ends. -/
theorem test_override_ends_a_fault :
    let t := after (.testOverride 9 [14, 128, 0]) faulty
    t.service.override.inForce = true ∧ (channelOf t 0).state = .overridden ∧ (channelOf t 0).fault = false := by
  decide

/-- R21, Table 2-11: under fallback an override leaves the pointers RESTING with reason DISABLED. -/
theorem test_override_under_fallback :
    let s := driving { speedo with source := none } { tracking 0 0 with state := .resting, rest := some .disabled } 0
    let t := after (.testOverride 9 [14, 128, 0]) { s with control := { s.control with fallback := true } }
    t.service.override.inForce = true ∧ (channelOf t 0).state = .resting := by decide

theorem witness_OverrideEnds :
    requestTaken 9 run ∧ presentAlready (9 : BitVec 6).toNat run ∧ TablesLaw run ∧ AwakeLaw run
    ∧ run.service.override.inForce = false ∧ requestTaken 9 overridden ∧ TablesLaw overridden
    ∧ AwakeLaw overridden ∧ overridden.service.override.inForce = true
    ∧ cameDue .overrideExpiry 200000 overridden := by decide

theorem witness_StaleExpiryHoldsAndFreezes :
    let s := { driving speedo (tracking 3000 0) 8301 with now := 200400 }
    let t := { driving { speedo with holdTime := 0 } (tracking 3000 0) 8301 with now := 200400 }
    cameDue (.staleExpiry 7) 200400 s ∧ AwakeLaw s ∧ (gaugeRecord s 0).source = some 7
    ∧ (gaugeRecord s 0).enabled = true ∧ (channelOf s 0).state = .tracking ∧ (gaugeRecord s 0).holdTime ≠ 0
    ∧ cameDue (.staleExpiry 7) 200400 t ∧ (gaugeRecord t 0).holdTime = 0 ∧ 0 < coolant.bands.length := by decide

/-- Slot 7 at the coolant gauge, with a standstill slot; the levels 105 and 100 of its HIGH band. -/
theorem witness_StaleExpiryHoldsAndFreezes_arrivals :
    let st : StandstillConfig := { slot := 7, threshold := 20, kFast := 1 }
    let g := { coolant with standstill := some st }
    let s := driving g { tracking 0 0 with state := .resting, rest := some .stale } 88
    let e : IntakeEntry :=
      { topic := 35, sender := none, sink := .signals, staleLimit := 500, descriptors := [coolantField] }
    (gaugeRecord s 0).source = some 7 ∧ (gaugeRecord s 0).enabled = true ∧ (channelOf s 0).state = .resting
    ∧ (gaugeRecord s 0).bands[(0 : Fin 2).val]? = some ⟨.high, 105, 100, 3000⟩
    ∧ (channelOf s 0).bands[(0 : Fin 2)] = .inactive ∧ (gaugeRecord s 0).bands.length ≤ (1 : Fin 2).val
    ∧ (gaugeRecord s 0).standstill = some st ∧ st.slot = 7 ∧ (20 : Int) ≤ st.threshold ∧ st.threshold < 21
    ∧ (gaugeRecord s 1).source ≠ some 7
    ∧ takenBy (goodFrame 35 2 [90, 0]) e (withIntake e) ∧ AwakeLaw (withIntake e)
    ∧ ¬ shortFor coolantField 2 ∧ arrivalApplied coolantField.rank (withIntake e).slots[7]
    ∧ (withIntake e).service.override.inForce = false := by decide

/-- R33, R26: a disabled gauge whose source slot is its standstill slot moves its band alone; one whose standstill
slot is another drives its mode (log 46). -/
theorem test_arrival_at_disabled_gauge :
    let st : StandstillConfig := { slot := 7, threshold := 200, kFast := 1 }
    let g := { coolant with enabled := false, standstill := some st }
    let c := channelOf (gaugeSlot 7 .value 105 (driving g Channel.initial 88)) 0
    let d := channelOf (gaugeSlot 7 .value 105 (driving { g with source := some 8 } Channel.initial 88)) 0
    c.standDue = none ∧ c.standMode = false ∧ c.bands[0] = .running 200000
    ∧ d.standDue = some 202000 ∧ d.bands[0] = .inactive := by decide

/-- R45: an arrival that is ABSENT or FAULTED pauses a running band at either end of its persistence, and leaves an
ACTIVE one. -/
theorem test_absent_pauses_a_band :
    let s (b : BandState) := driving coolant { tracking 0 0 with bands := #v[b, .inactive] } 108
    (channelOf (gaugeSlot 7 .absent 0 (s (.running 198900))) 0).bands[(0 : Fin 2)] = .paused 1100
    ∧ (channelOf (gaugeSlot 7 .faulted 0 (s (.running 200000))) 0).bands[(0 : Fin 2)] = .paused 0
    ∧ (channelOf (gaugeSlot 7 .faulted 0 (s .active)) 0).bands[(0 : Fin 2)] = .active
    ∧ (gaugeRecord (s .active) 0).source = some 7
    ∧ (gaugeRecord (s .active) 0).bands[(0 : Fin 2).val]? = some ⟨.high, 105, 100, 3000⟩ := by decide

/-- Table 2-12, Table 2-14: a value at a RESTING channel, above the set level of its band. -/
theorem test_arrival_at_gauge :
    let s := driving coolant { tracking 0 0 with state := .resting, rest := some .stale } 88
    let t := gaugeSlot 7 .value 105 s
    (channelOf t 0).state = .tracking ∧ (channelOf t 0).bands[0] = .running 200000
    ∧ (channelOf (gaugeSlot 7 .absent 0 s) 0).rest = some .absent := by decide

theorem witness_MotionPeriodHomesSweepsAndParks_goal :
    let s (st : ChannelState) := driving speedo { tracking 3000 0 with state := st } 8301
    cameDue (.motionPeriod 0) 200000 (s .tracking) ∧ AwakeLaw (s .tracking) ∧ FaultLaw (s .tracking)
    ∧ (channelOf (s .tracking) 0).position = some 3000
    ∧ cameDue (.motionPeriod 0) 200000 (s .holding) ∧ FaultLaw (s .holding)
    ∧ cameDue (.motionPeriod 0) 200000 (s .resting) ∧ FaultLaw (s .resting)
    ∧ cameDue (.motionPeriod 0) 200000 (s .overridden) ∧ FaultLaw (s .overridden) := by decide

/-- A HOMING channel with microsteps done in its run. -/
def homing (progress : Nat) : Channel :=
  { tracking 0 0 with state := .homing, position := none, progress := progress }

theorem witness_MotionPeriodHomesSweepsAndParks :
    let s := driving speedo (homing 6183) 0
    let e := driving speedo (homing 6184) 0
    let u := driving speedo { tracking 5998 0 with state := .sweeping, leg := some .up, speed := 2 } 0
    let p := driving speedo { tracking 1 0 with state := .parking } 0
    cameDue (.motionPeriod 0) 200000 s ∧ AwakeLaw s ∧ FaultLaw s ∧ TablesLaw s
    ∧ (channelOf s 0).progress + (gaugeRecord s 0).homingSpeed < (gaugeRecord s 0).fullScale + 200
    ∧ (gaugeRecord e 0).fullScale + 200 ≤ (channelOf e 0).progress + (gaugeRecord e 0).homingSpeed
    ∧ (channelOf e 0).run = .first ∧ e.control.part.ignitionOff = false ∧ e.control.fallback = false
    ∧ listening.control.part.ignitionOff = true
    ∧ cameDue (.motionPeriod 0) 200000 u ∧ (channelOf u 0).position = some 5998
    ∧ (moveStep 6000 16 2 6000 { position := 5998, speed := 2, upward := true }).position = 6000
    ∧ cameDue (.motionPeriod 0) 200000 p ∧ (channelOf p 0).position = some 1
    ∧ (drivenChannel speedo 0 1 200000 (channelOf p 0)).position = some 0
    ∧ (drivenChannel speedo 0 5998 200000 (channelOf u 0)).position ≠ some 0
    ∧ ChannelState.parked.moving = false := by decide

theorem witness_MotionPeriodHomesSweepsAndParks_ends :
    let w := driving speedo { tracking 1 0 with state := .sweeping, leg := some .down } 8301
    let w := inPart .start { w with control := { w.control with
      provingEnded := true, startDone := (Vector.replicate 6 true).set 0 false } }
    let r := driving speedo { homing 6184 with run := .rehoming } 0
    cameDue (.motionPeriod 0) 200000 w ∧ AwakeLaw w ∧ FaultLaw w ∧ TablesLaw w
    ∧ (channelOf w 0).leg = some .down ∧ (channelOf w 0).position = some 1
    ∧ (drivenChannel speedo 0 1 200000 (channelOf w 0)).position = some 0
    ∧ w.control.part.ignitionOff = false
    ∧ (afterStartReport w.tables.gauges 0 w.control).part = .run
    ∧ cameDue (.motionPeriod 0) 200000 r ∧ FaultLaw r ∧ (channelOf r 0).run ≠ .first := by decide

theorem witness_StallRehomesOrFails :
    let s (n : Nat) := driving speedo { tracking 3000 0 with stepping := true, stalls := n } 8301
    AwakeLaw (s 2) ∧ (gaugeRecord (s 2) 0).enabled = true ∧ (channelOf (s 2) 0).state.stallSensed = true
    ∧ (channelOf (s 2) 0).stepping = true ∧ (channelOf (s 2) 0).stalls < 3 ∧ 3 ≤ (channelOf (s 3) 0).stalls
    ∧ (channelOf run 0).state.stallSensed = false := by decide

theorem witness_StallRehomesOrFails_hold :
    AwakeLaw (stalling 200000) ∧ cameDue (.holdExpiry 0) 200000 (stalling 200000)
    ∧ (gaugeRecord (stalling 200000) 0).enabled = true ∧ (channelOf (stalling 200000) 0).state = .holding
    ∧ (channelOf (stalling 200000) 0).stepping = true := by decide

theorem witness_GaugeTimersExpire :
    let s := driving coolant { tracking 0 0 with
      state := .holding, holdDue := some 200000, standDue := some 200000,
      bands := #v[.running 197000, .inactive] } 108
    let n := driving speedo { tracking 0 0 with state := .resting, rest := some .never } 0
    let n := { n with gauges := { n.gauges with grace := .running 200000 } }
    AwakeLaw s ∧ FaultLaw s ∧ cameDue (.holdExpiry 0) 200000 s ∧ (channelOf s 0).state = .holding
    ∧ cameDue (.standstillExpiry 0) 200000 s ∧ cameDue (.persistenceExpiry 0 0) 200000 s
    ∧ AwakeLaw n ∧ FaultLaw n ∧ cameDue .neverGraceExpiry 200000 n ∧ (gaugeRecord n 0).enabled = true
    ∧ (channelOf n 0).state = .resting ∧ (channelOf n 0).rest = some .never
    ∧ (channelOf (driving coolant (tracking 0 0) 0) 0).state ≠ .holding := by decide

/-- RUN with a full chime list: 15 CAUTION entries and an URGENT one. -/
def fullChimes : State :=
  withChimes (chimeEntry 0 .urgent .silenced 0
    :: (List.range 15).map (fun i => chimeEntry (i + 1) .caution .silenced 0)) 0

theorem witness_DemandsFollowTheirConditions_overflow :
    fullChimes.chime.accepting = true ∧ fullChimes.chime.entries.length = 16
    ∧ (∀ y ∈ fullChimes.chime.entries, y.id ≠ .test)
    ∧ (fullChimes.chime.entries.map (fun y => y.id)).Nodup
    ∧ (fullChimes.chime.entries.map (fun y => y.order)).Nodup
    ∧ (∀ y ∈ fullChimes.chime.entries, Grade.caution.rank ≤ y.group.rank)
    ∧ (∃ x ∈ fullChimes.chime.entries, x.group.rank < Grade.urgent.rank ∧ ∀ y ∈ fullChimes.chime.entries,
        y = x ∨ x.group.rank < y.group.rank ∨ x.group = y.group ∧ y.order < x.order) := by decide

/-- RUN with the lamp of 3.9, the conditions of its two demands as given by a function. -/
def demanding (f : Demand → Bool) : State := applyConditions f (withLamps [sharedLamp])

theorem witness_DemandsFollowTheirConditions :
    let red : DemandChange :=
      { output := 4, cls := .red, index := 0, record := demandRecord (.band 5 0) .blink false .urgent 13,
        entered := true }
    let t := demanding (fun d => d.record.source == .band 5 0)
    let cs (f : Demand → Bool) (s : State) := lampChanges s.telltale.lamps (applyConditions f s).telltale.lamps
    cs (fun d => d.record.source == .band 5 0) (withLamps [sharedLamp]) = [red]
    ∧ red.cls = .red ∧ postsMade (withLamps [sharedLamp]) ∧ red.record.message = some 13
    ∧ ¬ postsMade asleep
    ∧ cs (fun d => d.condition) t = [] ∧ cs (fun _ => false) t = [{ red with entered := false }]
    ∧ (cs (fun _ => true) (withLamps [sharedLamp])).map (fun c => (c.entered, c.record.message))
        = [(true, some 13), (true, some 60)]
    ∧ (withLamps [sharedLamp]).readout.queue.length < 7 ∧ run.chime.accepting = true := by decide

/-- R52: the changes of two lamps in ascending order of output, that of the lower output first. -/
theorem witness_DemandsFollowTheirConditions_order :
    let s := withLamps [sharedLamp, { sharedLamp with output := 6 }]
    (s.telltale.lamps.map (fun l => l.output)).Pairwise (fun o p => o < p)
    ∧ (lampChanges s.telltale.lamps (applyConditions (fun _ => true) s).telltale.lamps).map
        (fun c => (c.output, c.index)) = [(4, 0), (4, 1), (6, 0), (6, 1)] := by decide

theorem witness_DemandsFollowTheirConditions_commands :
    let s := driving coolant { tracking 0 0 with bands := #v[.running 197000, .inactive] } 108
    let r := { run with roster := { run.roster with entries := [trailer] } }
    let q := { driving speedo (tracking 3000 0) 8301 with now := 200400 }
    cameDue (.persistenceExpiry 0 0) 200000 s ∧ AwakeLaw s
    ∧ cameDue (.lossMark 0) 200000 r ∧ AwakeLaw r ∧ r.roster.entries[(0 : Fin 24).val]? = some trailer
    ∧ trailer.state = .silent ∧ trailer.record.required = true ∧ trailer.uncoupled = false
    ∧ cameDue (.staleExpiry 7) 200400 q ∧ AwakeLaw q := by decide

theorem witness_ProvingExpiryMayEnterRun :
    let s := inPart .start { run with
      telltale := { run.telltale with provingDue := some 200000 }
      control := { run.control with startDone := Vector.replicate 6 true } }
    cameDue .provingExpiry 200000 s ∧ AwakeLaw s ∧ s.control.part = .start
    ∧ (∀ g : Fin 6, (gaugeRecord s g).enabled = true → s.control.startDone[g] = true)
    ∧ (∃ g : Fin 6, (gaugeRecord run g).enabled = true ∧ run.control.startDone[g] = false)
    ∧ cameDue .provingExpiry 200000 (inPart .afterRun s) := by decide

/-- Deferred postings at the end of proving: two demands of a RED lamp whose output has a load fault recorded. -/
theorem witness_ProvingExpiryMayEnterRun_postings :
    let d (g : Grade) (m : Nat) := demand (demandRecord (.band 5 0) .blink false g m) true .active
    let s := inPart .start { run with telltale := { run.telltale with
      lamps := [lampOn 4 .red [d .urgent 13, d .notice 60]], provingDue := some 200000
      loads := run.telltale.loads.set 4 { openSeen := true, shortSeen := false } } }
    let ds := activeDemands s
    cameDue .provingExpiry 200000 s ∧ AwakeLaw s ∧ s.chime.accepting = true
    ∧ OutputsLaw s ∧ ds.map (fun x => (x.1, x.2.2.message)) = [(.demand 4 0, some 13), (.demand 4 1, some 60)]
    ∧ s.chime.entries.length + (ds.filter (fun x => x.2.2.chime.isSome)).length ≤ 16
    ∧ s.readout.queue.length + (ds.filter (fun x => x.2.2.message.isSome)).length
        + (faultyRedLamps s).length ≤ 8
    ∧ faultyRedLamps s ≠ [] ∧ faultyRedLamps run = [] := by decide

theorem witness_LampPhasesAndLoadFaults :
    let l := { lampOn 6 .amber [] with shown := some (.flash 2), phase := 2, phaseDue := some 200000 }
    let s := withLamps [l]
    cameDue (.lampPhaseExpiry 6) 200000 s ∧ AwakeLaw s ∧ l.shown = some (.flash 2)
    ∧ outputLit s 6 = true ∧ s.telltale.loads[(6 : Fin 32)].has .openLoad = false ∧ outputLit s 7 = false := by decide

/-- A load fault of a lit RED lamp in RUN, first recorded; and the second kind on that output. -/
theorem witness_LampPhasesAndLoadFaults_posting :
    let s := withLamps [{ lampOn 4 .red [] with shown := some .steady }]
    let u := { s with telltale := { s.telltale with
      loads := s.telltale.loads.set 4 { openSeen := false, shortSeen := true } } }
    AwakeLaw s ∧ outputLit s 4 = true ∧ (∀ k, s.telltale.loads[(4 : Fin 32)].has k = false)
    ∧ (∃ l ∈ s.telltale.lamps, l.output = 4 ∧ l.cls = .red) ∧ s.control.part = .run
    ∧ s.readout.queue.length < 8
    ∧ (countedAttribute s.tables.health[(1 : Fin 10)] s.monitor[(1 : Fin 10)]).exceeded
        = s.monitor[(1 : Fin 10)].exceeded
    ∧ AwakeLaw u ∧ outputLit u 4 = true ∧ u.telltale.loads[(4 : Fin 32)].has .openLoad = false
    ∧ u.telltale.loads[(4 : Fin 32)].has .shortLoad = true := by
  refine ⟨by decide, by decide, fun k => by cases k <;> decide, by decide, by decide, by decide, by decide, by decide,
    by decide, by decide, by decide⟩

theorem witness_ChimePatternRunsOn :
    let s (g : Grade) (b p : Nat) := withChimes [chimeEntry 0 g .sounding b] p
    cameDue .chimePatternTimer 200000 (s .urgent 0 5) ∧ ChimeLaw (s .urgent 0 5) ∧ AwakeLaw (s .urgent 0 5)
    ∧ soundingEntry (s .urgent 0 5).chime.entries = some (chimeEntry 0 .urgent .sounding 0)
    ∧ cameDue .chimePatternTimer 200000 (s .caution 1 2) ∧ (s .caution 1 2).chime.phase = 2
    ∧ (s .caution 1 3).chime.phase ≠ 2 ∧ (chimeEntry 0 .caution .sounding 1).bursts < 2
    ∧ 2 ≤ (chimeEntry 0 .caution .sounding 2).bursts
    ∧ soundingEntry (s .notice 0 0).chime.entries = some (chimeEntry 0 .notice .sounding 0) := by decide

theorem witness_PopupMarksAndScreenWrites :
    let s := withPopups [popup 64 .notice 4 (.showing 10000)]
    let e := popup 64 .notice 4 (.showing 10000)
    let w := { s with readout := { s.readout with writing := some Screen.dark, composed := composeScreen s } }
    AwakeLaw s ∧ ClockLaw s ∧ showingPopup s.readout.queue = some e ∧ e.state = .showing 10000
    ∧ popupMarkMs .ms10000 ≤ 10000 ∧ readoutLit s = true ∧ markApplies .ms10000 e = true
    ∧ markApplies .ms5000 e = false ∧ markApplies .ms5000 (popup 5 .notice 4 (.showing 5000)) = true
    ∧ { s.driver with mailbox := .full 17 .notice [] }.mailbox = .full 17 .notice []
    ∧ readoutLit listening = false
    ∧ AwakeLaw w ∧ w.readout.writing = some Screen.dark ∧ w.readout.composed = composeScreen w := by
  decide

theorem witness_PopupMarksAndScreenWrites_overflow :
    fullPopups.readout.queue.length = 8 ∧ (∀ y ∈ fullPopups.readout.queue, y.message ≠ 64)
    ∧ (fullPopups.readout.queue.map (fun y => y.message)).Nodup
    ∧ (fullPopups.readout.queue.map (fun y => y.order)).Nodup
    ∧ (∀ y ∈ fullPopups.readout.queue, Grade.caution.rank ≤ y.cls.rank)
    ∧ (∃ x ∈ fullPopups.readout.queue, x.cls.rank < Grade.urgent.rank ∧ ∀ y ∈ fullPopups.readout.queue,
        y = x ∨ x.cls.rank < y.cls.rank ∨ x.cls = y.cls ∧ y.order < x.order) := by decide

theorem witness_PopupMarksAndScreenWrites_screen :
    readoutLit run = true ∧ showingPopup run.readout.queue = none ∧ run.service.override.inForce = false
    ∧ DistanceLaw run ∧ exec .supplyLow run = .next (after .supplyLow run)
    ∧ showingPopup fullPopups.readout.queue = some (popup 10 .urgent 1 (.showing 0))
    ∧ (∃ x ∈ builtInTexts, (popup 60 .urgent 1 (.showing 0)).message = x.1)
    ∧ composeScreen run ≠ run.readout.composed ∧ readoutLit asleep = false :=
  ⟨by decide, by decide, by decide, by decide, rfl, by decide, by decide, by decide, by decide⟩

/-- R80, R81: the largest figure and the largest total, as the manual writes them; the line of the DISTANCE page. -/
theorem test_page_texts :
    figureCodes (some 2046) = codesOf ['3', '4', ':', '0', '6']
    ∧ distanceCodes 999999999 = codesOf ['9', '9', '9', '9', '9', '9', '9', '.', '9']
    ∧ distanceCodes 9 = codesOf ['0', '.', '0']
    ∧ (composeScreen { run with distance := { run.distance with total := 1234567 } }).line1
      = (codesOf ['O', 'D', 'O', ' ', ' ', ' ', ' ', ' ', ' ', ' ', '1', '2', '3', '4', '5', '.', '6', ' ', 'k',
          'm']).map .char := by decide

/-- A state with a button about to be debounced. -/
def pressing (b : Button) (raw pressed : Bool) (s : State) : State :=
  putButton b { releasing with raw := raw, pressed := pressed } s

theorem witness_AckShortPressAcknowledges_presses :
    let s := pressing .ack true false run
    let p := pressing .page true false asleep
    cameDue (.buttonDebounceExpiry .ack) 200000 s ∧ AwakeLaw s ∧ (buttonOf s .ack).raw = true
    ∧ (buttonOf s .ack).pressed = false
    ∧ cameDue (.buttonDebounceExpiry .page) 200000 p ∧ AwakeLaw p ∧ p.control.part = .sleep
    ∧ cameDue (.buttonDebounceExpiry .trip) 200000 (pressing .trip true true run)
    ∧ (buttonOf (pressing .trip true true run) .trip).raw
        = (buttonOf (pressing .trip true true run) .trip).pressed := by decide

theorem witness_AckShortPressAcknowledges :
    let s (t : Nat) := pressing .ack false true (withPopups [popup 60 .urgent 2 (.showing t)])
    cameDue (.buttonDebounceExpiry .ack) 200000 (s 1000) ∧ (buttonOf (s 1000) .ack).raw = false
    ∧ (buttonOf (s 1000) .ack).pressed = true ∧ (buttonOf (s 1000) .ack).held = false
    ∧ (buttonOf (s 1000) .ack).longDue.isSome = true ∧ (s 1000).control.part.driving = true
    ∧ showingPopup (s 1000).readout.queue = some (popup 60 .urgent 2 (.showing 1000))
    ∧ 1000 ≤ (popup 60 .urgent 2 (.showing 1000)).timeShown
    ∧ (popup 60 .urgent 2 (.showing 999)).timeShown < 1000
    ∧ (let l := pressing .ack false true listening
      let w := { l with readout := { l.readout with windowDue := some 210000 } }
      cameDue (.buttonDebounceExpiry .ack) 200000 w ∧ w.control.part = .listening
      ∧ w.readout.windowDue.isSome = true
      ∧ cameDue (.buttonDebounceExpiry .ack) 200000 l ∧ AwakeLaw l ∧ l.readout.windowDue = none)
    ∧ (popup 64 .notice 4 (.showing 1000)).message = 64
    ∧ cameDue (.buttonDebounceExpiry .ack) 200000 (pressing .ack false true asleep) := by decide

/-- The release of a held PAGE, of ACK after its long press, and a short press of TRIP. -/
theorem witness_AckShortPressAcknowledges_releases :
    let h := putButton .page { releasing with held := true } run
    let l := putButton .ack { releasing with longDue := none } run
    let p := pressing .trip false true run
    cameDue (.buttonDebounceExpiry .page) 200000 h ∧ AwakeLaw h ∧ (buttonOf h .page).raw = false
    ∧ (buttonOf h .page).pressed = true ∧ (buttonOf h .page).held = true
    ∧ cameDue (.buttonDebounceExpiry .ack) 200000 l ∧ AwakeLaw l ∧ (buttonOf l .ack).longDue = none
    ∧ cameDue (.buttonDebounceExpiry .trip) 200000 p ∧ (buttonOf p .trip).held = false
    ∧ (buttonOf p .trip).longDue.isSome = true := by decide

theorem witness_PageAndTripActOnAnUncoveredPage :
    let s := pressing .page false true run
    let c := pressing .page false true (withPopups [popup 60 .urgent 2 (.showing 0)])
    let l := pressing .page false true listening
    let w := { l with readout := { l.readout with windowDue := some 210000 } }
    let t := putButton .trip { releasing with raw := true, longDue := some 200000 } run
    cameDue (.buttonDebounceExpiry .page) 200000 s ∧ AwakeLaw s ∧ (buttonOf s .page).raw = false
    ∧ (buttonOf s .page).pressed = true ∧ (buttonOf s .page).held = false
    ∧ (buttonOf s .page).longDue.isSome = true ∧ ¬ coveredPage s ∧ coveredPage c
    ∧ cameDue (.buttonDebounceExpiry .page) 200000 l ∧ l.readout.windowDue = none ∧ AwakeLaw l
    ∧ cameDue (.buttonDebounceExpiry .page) 200000 w ∧ w.readout.windowDue.isSome = true ∧ AwakeLaw w
    ∧ cameDue (.buttonDebounceExpiry .page) 200000 (inPart .start s)
    ∧ cameDue (.longPressExpiry .trip) 200000 t ∧ AwakeLaw t ∧ (buttonOf t .trip).pressed = true
    ∧ (buttonOf t .trip).held = false ∧ t.control.part = .run ∧ t.readout.page = .distance := by decide

/-- The ring round from DISTANCE, the only page enabled, back to it; and from TRIP-B to an enabled CLOCK. -/
theorem witness_PageAndTripActOnAnUncoveredPage_ring :
    let ring : List Page := [.driver1, .driver2, .distance, .tripB, .clock]
    let off : PageEnables := { driver1 := false, driver2 := false, tripB := false, clock := false }
    ring[2]? = some .distance ∧ ring[(2 + 5) % 5]? = some .distance
    ∧ (∀ j, j < 5 → 1 ≤ j → ∀ x ∈ ring[(2 + j) % 5]?, pageEnabled off x = false)
    ∧ pageEnabled off .distance = true ∧ pageEnabled { off with clock := true } .clock = true
    ∧ ring[(3 + 1) % 5]? = some .clock := by decide

theorem witness_DriverRecordsAge :
    let s := { withDriver (current 89) with now := 230000 }
    let m := { withDriver (current 59) with driver :=
      { (withDriver (current 59)).driver with sampleDue := some 200000 } }
    let r := withDriver { current 59 with snapshot := some { snapshot with activity := .rest } }
    cameDue (.driverStaleExpiry 0) 230000 s ∧ AwakeLaw s
    ∧ cameDue (.secondMark 0) 200000 m ∧ AwakeLaw m ∧ isDriving (driverRecord m 0) = true
    ∧ (driverRecord m 0).snapshot = some snapshot
    ∧ cameDue (.secondMark 0) 200000 r ∧ isDriving (driverRecord r 0) = false
    ∧ cameDue .driverSpeedSample 200000 m := by decide

theorem witness_ClockSlewsHoldsOverAndPassesSeconds :
    let s (r : Int) := withClock (clockAt .slewing 1000060 250 (some r))
    AwakeLaw (s 1) ∧ ClockLaw (s 1) ∧ cameDue .slewStep 200000 (s 1) ∧ (s 1).driver.clock.slew = some 1
    ∧ (s 1).driver.clock.state = .slewing ∧ cameDue .slewStep 200000 (s (-2000))
    ∧ (s (-2000)).driver.clock.slew = some (-2000) ∧ (-2000 : Int) ≠ 1 ∧ (-2000 : Int) ≠ -1
    ∧ cameDue .holdoverExpiry 200000 (s 1)
    ∧ cameDue .holdoverExpiry 200000 (withClock (clockAt .holdover 1000060 250 none))
    ∧ run.driver.clock.state = .unset ∧ ClockLaw run ∧ (s 1).driver.clock.state ≠ .unset
    ∧ (s 1).driver.clock.reported = some (s 1).driver.clock.seconds
    ∧ { (s 1).driver.clock with reported := none }.reported ≠ some (s 1).driver.clock.seconds
    ∧ (s (-2000)).driver.clock.reported = some (s (-2000)).driver.clock.seconds
    ∧ (s (-2000)).driver.clock.slewDue = some 200000 := by decide

theorem witness_DistanceSampleIntegrates :
    let s (a total ref : Nat) := { sampling with distance :=
      { sampling.distance with accumulator := a, total := total, reference := ref } }
    cameDue .distanceSample 200000 sampling ∧ AwakeLaw sampling ∧ DistanceLaw sampling
    ∧ sampling.slots[sampling.tables.roadSlot].quality = .fresh
    ∧ (s 27698 0 0).distance.accumulator + 8301 < 36000 ∧ 36000 ≤ (s 27699 0 0).distance.accumulator + 8301
    ∧ DistanceLaw (s 35999 999999999 0) ∧ (s 35999 999999999 0).distance.total = 999999999
    ∧ (s 35999 199 100).distance.reference + 100 ≤ (s 35999 199 100).distance.total + 1
    ∧ (s 35999 198 100).distance.total + 1 < (s 35999 198 100).distance.reference + 100
    ∧ cameDue .distanceSample 200000 { run with distance := sampling.distance }
    ∧ run.slots[run.tables.roadSlot].quality ≠ .fresh := by decide

theorem witness_WriteAttemptsVerifyRepeatOrRetire :
    let s (second : Bool) (p : WritePhase) := writing (write813 second p) false
    AwakeLaw (s false .programming) ∧ (s false .programming).store.write = some (write813 false .programming)
    ∧ (write813 false .programming).number = 1 ∧ (write813 false .programming).number ≠ 2
    ∧ (writing (write813 false .verifying) true).store.requestPending = true
    ∧ (writing (write813 false .verifying) true).store.state ≠ .failed
    ∧ (write813 false .verifying).record.sequence < 4294967295
    ∧ (∃ i : Fin 20, i ≠ (write813 false .verifying).target ∧ slotLive storeBefore.retired i.val = true)
    ∧ (write813 false .programming).phase = .programming ∧ run.store.write = none
    ∧ (s false .verifying).store.write = some (write813 false .verifying)
    ∧ (write813 false .verifying).phase = .verifying ∧ (s false .verifying).store.requestPending = false
    ∧ (inPart .listening (s false .verifying)).control.part = .listening
    ∧ AwakeLaw (s true .verifying) ∧ ([] : List Byte) ≠ (write813 true .verifying).sent
    ∧ (write813 true .verifying).due ≤ (s true .verifying).now ∧ (write813 true .verifying).second = true
    ∧ (write813 false .verifying).second = false
    ∧ storeStateOf ((s true .verifying).store.retired ||| BitVec.twoPow 20 6) ≠ .failed
    ∧ storeStateOf (0xFFFFF : BitVec 20) = .failed
    ∧ (countedAttribute run.tables.health[(6 : Fin 10)] run.monitor[(6 : Fin 10)]).exceeded
        = run.monitor[(6 : Fin 10)].exceeded
    ∧ storeStateOf ((s true .verifying).store.retired ||| BitVec.twoPow 20 6) ≠ (s true .verifying).store.state
    ∧ (s true .verifying).readout.queue.length < 8
    ∧ storeStateOf ((0xFFF9F : BitVec 20) ||| BitVec.twoPow 20 6) = .failed := by decide

theorem witness_RosterMarksAndCensus :
    let s := { run with roster := { run.roster with
      entries := [{ trailer with quietStart := some 199700 }, trailer], censusDue := some 200000 } }
    AwakeLaw s ∧ cameDue (.silenceMark 0) 200000 s ∧ cameDue (.lossMark 1) 200000 s
    ∧ cameDue .censusClose 200000 s := by decide

theorem witness_RosterMarksAndCensus_coupling :
    let u (n : Nat) : List UnlistedRecord := (List.range n).map (fun i => { station := 30 + i, time := 100 + i })
    cameDue (.staleExpiry 7) 200400 { driving coolant (tracking 0 0) 88 with now := 200400 }
    ∧ AwakeLaw (driving coolant (tracking 0 0) 88)
    ∧ (∀ e ∈ busy.roster.entries, e.record.station ≠ 9)
    ∧ (∃ r ∈ u 2, r.station = 30) ∧ (∀ r ∈ u 7, r.station ≠ 9) ∧ (u 7).length < 8
    ∧ (∀ r ∈ u 8, r.station ≠ 9) ∧ 8 ≤ (u 8).length := by decide

/-- Table 8-6, R133: the coupling slot 41 reads 0 under its mask, then 1 again. -/
theorem test_coupling :
    let s := { run with roster := { run.roster with entries := [trailer] } }
    let t := rosterSlot 41 2 .fresh s
    t.roster.entries.map (fun e => (e.state, e.uncoupled, e.quietStart)) = [(.released, true, none)]
    ∧ (rosterSlot 41 1 .fresh t).roster.entries.map (fun e => (e.state, e.uncoupled, e.quietStart))
        = [(.silent, false, some 200000)] := by decide

end Sys2Proof.Tests
end

/-! Proofs. The queue of commands, power-on and the passing of time. -/

namespace Sys2Proof.Proofs

open Sys2Proof Sys2Proof.Machine Sys2Proof.Claims

/-! ## A command completes -/

/-- Settles O1: the second arm of `step`. -/
theorem stepTakesFrontCommand : Obligations.StepTakesFrontCommand := by
  unfold Obligations.StepTakesFrontCommand
  intro c rest s hq
  simp only [step, hq]

/-- A timer's command leaves the queue of commands where its work does. -/
theorem onExpiry_pending (due : Option Nat) (f : Nat → State → State)
    (h : ∀ d t, (f d t).pending = t.pending) (s : State) : (onExpiry due f s).pending = s.pending :=
  onExpiry_keeps State.pending due f h (fun _ _ => by simp) s

/-- A reception leaves the queue of commands where the handling of the frame does. -/
theorem receive_pending (f : State → State) (h : ∀ t, (f t).pending = t.pending) (s : State) :
    (receive f s).pending = s.pending := by
  unfold receive
  split
  · rw [h]; simp
  · rfl

/-- No effect of a command touches the queue of commands: an effect is a timer's work, a reception, or an operation
of one block. -/
theorem effectOf_pending (c : Instr) (s : State) : (effectOf c s).pending = s.pending := by
  cases c <;> simp only [effectOf, receiveRequest, receiveGood]
  case memoryReadTimeout | ignitionDebounceExpiry | afterRunExpiry | presenceReplyDelayEnd | overrideExpiry
      | mutingExpiry | peerSilenceExpiry | clusterStatusTimer | distanceReportTimer | staleExpiry | motionPeriod
      | holdExpiry | standstillExpiry | neverGraceExpiry | persistenceExpiry | provingExpiry | lampPhaseExpiry
      | chimePatternTimer | buttonDebounceExpiry | longPressExpiry | listeningWindowExpiry | driverStaleExpiry
      | secondMark | driverSpeedSample | slewStep | holdoverExpiry | distanceSample | writeAttemptTimeout
      | silenceMark | lossMark | censusClose =>
    exact onExpiry_pending _ _ (fun _ _ => by simp) s
  case frameReceived | timeMark | presence | readState | readSlot | readRoster | readHealth | clearHealth
      | readDistance | testOverride | endOverride | ackErrorIndication | unknownRequest =>
    exact receive_pending _ (fun _ => by simp) s
  all_goals simp

/-- The end of a command leaves no report undelivered. -/
@[simp] theorem finish_reports (s : State) : (finish s).reports = [] := by
  simp [finish]

/-- Settles O2: POWER_ON answers its power-on state, every other command what `finish` makes of its effect. -/
theorem everyCommandCompletes : Obligations.EveryCommandCompletes := by
  unfold Obligations.EveryCommandCompletes
  intro c s
  obtain ⟨t, ht⟩ := exec_next c s
  refine ⟨t, ht, ?_⟩
  rcases exec_cases ht with ⟨l, -, rfl⟩ | ⟨-, rfl⟩
  · exact ⟨rfl, rfl⟩
  · simp [effectOf_pending]

/-! ## The tick -/

/-- The search of a tick finds the first timer of the list that has been reached, under its place. -/
theorem firstReached_eq_some {s : State} {c : Instr} (hc : reached s c = true) :
    ∀ (l : List Instr) (n k : Nat), l[k]? = some c →
      (∀ j c', j < k → l[j]? = some c' → reached s c' = false) → firstReached s n l = some (n + k, c)
  | [], _, _, hl, _ => by simp at hl
  | x :: xs, n, 0, hl, _ => by
    obtain rfl : x = c := by simpa using hl
    simp [firstReached, hc]
  | x :: xs, n, k + 1, hl, hearlier => by
    have hx : reached s x = false := hearlier 0 x (by omega) rfl
    have htail := firstReached_eq_some hc xs (n + 1) k (by simpa using hl)
      (fun j c' hj hc' => hearlier (j + 1) c' (by omega) (by simpa using hc'))
    simp only [firstReached, hx, htail]
    simp; omega

/-- The search of a tick finds nothing where no timer of the list has been reached. -/
theorem firstReached_eq_none {s : State} :
    ∀ (l : List Instr) (n : Nat), (∀ c ∈ l, reached s c = false) → firstReached s n l = none
  | [], _, _ => rfl
  | x :: xs, n, h => by
    simp only [firstReached, h x (by simp)]
    exact firstReached_eq_none xs (n + 1) (fun c hc => h c (by simp [hc]))

/-- A millisecond that a negative slew step gives up (R109) is given up whole. -/
theorem givenUp_one_of_givesUpAt {c : Clock} {now : Nat} (h : givesUpAt c (now + 1)) :
    c.givenUp now 1 = 1 := by
  obtain ⟨r, due, hslew, hneg, hdue, j, hj, hmoment⟩ := h
  simp only [Clock.givenUp, Clock.stepsDue, hslew, hdue, slewMs, hneg, true_and]
  generalize r.natAbs = m at *
  split <;> split <;> omega

/-- In any other millisecond the wall clock gives up nothing (R109). -/
theorem givenUp_one_of_not_givesUpAt {c : Clock} {now : Nat} (h : ¬ givesUpAt c (now + 1)) :
    c.givenUp now 1 = 0 := by
  unfold Clock.givenUp Clock.stepsDue
  split
  · next r due hslew hdue =>
    by_cases hneg : r < 0
    · have hno : ∀ j, j < r.natAbs → now + 1 ≠ due + 100 * j :=
        fun j hj hm => h ⟨r, due, hslew, hneg, hdue, j, hj, hm⟩
      have hj := hno ((now + 1 - due) / 100)
      simp only [hneg, true_and, slewMs]
      generalize r.natAbs = m at *
      split <;> split <;> omega
    · simp [hneg]
  · rfl
  · rfl

/-- A wall clock within its ranges stands where no time passes. -/
theorem addMs_zero {s : State} (h : ClockLaw s) : s.driver.clock.addMs 0 = s.driver.clock := by
  obtain ⟨hsec, hms, -⟩ := h
  unfold Clock.addMs
  split
  · rfl
  · have h1 : (s.driver.clock.seconds * 1000 + s.driver.clock.ms + 0) % 4294967296000 / 1000
        = s.driver.clock.seconds := by omega
    have h2 : (s.driver.clock.seconds * 1000 + s.driver.clock.ms + 0) % 4294967296000 % 1000
        = s.driver.clock.ms := by omega
    simp only [h1, h2]

/-- One millisecond of the part's time base, field by field (R85). -/
theorem advance_one_setScan (s : State) :
    (advance 1 s).setScan 0 = { s with
      now := s.now + 1
      scan := 0
      driver := { s.driver with clock := s.driver.clock.pass s.now 1 }
      readout := if readoutLit s = true then
          { s.readout with queue := s.readout.queue.map (PopupEntry.age 1) }
        else s.readout } := by
  unfold advance
  split <;> rfl

/-- Settles O3: the two outcomes of the search that a tick makes. -/
theorem emptyQueueTicks : Obligations.EmptyQueueTicks := by
  unfold Obligations.EmptyQueueTicks
  intro s hq
  have hstep : step s = .next (tick s) := by simp only [step, hq]
  refine ⟨fun i c hi hc hreached hearlier => ?_, fun hnone => ⟨s.driver.clock.pass s.now 1, ?_, ?_, ?_⟩⟩
  · have hfirst : firstReached s s.scan (allTimers.drop s.scan) = some (s.scan + (i - s.scan), c) :=
      firstReached_eq_some hreached _ _ _
        (by rw [List.getElem?_drop, Nat.add_sub_cancel' hi, hc])
        (fun j c' hj hc' => hearlier (s.scan + j) c' (by omega) (by omega)
          (by rw [← List.getElem?_drop, hc']))
    rw [Nat.add_sub_cancel' hi] at hfirst
    simp only [hstep, tick, hfirst]
    rfl
  · have hfirst : firstReached s s.scan (allTimers.drop s.scan) = none :=
      firstReached_eq_none _ _ fun c hc => by
        obtain ⟨j, hj⟩ := List.mem_iff_getElem?.mp hc
        exact hnone (s.scan + j) c (by omega) (by rw [← List.getElem?_drop, hj])
    simp only [hstep, tick, hfirst, advance_one_setScan]
  · intro hlaw hgives
    simp [Clock.pass, givenUp_one_of_givesUpAt hgives, addMs_zero hlaw]
  · intro hgives
    simp [Clock.pass, givenUp_one_of_not_givesUpAt hgives]

/-! ## Power-on -/

/-- Settles O5: `State.powerOn` field by field; the buttons one by one. -/
theorem powerOnGivesPowerOnValues : Obligations.PowerOnGivesPowerOnValues := by
  unfold Obligations.PowerOnGivesPowerOnValues
  intro l s
  refine ⟨_, exec_powerOn l s, ?_⟩
  simp [State.powerOn, channelOf, outputLit, buttonOf, driverRecord, Slot.initial, Channel.initial,
    Attribute.initial, DriverRecord.initial, sounderOn, soundingEntry, PartState.driving, ButtonInput.initial]
  intro b
  cases b <;> rfl

end Sys2Proof.Proofs

/-! Proofs. Bytes, the fields read from them, and the arithmetic of an engineering value. -/

namespace Sys2Proof.Proofs

open Sys2Proof Sys2Proof.Machine Sys2Proof.Claims

/-! ## Bytes least significant first -/

@[simp] theorem leNat_nil : leNat [] = 0 := rfl

@[simp] theorem leNat_cons (b : Byte) (bs : List Byte) : leNat (b :: bs) = b.toNat + 256 * leNat bs := rfl

@[simp] theorem leBytes_zero (x : Nat) : leBytes 0 x = [] := rfl

@[simp] theorem leBytes_succ (n x : Nat) : leBytes (n + 1) x = BitVec.ofNat 8 x :: leBytes n (x / 256) := rfl

@[simp] theorem length_leBytes (n x : Nat) : (leBytes n x).length = n := by
  induction n generalizing x with
  | zero => rfl
  | succ n ih => simp [ih]

/-- The bytes of a number are read back as the number, as far as they reach. -/
theorem leNat_leBytes_mod (n x : Nat) : leNat (leBytes n x) = x % 256 ^ n := by
  induction n generalizing x with
  | zero => simp [Nat.mod_one]
  | succ n ih =>
    calc leNat (leBytes (n + 1) x) = x % 256 + 256 * (x / 256 % 256 ^ n) := by simp [ih]
      _ = x % 256 ^ (n + 1) := by rw [Nat.pow_succ', Nat.mod_mul]

/-- A number that fits its bytes is read back from them. -/
theorem leNat_leBytes {n x : Nat} (h : x < 256 ^ n) : leNat (leBytes n x) = x := by
  rw [leNat_leBytes_mod, Nat.mod_eq_of_lt h]

/-- Bit k of a number carried least significant byte first is bit (k mod 8) of byte floor(k / 8) (R7). -/
theorem testBit_leNat (bytes : List Byte) (k : Nat) :
    (leNat bytes).testBit k = (bytes.getD (k / 8) 0).toNat.testBit (k % 8) := by
  induction bytes generalizing k with
  | nil => simp
  | cons b bs ih =>
    rw [leNat_cons, Nat.add_comm, show (256 : Nat) = 2 ^ 8 from rfl, Nat.testBit_two_pow_mul_add _ b.isLt]
    by_cases hk : k < 8
    · simp [hk, Nat.div_eq_of_lt hk, Nat.mod_eq_of_lt hk]
    · have hdiv : k / 8 = (k - 8) / 8 + 1 := by omega
      have hmod : k % 8 = (k - 8) % 8 := by omega
      simp [hk, ih, hdiv, hmod]

/-! ## Fields of bits -/

theorem bitField_lt (bytes : List Byte) (start length : Nat) : bitField bytes start length < 2 ^ length :=
  Nat.mod_lt _ (Nat.two_pow_pos length)

/-- Bit k of a field is bit start + k of the bytes, counted byte by byte from the first (R7, R170). -/
theorem testBit_bitField (bytes : List Byte) (start : Nat) {length k : Nat} (hk : k < length) :
    (bitField bytes start length).testBit k
      = (bytes.getD ((start + k) / 8) 0).toNat.testBit ((start + k) % 8) := by
  rw [bitField, Nat.testBit_mod_two_pow, Nat.testBit_div_two_pow, testBit_leNat]
  simp [hk, Nat.add_comm start k]

@[simp] theorem length_padEight (payload : List Byte) : (padEight payload).length = 8 := by
  simp [padEight]

/-- The bytes that a payload of at most eight does not carry are 0 (R7). -/
theorem getD_padEight {payload : List Byte} (h : payload.length ≤ 8) (i : Nat) :
    (padEight payload).getD i 0 = payload.getD i 0 := by
  simp only [List.getD_eq_getElem?_getD, padEight, List.getElem?_take, List.getElem?_append,
    List.getElem?_replicate]
  by_cases hi : i < payload.length
  · simp [hi, show i < 8 by omega]
  · rw [if_neg hi, List.getElem?_eq_none (by omega)]
    split
    · split <;> rfl
    · rfl

/-- The bytes counted from the eighth (R8). -/
theorem getD_reverse_padEight (payload : List Byte) {i : Nat} (hi : i < 8) :
    (padEight payload).reverse.getD i 0 = (padEight payload).getD (7 - i) 0 := by
  rw [List.getD_eq_getElem?_getD, List.getD_eq_getElem?_getD, List.getElem?_reverse (by simpa using hi),
    length_padEight, Nat.sub_right_comm]

/-- Bit k of the raw field of a descriptor (R7, R8). -/
theorem testBit_extractField {d : Descriptor} {payload : List Byte} (hlen : payload.length ≤ 8)
    (hfit : d.start + d.length ≤ 64) {k : Nat} (hk : k < d.length) :
    (extractField d payload).testBit k
      = (payload.getD (if d.big then 7 - (d.start + k) / 8 else (d.start + k) / 8) 0).toNat.testBit
          ((d.start + k) % 8) := by
  rw [extractField, testBit_bitField _ _ hk]
  split
  · rw [getD_reverse_padEight _ (by omega), getD_padEight hlen]
  · rw [getD_padEight hlen]

/-! ## The engineering value -/

/-- The rounded quotient is the nearest integer, exact halves away from zero (R11). -/
theorem divRound_nearest (p : Int) {divisor : Nat} (h : 1 ≤ divisor) :
    2 * (p - divRound p divisor * divisor).natAbs ≤ divisor
      ∧ (2 * (p - divRound p divisor * divisor).natAbs = divisor →
          p.natAbs < (divRound p divisor * divisor).natAbs) := by
  have hsplit : p.tdiv divisor * divisor + p.tmod divisor = p := Int.tdiv_mul_add_tmod p divisor
  have hrem : (p.tmod divisor).natAbs < divisor := by
    rw [Int.natAbs_tmod]; exact Nat.mod_lt _ h
  have hsign : 0 ≤ p ∧ 0 ≤ p.tmod divisor ∧ 0 ≤ p.tdiv divisor * divisor
      ∨ p < 0 ∧ p.tmod divisor ≤ 0 ∧ p.tdiv divisor * divisor ≤ 0 := by
    rcases Int.lt_or_le p 0 with hp | hp
    · have hq : 0 ≤ (-p).tdiv divisor * divisor :=
        Int.mul_nonneg (Int.tdiv_nonneg (by omega) (by omega)) (by omega)
      have hr : 0 ≤ (-p).tmod divisor := Int.tmod_nonneg _ (by omega)
      rw [Int.neg_tdiv, Int.neg_mul] at hq
      rw [Int.neg_tmod] at hr
      omega
    · exact .inl ⟨hp, Int.tmod_nonneg _ hp, Int.mul_nonneg (Int.tdiv_nonneg hp (by omega)) (by omega)⟩
  generalize hq : p.tdiv divisor * divisor = m at *
  generalize p.tmod divisor = rem at *
  have hq1 : (p.tdiv divisor + 1) * divisor = m + divisor := by rw [Int.add_mul, hq, Int.one_mul]
  have hq2 : (p.tdiv divisor - 1) * divisor = m - divisor := by rw [Int.sub_mul, hq, Int.one_mul]
  simp only [divRound, hq]
  split
  · split
    · rw [hq1]; omega
    · rw [hq2]; omega
  · rw [hq]; omega

theorem divRound_zero {divisor : Nat} (h : 1 ≤ divisor) : divRound 0 divisor = 0 := by
  simp [divRound]; omega

/-- The two's complement reading of a field of `length` bits lies in its range (R10). -/
theorem signExtend_range {length raw : Nat} (hlen : 1 ≤ length) (hraw : raw < 2 ^ length) :
    (signExtend length raw = raw ∨ signExtend length raw = (raw : Int) - 2 ^ length)
      ∧ -(2 ^ (length - 1)) ≤ signExtend length raw ∧ signExtend length raw < 2 ^ (length - 1) := by
  obtain ⟨n, rfl⟩ : ∃ n, length = n + 1 := ⟨length - 1, by omega⟩
  have hpos : 0 < 2 ^ n := Nat.two_pow_pos n
  have hcast : ((2 ^ n : Nat) : Int) = 2 ^ n := by norm_num
  simp only [signExtend, Nat.add_sub_cancel]
  rw [Nat.pow_succ] at hraw
  rw [pow_succ, ← hcast]
  split <;> omega

theorem saturate32_cases (x : Int) :
    (2147483647 < x → saturate32 x = 2147483647) ∧ (x < -2147483648 → saturate32 x = -2147483648)
      ∧ (-2147483648 ≤ x → x ≤ 2147483647 → saturate32 x = x) := by
  unfold saturate32
  split
  · omega
  · split <;> omega

/-- Settles O18: extraction bit by bit, the reading of a raw value by signedness and reserve, rounding and
saturation. -/
theorem rawFieldsAreInterpretedAndScaled : Obligations.RawFieldsAreInterpretedAndScaled := by
  unfold Obligations.RawFieldsAreInterpretedAndScaled
  refine ⟨fun d hdiv hlen => ⟨fun r => ⟨divRound (r * d.numerator) d.divisor, ?_⟩, fun raw hraw => ?_,
    fun e w x => ⟨rfl, rfl⟩, fun payload hpay hfit => ⟨?_, fun k hk => testBit_extractField hpay hfit hk⟩⟩,
    fun bytes start length => ⟨bitField_lt bytes start length, fun k hk => testBit_bitField bytes start hk⟩⟩
  · obtain ⟨hnear, hhalf⟩ := divRound_nearest (r * d.numerator) hdiv
    exact ⟨hnear, hhalf, fun h0 => by rw [h0, Int.mul_zero, divRound_zero hdiv], saturate32_cases _⟩
  · refine ⟨fun hs => ⟨signExtend d.length raw, by simp [interpretField, hs], signExtend_range hlen hraw⟩,
      fun hs hr hv => by simp [interpretField, hs, hr, hv], fun hs hr h2 hv => ?_, fun hs hv => ?_⟩
    · have h4 : 2 ^ 2 ≤ 2 ^ d.length := Nat.pow_le_pow_right (by decide) h2
      simp [interpretField, hs, hr, hv]; omega
    · rcases hv with hr | hv
      · simp [interpretField, hs, hr]
      · simp [interpretField, hs, show raw ≠ 2 ^ d.length - 1 by omega, show raw ≠ 2 ^ d.length - 2 by omega]
  · exact bitField_lt _ _ _

end Sys2Proof.Proofs

/-! Proofs. The data bytes of the readings (Table 12-5). -/

namespace Sys2Proof.Proofs

open Sys2Proof Sys2Proof.Machine Sys2Proof.Claims

/-! ## Codes -/

@[simp] theorem partCode_eq (x : PartState) : partCode x = partNumber x := by cases x <;> rfl
@[simp] theorem lineCode_eq (x : LineState) : lineCode x = lineNumber x := by cases x <;> rfl
@[simp] theorem clockCode_eq (x : ClockState) : clockCode x = clockNumber x := by cases x <;> rfl
@[simp] theorem storeCode_eq (x : StoreState) : storeCode x = storeNumber x := by cases x <;> rfl
@[simp] theorem channelCode_eq (x : ChannelState) : channelCode x = channelNumber x := by cases x <;> rfl
@[simp] theorem qualityCode_eq (x : Quality) : qualityCode x = qualityNumber x := by cases x <;> rfl
@[simp] theorem rankCode_eq (x : Rank) : rankCode x = rankNumber x := by cases x <;> rfl
@[simp] theorem roleCode_eq (x : Role) : roleCode x = roleNumber x := by cases x <;> rfl
@[simp] theorem entryCode_eq (x : EntryState) : entryCode x = entryNumber x := by cases x <;> rfl

@[simp] theorem restCode_eq (x : Option RestReason) : restCode x = restNumber x := by
  cases x with
  | none => rfl
  | some r => cases r <;> rfl

theorem partNumber_lt (x : PartState) : partNumber x < 8 := by cases x <;> decide
theorem lineNumber_lt (x : LineState) : lineNumber x < 4 := by cases x <;> decide
theorem clockNumber_lt (x : ClockState) : clockNumber x < 4 := by cases x <;> decide
theorem storeNumber_lt (x : StoreState) : storeNumber x < 4 := by cases x <;> decide
theorem roleNumber_lt (x : Role) : roleNumber x < 16 := by cases x <;> decide

theorem flagBit_lt (b : Bool) : flagBit b < 2 := by cases b <;> decide

/-! ## Fields of one byte -/

/-- A field of a byte is cut out of its number. -/
theorem bitField_byte (x start length : Nat) :
    bitField [BitVec.ofNat 8 x] start length = x % 256 / 2 ^ start % 2 ^ length := by
  simp only [bitField, leNat_cons, leNat_nil, BitVec.toNat_ofNat, Nat.mul_zero, Nat.add_zero]

/-- A bit that holds a flag reads as the flag. -/
theorem bitFlag_eq {bytes : List Byte} {bit : Nat} {b : Bool} (h : bitField bytes bit 1 = flagBit b) :
    bitFlag bytes bit = b := by
  rw [bitFlag, h]
  cases b <;> rfl

/-! ## READ-STATE -/

/-- The two bytes of item 0 hold the codes and flags of the part. -/
theorem partReading_layout (s : State) : ∃ d0 d1 : Byte, partReading s = [d0, d1]
    ∧ bitField [d0] 0 4 = partNumber s.control.part ∧ bitFlag [d0] 4 = s.control.ready
    ∧ bitFlag [d0] 5 = s.control.errorIndication ∧ bitFlag [d0] 6 = s.control.fallback
    ∧ bitFlag [d0] 7 = s.service.override.inForce
    ∧ bitField [d1] 0 2 = lineNumber s.line.state ∧ bitField [d1] 2 2 = clockNumber s.driver.clock.state
    ∧ bitField [d1] 4 2 = storeNumber s.store.state := by
  have hp := partNumber_lt s.control.part
  have h4 := flagBit_lt s.control.ready
  have h5 := flagBit_lt s.control.errorIndication
  have h6 := flagBit_lt s.control.fallback
  have h7 := flagBit_lt s.service.override.inForce
  have hl := lineNumber_lt s.line.state
  have hc := clockNumber_lt s.driver.clock.state
  have hs := storeNumber_lt s.store.state
  refine ⟨_, _, rfl, ?_, bitFlag_eq ?_, bitFlag_eq ?_, bitFlag_eq ?_, bitFlag_eq ?_, ?_, ?_, ?_⟩
  all_goals
    rw [bitField_byte]
    simp only [partCode_eq, lineCode_eq, clockCode_eq, storeCode_eq]
    omega

/-- An item from 1 to 6 reads the channel of its gauge. -/
theorem replyReadState_channel (s : State) (g : Fin 6) (rest : List Byte) :
    replyReadState (BitVec.ofNat 8 (g.val + 1) :: rest) s
      = .done [BitVec.ofNat 8 (channelNumber (channelOf s g).state),
          BitVec.ofNat 8 (restNumber (channelOf s g).rest), BitVec.ofNat 8 (channelOf s g).stalls,
          if (channelOf s g).fault then 1 else 0] := by
  have hfault : BitVec.ofNat 8 (flagBit (channelOf s g).fault) = if (channelOf s g).fault then 1 else 0 := by
    cases (channelOf s g).fault <;> rfl
  have hitem : (BitVec.ofNat 8 (g.val + 1)).toNat = g.val + 1 := by
    rw [BitVec.toNat_ofNat]; omega
  rw [← hfault]
  simp [replyReadState, stateReading, readingReply, channelReading, hitem, channelOf,
    show g.val + 1 ≤ 6 from g.isLt]

/-! ## READ-SLOT -/

/-- A reading of a slot of the table. -/
theorem replyReadSlot_eq (s : State) (n : Fin 64) (item : Byte) (rest : List Byte) :
    replyReadSlot (BitVec.ofNat 8 n.val :: item :: rest) s
      = readingReply (slotReading s.now s.slots[n] item.toNat) := by
  have hslot : (BitVec.ofNat 8 n.val).toNat = n.val := by rw [BitVec.toNat_ofNat]; omega
  simp [replyReadSlot, hslot]

/-- The four bytes of a value are its two's complement (R168). -/
theorem signExtend_pattern32 {e : Int} (hlow : -2147483648 ≤ e) (hhigh : e ≤ 2147483647) :
    signExtend 32 (leNat (leBytes 4 (pattern32 e).toNat)) = e := by
  have htop : (pattern32 e).toNat < 256 ^ 4 := (pattern32 e).isLt
  rw [leNat_leBytes htop, pattern32, BitVec.toNat_ofInt, signExtend]
  norm_num
  split <;> omega

/-- The age of a slot fits its four bytes. -/
theorem slotAge_lt (now : Nat) (x : Slot) : slotAge now x < 256 ^ 4 := by
  unfold slotAge
  split <;> omega

/-! ## READ-ROSTER -/

theorem sinceHeard_lt (now : Nat) (heard : Option Nat) : sinceHeard now heard < 256 ^ 2 := by
  unfold sinceHeard
  split <;> omega

/-- An index below 24 reads the roster entry of that place. -/
theorem replyReadRoster_entry (s : State) (i : Fin 24) (rest : List Byte) :
    replyReadRoster (BitVec.ofNat 8 i.val :: rest) s
      = readingReply ((s.roster.entries[i.val]?).map (fun e =>
          [BitVec.ofNat 8 e.record.station,
            BitVec.ofNat 8 (roleCode e.record.role + 16 * flagBit e.record.required
              + 32 * flagBit e.acknowledged),
            BitVec.ofNat 8 (entryCode e.state)] ++ leBytes 2 (sinceHeard s.now e.lastHeard))) := by
  have hindex : (BitVec.ofNat 8 i.val).toNat = i.val := by rw [BitVec.toNat_ofNat]; omega
  simp [replyReadRoster, rosterReading, hindex, show i.val ≤ 31 by omega]

/-- An index from 24 to 31 reads the unlisted record of that place, the most recent first. -/
theorem replyReadRoster_unlisted (s : State) (i : Fin 8) (rest : List Byte) :
    replyReadRoster (BitVec.ofNat 8 (24 + i.val) :: rest) s
      = readingReply (((byRecency s.roster.unlisted)[i.val]?).map (fun u =>
          [BitVec.ofNat 8 u.station, 255, 255] ++ leBytes 2 (sinceHeard s.now (some u.time)))) := by
  have hindex : (BitVec.ofNat 8 (24 + i.val)).toNat = 24 + i.val := by rw [BitVec.toNat_ofNat]; omega
  simp [replyReadRoster, rosterReading, hindex, show 24 + i.val ≤ 31 by omega]

theorem insertRecent_perm (u : UnlistedRecord) (us : List UnlistedRecord) : (insertRecent u us).Perm (u :: us) := by
  induction us with
  | nil => rfl
  | cons v vs ih =>
    simp only [insertRecent]
    split
    · rfl
    · exact (ih.cons v).trans (List.Perm.swap u v vs)

/-- The insertion keeps a list in order, the most recent first. -/
theorem insertRecent_sorted (u : UnlistedRecord) {us : List UnlistedRecord}
    (h : us.Pairwise (fun v w => w.time ≤ v.time)) :
    (insertRecent u us).Pairwise (fun v w => w.time ≤ v.time) := by
  induction us with
  | nil => simp [insertRecent]
  | cons v vs ih =>
    obtain ⟨hv, hvs⟩ := List.pairwise_cons.mp h
    simp only [insertRecent]
    split
    · next huv =>
      exact List.pairwise_cons.mpr ⟨fun w hw => by
        rcases List.mem_cons.mp hw with rfl | hw
        · exact huv
        · exact (hv w hw).trans huv, h⟩
    · next huv =>
      refine List.pairwise_cons.mpr ⟨fun w hw => ?_, ih hvs⟩
      rcases List.mem_cons.mp ((insertRecent_perm u vs).mem_iff.mp hw) with rfl | hw
      · omega
      · exact hv w hw

/-- Reading the unlisted list by recency reorders it, the most recent first (R139). -/
theorem byRecency_perm_sorted (us : List UnlistedRecord) :
    (byRecency us).Perm us ∧ (byRecency us).Pairwise (fun v w => w.time ≤ v.time) := by
  suffices h : ∀ acc : List UnlistedRecord, acc.Pairwise (fun v w => w.time ≤ v.time) →
      (us.foldl (fun l u => insertRecent u l) acc).Perm (acc ++ us)
        ∧ (us.foldl (fun l u => insertRecent u l) acc).Pairwise (fun v w => w.time ≤ v.time) from
    h [] List.Pairwise.nil
  induction us with
  | nil => exact fun acc h => ⟨by simp, h⟩
  | cons u us ih =>
    intro acc h
    obtain ⟨hperm, hsorted⟩ := ih _ (insertRecent_sorted u h)
    refine ⟨hperm.trans ?_, hsorted⟩
    exact ((insertRecent_perm u acc).append_right us).trans List.perm_middle.symm

/-! ## READ-DISTANCE -/

/-- An item of the distances reads its figure and the store state. -/
theorem replyReadDistance_eq (s : State) (i : Fin 3) (rest : List Byte) :
    replyReadDistance (BitVec.ofNat 8 i.val :: rest) s
      = .done (leBytes 4 (if i = 0 then s.distance.total else if i = 1 then s.distance.tripA
          else s.distance.tripB) ++ [BitVec.ofNat 8 (storeNumber s.store.state)]) := by
  fin_cases i <;> simp [replyReadDistance, distanceReading, readingReply]

/-- Settles O40: reading by reading; the values fit the bytes that carry them. -/
theorem readingLayouts : Obligations.ReadingLayouts := by
  unfold Obligations.ReadingLayouts
  intro s
  refine ⟨fun rest => ?_, fun g rest => replyReadState_channel s g rest, fun n rest => ?_, fun n rest => ?_,
    fun n rest => ?_, fun i rest e he => ?_, fun i rest he => ?_, byRecency_perm_sorted _, fun i rest u hu => ?_,
    fun i rest hu => ?_, fun i rest => ?_, fun h rest => ?_, fun b rest hb => ?_, fun b i rest hb => ?_,
    fun b rest hb => ?_, fun b rest hb => ?_, fun b rest hb => ?_, rfl, rfl, rfl, rfl, rfl⟩
  · obtain ⟨d0, d1, hdata, hfields⟩ := partReading_layout s
    exact ⟨d0, d1, by simp [replyReadState, stateReading, readingReply, hdata], hfields⟩
  · refine ⟨leBytes 4 (pattern32 s.slots[n].value).toNat, ?_, length_leBytes _ _, signExtend_pattern32⟩
    simp [replyReadSlot_eq, slotReading, readingReply]
  · refine ⟨leBytes 4 (slotAge s.now s.slots[n]), ?_, length_leBytes _ _, ?_⟩
    · simp [replyReadSlot_eq, slotReading, readingReply]
    · rw [leNat_leBytes (slotAge_lt _ _)]
      rfl
  · simp only [replyReadSlot_eq, slotReading, readingReply, slotStation, slotRank]
    cases s.slots[n].writer <;> simp
  · have hrole := roleNumber_lt e.record.role
    have hrequired := flagBit_lt e.record.required
    have hacknowledged := flagBit_lt e.acknowledged
    refine ⟨BitVec.ofNat 8 (roleNumber e.record.role + 16 * flagBit e.record.required
      + 32 * flagBit e.acknowledged), leBytes 2 (sinceHeard s.now e.lastHeard), ?_, ?_, bitFlag_eq ?_, bitFlag_eq ?_,
      length_leBytes _ _, ?_⟩
    · simp [replyReadRoster_entry, he, readingReply]
    · rw [bitField_byte]; omega
    · rw [bitField_byte]; omega
    · rw [bitField_byte]; omega
    · rw [leNat_leBytes (sinceHeard_lt _ _)]
      cases e.lastHeard <;> rfl
  · rw [replyReadRoster_entry, he]; rfl
  · refine ⟨leBytes 2 (sinceHeard s.now (some u.time)), ?_, length_leBytes _ _, ?_⟩
    · rw [replyReadRoster_unlisted, hu]; rfl
    · rw [leNat_leBytes (sinceHeard_lt _ _)]; rfl
  · rw [replyReadRoster_unlisted, hu]; rfl
  · refine ⟨_, replyReadDistance_eq s i rest, length_leBytes _ _, fun hlaw => leNat_leBytes ?_⟩
    obtain ⟨ht, ha, hb, -⟩ := hlaw
    simp only [totalMax, tripMax] at ht ha hb
    split
    · omega
    · split <;> omega
  · have hindex : (BitVec.ofNat 8 h.val).toNat = h.val := by rw [BitVec.toNat_ofNat]; omega
    simp [replyReadHealth, healthReading, readingReply, hindex]
  · simp [replyReadState, stateReading, readingReply, show b.toNat ≠ 0 by omega, show ¬ b.toNat ≤ 6 by omega]
  · rcases hb with hb | hb
    · simp [replyReadSlot, readingReply, show s.slots[b.toNat]? = none by simp; omega]
    · cases s.slots[b.toNat]? <;>
        simp [replyReadSlot, slotReading, readingReply, show i.toNat ≠ 0 by omega, show i.toNat ≠ 1 by omega,
          show i.toNat ≠ 2 by omega]
  · simp [replyReadRoster, readingReply, show ¬ b.toNat ≤ 31 by omega]
  · simp [replyReadHealth, healthReading, readingReply, show ¬ b.toNat < 10 by omega]
  · simp [replyReadDistance, distanceReading, readingReply, show b.toNat ≠ 0 by omega,
      show b.toNat ≠ 1 by omega, show b.toNat ≠ 2 by omega]

end Sys2Proof.Proofs

/-! Proofs. The configuration image: what a reader lets pass, and what it reads of the bytes written for it. -/

namespace Sys2Proof.Proofs

open Sys2Proof Sys2Proof.Machine Sys2Proof.Claims

/-! ## What a reader lets pass -/

/-- Every result of a reader has a property. -/
def Yields {α : Type} (r : Reader α) (P : α → Prop) : Prop := ∀ bs a rest, r bs = some (a, rest) → P a

theorem yields_any {α : Type} (r : Reader α) : Yields r (fun _ => True) := fun _ _ _ _ => trivial

theorem Yields.mono {α : Type} {r : Reader α} {P Q : α → Prop} (h : Yields r P) (hpq : ∀ a, P a → Q a) :
    Yields r Q :=
  fun bs a rest hr => hpq a (h bs a rest hr)

theorem yields_give {α : Type} {P : α → Prop} {a : α} (h : P a) : Yields (give a) P := by
  intro bs b rest hr
  obtain ⟨rfl, -⟩ : a = b ∧ bs = rest := by simpa [give] using hr
  exact h

theorem yields_andThen {α β : Type} {r : Reader α} {f : α → Reader β} {P : α → Prop} {Q : β → Prop}
    (hr : Yields r P) (hf : ∀ a, P a → Yields (f a) Q) : Yields (andThen r f) Q := by
  intro bs b rest h
  simp only [andThen] at h
  split at h
  · next a rest' ha => exact hf a (hr bs a rest' ha) _ _ _ h
  · cases h

theorem yields_limit (ok : Bool) : Yields (limit ok) (fun _ => ok = true) := by
  intro bs a rest h
  by_cases hok : ok = true
  · exact hok
  · simp [limit, hok] at h

theorem leNat_lt (bytes : List Byte) : leNat bytes < 256 ^ bytes.length := by
  induction bytes with
  | nil => simp
  | cons b bs ih =>
    have hb : b.toNat < 256 := b.isLt
    simp only [leNat_cons, List.length_cons, Nat.pow_succ]
    omega

theorem yields_field (n : Nat) : Yields (field n) (fun x => x < 256 ^ n) := by
  intro bs a rest h
  simp only [field] at h
  split at h
  · next hn =>
    obtain ⟨rfl, -⟩ : leNat (bs.take n) = a ∧ bs.drop n = rest := by simpa using h
    simpa [Nat.min_eq_left hn] using leNat_lt (bs.take n)
  · cases h

theorem yields_coded {α : Type} (decode : Nat → Option α) :
    Yields (coded decode) (fun a => ∃ code, decode code = some a) := by
  refine yields_andThen (yields_field 1) fun code _ bs a rest h => ⟨code, ?_⟩
  simp only [Option.map_eq_some_iff] at h
  obtain ⟨b, hb, heq⟩ := h
  obtain ⟨rfl, -⟩ : b = a ∧ bs = rest := by simpa using heq
  exact hb

theorem yields_records {α : Type} {r : Reader α} {P : α → Prop} (h : Yields r P) :
    ∀ n, Yields (records r n) (fun l => l.length = n ∧ ∀ a ∈ l, P a)
  | 0 => yields_give ⟨rfl, by simp⟩
  | n + 1 => by
    refine yields_andThen h fun a ha => yields_andThen (yields_records h n) fun l hl => ?_
    obtain ⟨hlen, hall⟩ := hl
    refine yields_give ⟨by simp [hlen], fun b hb => ?_⟩
    rcases List.mem_cons.mp hb with rfl | hb
    · exact ha
    · exact hall b hb

theorem yields_counted {α : Type} {r : Reader α} {P : α → Prop} (h : Yields r P) (most : Nat) :
    Yields (counted most r) (fun l => l.length ≤ most ∧ ∀ a ∈ l, P a) := by
  refine yields_andThen (yields_field 1) fun n _ => yields_andThen (yields_limit _) fun _ hn => ?_
  refine (yields_records h n).mono fun l hl => ?_
  obtain ⟨hlen, hall⟩ := hl
  exact ⟨by simpa [hlen] using hn, hall⟩

theorem tenMs_iff {low high x : Nat} : tenMs low high x = true ↔ tensOfMs low high x := by
  simp [tenMs, and_assoc]

/-! ## The limits of the gauge records (R20) -/

theorem increasing_pairwise : ∀ l : List Breakpoint, increasing l = true → l.Pairwise (fun p q => p.value < q.value)
  | [], _ => List.Pairwise.nil
  | [_], _ => List.pairwise_singleton _ _
  | p :: q :: rest, h => by
    obtain ⟨hpq, hrest⟩ : p.value < q.value ∧ increasing (q :: rest) = true := by simpa [increasing] using h
    have ih := increasing_pairwise (q :: rest) hrest
    refine List.pairwise_cons.mpr ⟨fun b hb => ?_, ih⟩
    rcases List.mem_cons.mp hb with rfl | hb
    · exact hpq
    · exact hpq.trans ((List.pairwise_cons.mp ih).1 b hb)

theorem yields_readBreakpoint (fullScale : Nat) :
    Yields (readBreakpoint fullScale) (fun p => p.position ≤ fullScale) := by
  refine yields_andThen (yields_any _) fun e _ => yields_andThen (yields_any _) fun p _ =>
    yields_andThen (yields_limit _) fun _ hp => yields_give ?_
  simpa using hp

theorem yields_readBand : Yields readBand (fun b => tensOfMs 0 10000 b.persistence
    ∧ (b.direction = .high → b.clearLevel ≤ b.setLevel) ∧ (b.direction = .low → b.setLevel ≤ b.clearLevel)) := by
  refine yields_andThen (yields_any _) fun flags _ => yields_andThen (yields_any _) fun set _ =>
    yields_andThen (yields_any _) fun clear _ => yields_andThen (yields_any _) fun persistence _ =>
    yields_andThen (yields_limit _) fun _ h => yields_give ?_
  obtain ⟨hlevels, htens⟩ := Bool.and_eq_true_iff.mp h
  refine ⟨tenMs_iff.mp htens, fun hdirection => ?_, fun hdirection => ?_⟩
  all_goals
    simp only at hdirection ⊢
    simpa only [levelsAgree, hdirection, decide_eq_true_eq] using hlevels

theorem yields_readStandstills : Yields readStandstills (fun c => ∀ st ∈ c, st.kFast ≤ 7) := by
  refine yields_andThen (yields_any _) fun slot _ => ?_
  cases slot with
  | none => exact yields_andThen (yields_any _) fun _ _ => yields_give (by simp)
  | some n =>
    have hst : Yields (readStandstill n) (fun c => c.kFast ≤ 7) := by
      refine yields_andThen (yields_any _) fun threshold _ => yields_andThen (yields_any _) fun kFast _ =>
        yields_andThen (yields_limit _) fun _ h => yields_give ?_
      simpa using h
    exact yields_andThen hst fun c hc => yields_give (by simpa using hc)

theorem yields_readGauge : Yields readGauge gaugeAdmitted := by
  refine yields_andThen (yields_any _) fun flags _ => yields_andThen (yields_any _) fun source _ =>
    yields_andThen (yields_any _) fun fullScale _ => yields_andThen (yields_any _) fun k _ =>
    yields_andThen yields_readStandstills fun standstill hstandstill => yields_andThen (yields_any _) fun v _ =>
    yields_andThen (yields_any _) fun a _ => yields_andThen (yields_any _) fun homing _ =>
    yields_andThen (yields_any _) fun hold _ => yields_andThen (yields_any _) fun rest _ =>
    yields_andThen (yields_any _) fun points _ => yields_andThen (yields_any _) fun bands _ =>
    yields_andThen (yields_limit _) fun _ hlimits =>
    yields_andThen (yields_records (yields_readBreakpoint fullScale) points) fun breakpoints hbreakpoints =>
    yields_andThen (yields_records yields_readBand bands) fun bandList hbandList =>
    yields_andThen (yields_limit _) fun _ hincreasing => yields_give ?_
  obtain ⟨hpoints, hpositions⟩ := hbreakpoints
  obtain ⟨hcount, hrecords⟩ := hbandList
  simp only [Bool.and_eq_true, decide_eq_true_eq, tenMs_iff, and_assoc] at hlimits
  obtain ⟨hfull0, hfull1, hk, hv0, hv1, ha0, ha1, hhoming0, hhoming1, hhold0, hhold1, hhold2, hrest, hpoints0, hpoints1,
    hbands⟩ := hlimits
  exact ⟨⟨hfull0, hfull1, hk, hv0, hv1, ha0, ha1, hhoming0, hhoming1, hrest, by simpa [hcount] using hbands,
      hpositions, hstandstill⟩, rfl, by simpa [hpoints] using hpoints0, by simpa [hpoints] using hpoints1,
    increasing_pairwise _ hincreasing, ⟨hhold0, hhold1, hhold2⟩, hrecords⟩

theorem yields_readGauges : Yields readGauges (fun v => ∀ g : Fin 6, gaugeAdmitted v[g]) := by
  refine yields_andThen yields_readGauge fun g0 h0 => yields_andThen yields_readGauge fun g1 h1 =>
    yields_andThen yields_readGauge fun g2 h2 => yields_andThen yields_readGauge fun g3 h3 =>
    yields_andThen yields_readGauge fun g4 h4 => yields_andThen yields_readGauge fun g5 h5 => yields_give ?_
  intro g
  fin_cases g
  exacts [h0, h1, h2, h3, h4, h5]

/-! ## The limits of the intake entries (R1, R2) -/

theorem yields_readDescriptor : Yields readDescriptor descriptorAdmitted := by
  refine yields_andThen (yields_any _) fun start _ => yields_andThen (yields_any _) fun length _ =>
    yields_andThen (yields_any _) fun flags _ => yields_andThen (yields_any _) fun numerator _ =>
    yields_andThen (yields_any _) fun divisor _ => yields_andThen (yields_any _) fun offset _ =>
    yields_andThen (yields_any _) fun target _ => yields_andThen (yields_limit _) fun _ h => yields_give ?_
  simp only [Bool.and_eq_true, decide_eq_true_eq, and_assoc] at h
  obtain ⟨h1, h2, h3, h4, h5, hreserve⟩ := h
  refine ⟨h1, h2, h3, h4, h5, fun hr => ?_⟩
  simp only at hr
  simp only [hr, Bool.true_and, Bool.not_eq_true', Bool.or_eq_false_iff, decide_eq_false_iff_not] at hreserve
  exact ⟨hreserve.1, by have := hreserve.2; simp only; omega⟩

theorem stationOr255_le {code : Nat} {x : Option Nat} (h : stationOr255 code = some x) :
    ∀ n, x = some n → n ≤ 63 := by
  rintro n rfl
  unfold stationOr255 at h
  split at h
  · cases h
  · split at h
    · next hle =>
      obtain rfl : code = n := by simpa using h
      exact hle
    · cases h

theorem yields_readIntake : Yields readIntake intakeAdmitted := by
  refine yields_andThen (yields_any _) fun topic _ => yields_andThen (yields_coded _) fun sender hsender =>
    yields_andThen (yields_any _) fun sink _ => yields_andThen (yields_any _) fun stale _ =>
    yields_andThen (yields_any _) fun n _ => yields_andThen (yields_limit _) fun _ h =>
    yields_andThen (yields_records yields_readDescriptor n) fun descriptors hdescriptors => yields_give ?_
  simp only [Bool.and_eq_true, decide_eq_true_eq, tenMs_iff, and_assoc] at h
  obtain ⟨htopic, hstale0, hstale1, hstale2, hcount⟩ := h
  obtain ⟨hlen, hall⟩ := hdescriptors
  obtain ⟨code, hcode⟩ := hsender
  refine ⟨htopic, by simp only; omega, stationOr255_le hcode, ⟨hstale0, hstale1, hstale2⟩, fun hs => ?_,
    fun hs => ?_, hall⟩
  · simpa [descriptorsAllowed, show sink = .signals from hs, hlen] using hcount
  · have hn : n = 0 := by simpa [descriptorsAllowed, show ¬ sink = .signals from hs] using hcount
    exact List.length_eq_zero_iff.mp (hlen.trans hn)

/-! ## The limits of the lamps (R46, R47) -/

theorem decodePattern_flash {code n : Nat} (h : decodePattern code = some (.flash n)) : 1 ≤ n ∧ n ≤ 12 := by
  unfold decodePattern at h
  repeat' split at h
  all_goals simp at h
  omega

theorem messageOf_le {code : Nat} {x : Option Nat} (h : messageOf code = some x) : ∀ n, x = some n → n ≤ 63 := by
  rintro n rfl
  unfold messageOf at h
  split at h
  · cases h
  · split at h
    · next hle =>
      obtain rfl : code = n := by simpa using h
      exact hle
    · cases h

theorem yields_readDemand : Yields readDemand
    (fun d => (∀ n, d.pattern = .flash n → 1 ≤ n ∧ n ≤ 12) ∧ ∀ m, d.message = some m → m ≤ 63) := by
  refine yields_andThen (yields_any _) fun source _ => yields_andThen (yields_coded _) fun pattern hpattern =>
    yields_andThen (yields_any _) fun flags _ => yields_andThen (yields_any _) fun chime _ =>
    yields_andThen (yields_coded _) fun message hmessage => yields_give ?_
  obtain ⟨pcode, hp⟩ := hpattern
  obtain ⟨mcode, hm⟩ := hmessage
  exact ⟨fun n hn => decodePattern_flash (hp.trans (congrArg some hn)), messageOf_le hm⟩

theorem yields_readLamp : Yields readLamp (fun l => l.demands.length ≤ 4 ∧ ∀ d ∈ l.demands,
    (∀ n, d.pattern = .flash n → 1 ≤ n ∧ n ≤ 12) ∧ ∀ m, d.message = some m → m ≤ 63) := by
  refine yields_andThen (yields_any _) fun output _ => yields_andThen (yields_any _) fun cls _ =>
    yields_andThen (yields_any _) fun flags _ => yields_andThen (yields_any _) fun n _ =>
    yields_andThen (yields_limit _) fun _ h =>
    yields_andThen (yields_records yields_readDemand n) fun demands hdemands => yields_give ?_
  obtain ⟨hlen, hall⟩ := hdemands
  exact ⟨by simpa [hlen] using h, hall⟩

/-! ## The limits of the roster (R127) -/

theorem isTrailer_iff (r : Role) : isTrailer r = true ↔ r = .trailer1 ∨ r = .trailer2 ∨ r = .trailer3 := by
  cases r <;> simp [isTrailer]

theorem yields_readCoupling : Yields readCoupling (fun c => ∀ x, c = some x → x.mask ≠ 0) := by
  refine yields_andThen (yields_any _) fun slot _ => ?_
  cases slot with
  | none => exact yields_andThen (yields_any _) fun _ _ => yields_give (by simp)
  | some n =>
    refine yields_andThen (yields_field 4) fun mask hmask => yields_andThen (yields_limit _) fun _ h => yields_give ?_
    have hne : mask ≠ 0 := by simpa using h
    intro x hsome hx
    obtain rfl := Option.some.inj hsome
    have hzero := congrArg BitVec.toNat hx
    rw [BitVec.toNat_ofNat, Nat.mod_eq_of_lt (show mask < 2 ^ 32 from hmask)] at hzero
    exact hne hzero

theorem yields_readRosterEntry : Yields readRosterEntry rosterAdmitted := by
  refine yields_andThen (yields_any _) fun station _ => yields_andThen (yields_any _) fun role _ =>
    yields_andThen (yields_any _) fun flags _ => yields_andThen (yields_any _) fun silence _ =>
    yields_andThen yields_readCoupling fun coupling hcoupling =>
    yields_andThen (yields_limit _) fun _ h => yields_give ?_
  simp only [Bool.and_eq_true, decide_eq_true_eq, tenMs_iff, and_assoc] at h
  obtain ⟨hstation, hsilence0, hsilence1, hsilence2, htrailer⟩ := h
  refine ⟨hstation, ⟨hsilence0, hsilence1, hsilence2⟩, fun c hc => ⟨hcoupling c hc, ?_⟩⟩
  exact (isTrailer_iff role).mp (by simpa [show coupling = some c from hc] using htrailer)

/-! ## The limits of the image -/

theorem yields_readHealth : Yields readHealth (fun h => h.weight ≤ 255 ∧ h.threshold ≤ 99) := by
  refine yields_andThen (yields_field 1) fun weight hweight => yields_andThen (yields_any _) fun threshold _ =>
    yields_andThen (yields_limit _) fun _ h => yields_give ⟨by simp only; omega, by simpa using h⟩

/-- The limits that the readers alone lay down. -/
structure TablesRead (t : Tables) : Prop where
  own : t.ownStation ≤ 63
  source : ∀ n, t.timeSource = some n → n ≤ 63
  lead : t.warningLead ≤ 60
  health : ∀ h : Fin 10, t.health[h].weight ≤ 255 ∧ t.health[h].threshold ≤ 99
  gauges : ∀ g : Fin 6, gaugeAdmitted t.gauges[g]
  intake : t.intake.length ≤ 40 ∧ ∀ e ∈ t.intake, intakeAdmitted e
  lamps : t.lamps.length ≤ 32 ∧ ∀ l ∈ t.lamps, l.demands.length ≤ 4 ∧ ∀ d ∈ l.demands,
    (∀ n, d.pattern = .flash n → 1 ≤ n ∧ n ≤ 12) ∧ ∀ m, d.message = some m → m ≤ 63
  roster : t.roster.length ≤ 24 ∧ ∀ e ∈ t.roster, rosterAdmitted e

theorem stationNumber_le {code n : Nat} (h : stationNumber code = some n) : n ≤ 63 := by
  unfold stationNumber at h
  split at h
  · next hle =>
    obtain rfl : code = n := by simpa using h
    exact hle
  · cases h

theorem leadOf_le {code n : Nat} (h : leadOf code = some n) : n ≤ 60 := by
  unfold leadOf at h
  split at h
  · obtain rfl : defaultLead = n := by simpa using h
    decide
  · split at h
    · next hle =>
      obtain rfl : code = n := by simpa using h
      exact hle
    · cases h

theorem tenConfigs_of_all {P : HealthConfig → Prop} {l : List HealthConfig} (hlen : l.length = 10) (h : ∀ c ∈ l, P c)
    (i : Fin 10) : P (tenConfigs l)[i] := by
  have hget : (tenConfigs l)[i] = l.getD i.val { weight := 0, threshold := 0 } := by
    fin_cases i <;> rfl
  have hi : i.val < l.length := by omega
  rw [hget, List.getD_eq_getElem l _ hi]
  exact h _ (List.getElem_mem hi)

theorem yields_readTables : Yields readTables TablesRead := by
  refine yields_andThen (yields_coded _) fun own hown => yields_andThen (yields_any _) fun road _ =>
    yields_andThen (yields_coded _) fun time htime => yields_andThen (yields_coded _) fun lead hlead =>
    yields_andThen (yields_any _) fun pages _ =>
    yields_andThen (yields_records yields_readHealth 10) fun health hhealth =>
    yields_andThen yields_readGauges fun gauges hgauges =>
    yields_andThen (yields_counted yields_readIntake 40) fun intake hintake =>
    yields_andThen (yields_counted yields_readLamp 32) fun lamps hlamps =>
    yields_andThen (yields_counted yields_readRosterEntry 24) fun roster hroster =>
    yields_andThen (yields_any _) fun texts _ => yields_give ?_
  obtain ⟨ocode, ho⟩ := hown
  obtain ⟨tcode, ht⟩ := htime
  obtain ⟨lcode, hl⟩ := hlead
  obtain ⟨hten, hall⟩ := hhealth
  exact ⟨stationNumber_le ho, stationOr255_le ht, leadOf_le hl, tenConfigs_of_all hten hall, hgauges, hintake, hlamps,
    hroster⟩

theorem allDistinct_iff (l : List Nat) : allDistinct l = true ↔ l.Nodup := by
  induction l with
  | nil => simp [allDistinct]
  | cons x xs ih => simp [allDistinct, ih]

/-- The limits across the records (R46, R47, R127). -/
theorem recordsAgree_iff (t : Tables) : recordsAgree t = true ↔
    (t.lamps.map (fun l => l.output)).Nodup ∧ (t.lamps.map (fun l => l.demands.length)).sum ≤ 64
      ∧ (∀ l ∈ t.lamps, ∀ d ∈ l.demands, sourceHeld t.gauges t.roster.length d.source = true
          ∧ messageHeld t.texts d.message = true)
      ∧ (t.roster.map (fun e => e.station)).Nodup ∧ ∀ e ∈ t.roster, e.station ≠ t.ownStation := by
  have houtputs : (t.lamps.map (fun l => l.output.val)).Nodup ↔ (t.lamps.map (fun l => l.output)).Nodup := by
    rw [← List.nodup_map_iff (f := Fin.val) Fin.val_injective, List.map_map]
    rfl
  simp only [recordsAgree, Bool.and_eq_true, allDistinct_iff, houtputs, decide_eq_true_eq, List.all_eq_true,
    bne_iff_ne, and_assoc]

/-- What the references of a demand name is in the image (R47). -/
theorem demandAdmitted_iff (t : Tables) (d : DemandRecord) : demandAdmitted t d ↔
    sourceHeld t.gauges t.roster.length d.source = true ∧ messageHeld t.texts d.message = true
      ∧ (∀ n, d.pattern = .flash n → 1 ≤ n ∧ n ≤ 12) ∧ ∀ m, d.message = some m → m ≤ 63 := by
  have hsource : sourceHeld t.gauges t.roster.length d.source = true ↔
      (∀ g i, d.source = .band g i → i.val < t.gauges[g].bands.length)
        ∧ ∀ n, d.source = .station n → n < t.roster.length := by
    cases d.source <;> simp [sourceHeld]
  have hmessage : messageHeld t.texts d.message = true ↔
      ∀ m, d.message = some m → m ≤ 55 → ∃ x ∈ t.texts, x.message = m := by
    cases d.message with
    | none => simp [messageHeld]
    | some m =>
      simp only [messageHeld, Bool.or_eq_true, decide_eq_true_eq, List.any_eq_true, beq_iff_eq, Option.some.injEq,
        forall_eq']
      constructor
      · rintro (h | h) hle
        · omega
        · exact h
      · intro h
        by_cases hle : m ≤ 55
        · exact .inr (h hle)
        · exact .inl (by omega)
  rw [hsource, hmessage]
  constructor
  · rintro ⟨hband, hstation, hpattern, hmsg⟩
    exact ⟨⟨hband, hstation⟩, fun m hm => (hmsg m hm).2, hpattern, fun m hm => (hmsg m hm).1⟩
  · rintro ⟨⟨hband, hstation⟩, htext, hpattern, hle⟩
    exact ⟨hband, hstation, hpattern, fun m hm => ⟨hle m hm, htext m hm⟩⟩

/-- What the readers and the limits across the records lay down is what the image check leaves. -/
theorem tablesAdmitted_iff (t : Tables) : TablesAdmitted t ↔ TablesRead t ∧ recordsAgree t = true := by
  rw [recordsAgree_iff]
  constructor
  · intro h
    have hdemands := fun l hl d hd => (demandAdmitted_iff t d).mp ((h.lampDemands l hl).2 d hd)
    exact ⟨⟨h.own, h.source, h.lead, h.health, h.gauges, ⟨h.intakeCount, h.intake⟩,
        ⟨h.lampCount, fun l hl => ⟨(h.lampDemands l hl).1, fun d hd => (hdemands l hl d hd).2.2⟩⟩,
        ⟨h.rosterCount, fun e he => (h.roster e he).1⟩⟩,
      h.outputs, h.demandCount, fun l hl d hd => ⟨(hdemands l hl d hd).1, (hdemands l hl d hd).2.1⟩, h.stations,
      fun e he => (h.roster e he).2⟩
  · rintro ⟨h, houtputs, hdemands, hheld, hstations, hown⟩
    obtain ⟨hintakeCount, hintake⟩ := h.intake
    obtain ⟨hlampCount, hlamps⟩ := h.lamps
    obtain ⟨hrosterCount, hroster⟩ := h.roster
    refine ⟨h.own, h.source, h.lead, h.health, h.gauges, hintakeCount, hintake, hlampCount, houtputs, fun l hl => ?_,
      hdemands, hrosterCount, fun e he => ⟨hroster e he, hown e he⟩, hstations⟩
    obtain ⟨hcount, hrest⟩ := hlamps l hl
    refine ⟨hcount, fun d hd => (demandAdmitted_iff t d).mpr ?_⟩
    obtain ⟨hsource, hmessage⟩ := hheld l hl d hd
    exact ⟨hsource, hmessage, hrest d hd⟩

/-- An image that passes keeps the header's limits and the limits of the tables (R159, R171). -/
theorem checkImage_admits {area : List Byte} {t : Tables} (h : checkImage area = some t) :
    ∃ n, n = leNat (area.take 2) ∧ n ≤ 7164 ∧ 4 + n ≤ area.length
      ∧ leNat ((area.drop 2).take 2) = memoryCheck ((area.drop 4).take n) ∧ TablesAdmitted t := by
  unfold checkImage imageBytes at h
  simp only at h
  split at h
  · next bytes himage =>
    split at himage
    · next hheader =>
      obtain ⟨hroom, hlength, hcheck⟩ := hheader
      obtain rfl := Option.some.inj himage
      split at h
      · next t' rest' hread =>
        split at h
        · next hagree =>
          obtain rfl : t' = t := Option.some.inj h
          rw [List.length_drop] at hlength
          refine ⟨_, rfl, hroom, ?_, hcheck.symm, (tablesAdmitted_iff t').mpr ⟨yields_readTables _ _ _ hread, hagree⟩⟩
          have hsome : leNat (area.take 2) ≠ 0 := by
            intro hzero
            rw [hzero, List.take_zero] at hread
            cases hread
          omega
        · cases h
      · cases h
    · cases himage
  · cases h

end Sys2Proof.Proofs

/-! Proofs. The configuration image: its bytes are read back as the tables they were made of (R172). -/

namespace Sys2Proof.Proofs

open Sys2Proof Sys2Proof.Machine Sys2Proof.Claims

/-! ## What a reader reads of the bytes written for it -/

/-- A reader takes a value from the bytes, whatever stands behind them. -/
def Reads {α : Type} (r : Reader α) (bytes : List Byte) (a : α) : Prop := ∀ rest, r (bytes ++ rest) = some (a, rest)

theorem reads_give {α : Type} {a b : α} (h : a = b) : Reads (give a) [] b := fun _ => by rw [h]; rfl

theorem reads_limit {ok : Bool} (h : ok = true) : Reads (limit ok) [] () := fun _ => by simp [limit, h]

theorem reads_andThen {α β : Type} {r : Reader α} {f : α → Reader β} {first rest : List Byte} {a : α} {b : β}
    (hr : Reads r first a) (hf : Reads (f a) rest b) : Reads (andThen r f) (first ++ rest) b := by
  intro tail
  simp only [andThen, List.append_assoc, hr (rest ++ tail), hf tail]

/-- A limit takes no bytes. -/
theorem reads_limit_andThen {β : Type} {ok : Bool} {f : Unit → Reader β} {bytes : List Byte} {b : β}
    (h : ok = true) (hf : Reads (f ()) bytes b) : Reads (andThen (limit ok) f) bytes b :=
  reads_andThen (reads_limit h) hf

/-- The last bytes of a record. -/
theorem reads_andThen_last {α β : Type} {r : Reader α} {f : α → Reader β} {bytes : List Byte} {a : α} {b : β}
    (hr : Reads r bytes a) (hf : Reads (f a) [] b) : Reads (andThen r f) bytes b := by
  simpa using reads_andThen hr hf

theorem reads_field {n x : Nat} (h : x < 256 ^ n) : Reads (field n) (leBytes n x) x := by
  intro rest
  simp [field, leNat_leBytes h]

@[simp] theorem leBytes_one (x : Nat) : leBytes 1 x = [byteOf x] := rfl

theorem reads_byte {x : Nat} (h : x < 256) : Reads (field 1) [byteOf x] x := reads_field (n := 1) h

theorem reads_byte_andThen {β : Type} {f : Nat → Reader β} {x : Nat} {rest : List Byte} {b : β} (h : x < 256)
    (hf : Reads (f x) rest b) : Reads (andThen (field 1) f) (byteOf x :: rest) b :=
  reads_andThen (reads_byte h) hf

theorem reads_signedField {n : Nat} {x : Int} (hn : 1 ≤ n) (h : fitsBytes n x) :
    Reads (signedField n) (signedBytes n x) x := by
  obtain ⟨m, hm⟩ : ∃ m, 8 * n = m + 1 := ⟨8 * n - 1, by omega⟩
  have hpos : 0 < 2 ^ m := Nat.two_pow_pos m
  have hcast : ((2 ^ m : Nat) : Int) = 2 ^ m := by norm_num
  have hpow : (2 : Int) ^ (8 * n) = 2 * (2 ^ m : Nat) := by rw [hm, pow_succ, hcast, Int.mul_comm]
  have hbytes : 256 ^ n = 2 * 2 ^ m := by
    rw [show 256 = 2 ^ 8 from rfl, ← Nat.pow_mul, hm, Nat.pow_succ, Nat.mul_comm]
  obtain ⟨hlow, hhigh⟩ : -((2 ^ m : Nat) : Int) ≤ x ∧ x < (2 ^ m : Nat) := by
    rw [hcast]; simpa [fitsBytes, hm] using h
  have hemod : x % (2 * (2 ^ m : Nat)) = if 0 ≤ x then x else x + 2 * (2 ^ m : Nat) := by
    split
    · exact Int.emod_eq_of_lt (by omega) (by omega)
    · rw [← Int.add_emod_right]
      exact Int.emod_eq_of_lt (by omega) (by omega)
  refine reads_andThen_last (reads_field ?_) (reads_give ?_)
  · rw [hpow, hemod, hbytes]
    split <;> omega
  · rw [signExtend, hpow, hemod, hm, Nat.add_sub_cancel]
    generalize 2 ^ m = k at *
    split <;> split <;> omega

theorem reads_coded {α : Type} {decode : Nat → Option α} {code : Nat} {a : α} (hcode : code < 256)
    (h : decode code = some a) : Reads (coded decode) [byteOf code] a := by
  intro rest
  simp only [coded, andThen, reads_byte hcode rest, h, Option.map_some]

theorem reads_records {α : Type} {r : Reader α} {enc : α → List Byte} :
    ∀ {l : List α}, (∀ a ∈ l, Reads r (enc a) a) → Reads (records r l.length) (l.flatMap enc) l
  | [], _ => reads_give rfl
  | a :: l, h => by
    have ih := reads_records (r := r) (enc := enc) (l := l) fun b hb => h b (by simp [hb])
    exact reads_andThen (h a (by simp)) (reads_andThen_last ih (reads_give rfl))

theorem reads_counted {α : Type} {r : Reader α} {enc : α → List Byte} {most : Nat} {l : List α} (hmost : most < 256)
    (hlen : l.length ≤ most) (h : ∀ a ∈ l, Reads r (enc a) a) :
    Reads (counted most r) (byteOf l.length :: l.flatMap enc) l :=
  reads_byte_andThen (by omega) (reads_limit_andThen (by simpa using hlen) (reads_records h))

/-! ## Bytes of flags and codes -/

/-- Bit i of a flags byte is its flag i (Tables 12-8 to 12-12). -/
theorem flagOf_flags (flags : List Bool) (i : Nat) :
    flagOf (flags.foldr (fun f n => (if f then 1 else 0) + 2 * n) 0) i = flags.getD i false := by
  induction flags generalizing i with
  | nil => simp [flagOf]
  | cons f fs ih =>
    cases i with
    | zero => cases f <;> simp [flagOf, Nat.testBit_zero]
    | succ i =>
      have hhalf : ((if f then 1 else 0) + 2 * fs.foldr (fun f n => (if f then 1 else 0) + 2 * n) 0) / 2
          = fs.foldr (fun f n => (if f then 1 else 0) + 2 * n) 0 := by
        split <;> omega
      simp only [flagOf, List.foldr_cons, Nat.testBit_succ, hhalf] at ih ⊢
      simpa using ih i

theorem flags_lt (flags : List Bool) :
    flags.foldr (fun f n => (if f then 1 else 0) + 2 * n) 0 < 2 ^ flags.length := by
  induction flags with
  | nil => simp
  | cons f fs ih =>
    simp only [List.foldr_cons, List.length_cons, Nat.pow_succ]
    split <;> omega

/-- A flags byte. -/
theorem reads_flags_andThen {β : Type} {f : Nat → Reader β} {flags : List Bool} {rest : List Byte} {b : β}
    (h : flags.length ≤ 8) (hf : ∀ n, (∀ i, flagOf n i = flags.getD i false) → Reads (f n) rest b) :
    Reads (andThen (field 1) f) (flagsByte flags :: rest) b :=
  reads_byte_andThen ((flags_lt flags).trans_le (Nat.pow_le_pow_right (by decide) h)) (hf _ (flagOf_flags flags))

theorem reads_coded_andThen {α β : Type} {decode : Nat → Option α} {code : Nat} {a : α} {f : α → Reader β}
    {rest : List Byte} {b : β} (hcode : code < 256) (h : decode code = some a) (hf : Reads (f a) rest b) :
    Reads (andThen (coded decode) f) (byteOf code :: rest) b :=
  reads_andThen (reads_coded hcode h) hf

theorem slotNumber_val (n : Fin 64) : slotNumber n.val = some n := by simp [slotNumber]

/-! ## The gauge records -/

theorem reads_breakpoint {fullScale : Nat} {p : Breakpoint} (hvalue : fitsBytes 4 p.value)
    (hposition : p.position ≤ fullScale) (hscale : fullScale ≤ 8000) :
    Reads (readBreakpoint fullScale) (breakpointImage p) p :=
  reads_andThen (reads_signedField (by decide) hvalue) (reads_andThen_last (reads_field (by omega))
    (reads_limit_andThen (by simpa using hposition) (reads_give rfl)))

theorem levelsAgree_iff {direction : BandDirection} {set clear : Int} : levelsAgree direction set clear = true ↔
    (direction = .high → clear ≤ set) ∧ (direction = .low → set ≤ clear) := by
  cases direction <;> simp [levelsAgree]

theorem reads_band {b : BandRecord} (htens : tensOfMs 0 10000 b.persistence)
    (hhigh : b.direction = .high → b.clearLevel ≤ b.setLevel) (hlow : b.direction = .low → b.setLevel ≤ b.clearLevel)
    (hset : fitsBytes 4 b.setLevel) (hclear : fitsBytes 4 b.clearLevel) : Reads readBand (bandImage b) b := by
  have hpersistence : b.persistence < 256 ^ 2 := by have := htens.2.1; omega
  simp only [bandImage, List.append_assoc, List.cons_append, List.nil_append]
  refine reads_flags_andThen (by simp) fun flags hflags => reads_andThen (reads_signedField (by decide) hset)
    (reads_andThen (reads_signedField (by decide) hclear) (reads_andThen_last (reads_field hpersistence) ?_))
  have hdirection : (if flagOf flags 0 then BandDirection.low else BandDirection.high) = b.direction := by
    rw [hflags 0]
    cases b.direction <;> rfl
  rw [hdirection]
  refine reads_limit_andThen (Bool.and_eq_true_iff.mpr ⟨levelsAgree_iff.mpr ⟨hhigh, hlow⟩, tenMs_iff.mpr htens⟩) ?_
  exact reads_give rfl

theorem reads_standstills {st : Option StandstillConfig} (hkFast : ∀ c ∈ st, c.kFast ≤ 7)
    (hthreshold : ∀ c ∈ st, fitsBytes 4 c.threshold) : Reads readStandstills (standstillImage st) st := by
  cases st with
  | none =>
    refine reads_coded_andThen (code := 255) (a := none) (by decide) rfl ?_
    exact reads_andThen_last (reads_field (n := 5) (x := 0) (by decide)) (reads_give rfl)
  | some c =>
    have hk : c.kFast ≤ 7 := hkFast c rfl
    have hslot : (if c.slot.val = 255 then some none else (slotNumber c.slot.val).map some) = some (some c.slot) := by
      rw [if_neg (by omega), slotNumber_val]; rfl
    simp only [standstillImage, List.cons_append, List.nil_append]
    refine reads_coded_andThen (by omega) hslot (reads_andThen_last ?_ (reads_give rfl))
    exact reads_andThen (reads_signedField (by decide) (hthreshold c rfl)) (reads_andThen_last (reads_byte (by omega))
      (reads_limit_andThen (by simpa using hk) (reads_give rfl)))

theorem increasing_of_pairwise :
    ∀ l : List Breakpoint, l.Pairwise (fun p q => p.value < q.value) → increasing l = true
  | [], _ => rfl
  | [_], _ => rfl
  | p :: q :: rest, h => by
    obtain ⟨hp, hrest⟩ := List.pairwise_cons.mp h
    simp [increasing, hp q (by simp), increasing_of_pairwise (q :: rest) hrest]

theorem reads_gauge {r : GaugeRecord} (h : gaugeAdmitted r) (hpoints : ∀ b ∈ r.breakpoints, fitsBytes 4 b.value)
    (hbands : ∀ b ∈ r.bands, fitsBytes 4 b.setLevel ∧ fitsBytes 4 b.clearLevel)
    (hstandstill : ∀ st ∈ r.standstill, fitsBytes 4 st.threshold) : Reads readGauge (gaugeImage r) r := by
  obtain ⟨⟨hfull0, hfull1, hk, hv0, hv1, ha0, ha1, hhoming0, hhoming1, hrest, hbandCount, hpositions, hkFast⟩, hsource,
    hpoints0, hpoints1, hincreasing, hhold, hbandLimits⟩ := h
  obtain ⟨n, hn⟩ := Option.isSome_iff_exists.mp hsource
  have hhold1 : r.holdTime ≤ 5000 := hhold.2.1
  simp only [gaugeImage, hn, Option.map_some, or255, Option.getD_some, List.append_assoc, List.cons_append,
    List.nil_append]
  refine reads_flags_andThen (by simp) fun flags hflags =>
    reads_coded_andThen (by omega) (slotNumber_val n) (reads_andThen (reads_field (by omega))
    (reads_byte_andThen (by omega) (reads_andThen (reads_standstills hkFast hstandstill)
    (reads_byte_andThen (by omega) (reads_byte_andThen (by omega) (reads_byte_andThen (by omega)
    (reads_andThen (reads_field (by omega)) (reads_andThen (reads_field (by omega))
    (reads_byte_andThen (by omega) (reads_byte_andThen (by omega) (reads_limit_andThen ?_
    (reads_andThen (reads_records fun p hp => reads_breakpoint (hpoints p hp) (hpositions p hp) hfull1)
    (reads_andThen_last (reads_records fun b hb => reads_band (hbandLimits b hb).1 (hbandLimits b hb).2.1
      (hbandLimits b hb).2.2 (hbands b hb).1 (hbands b hb).2)
    (reads_limit_andThen (increasing_of_pairwise _ hincreasing) (reads_give ?_)))))))))))))))
  · simp only [Bool.and_eq_true, decide_eq_true_eq, tenMs_iff]
    exact ⟨⟨⟨⟨⟨⟨⟨⟨⟨⟨⟨⟨⟨hfull0, hfull1⟩, hk⟩, hv0⟩, hv1⟩, ha0⟩, ha1⟩, hhoming0⟩, hhoming1⟩, hhold⟩, hrest⟩, hpoints0⟩,
      hpoints1⟩, hbandCount⟩
  · rw [hflags 0, ← hn]; rfl

theorem reads_gauges {v : Vector GaugeRecord 6} (h : ∀ g : Fin 6, Reads readGauge (gaugeImage v[g]) v[g]) :
    Reads readGauges (v.toList.flatMap gaugeImage) v := by
  have hlist : v.toList = [v[0], v[1], v[2], v[3], v[4], v[5]] := by
    apply List.ext_getElem <;> simp
    intro i hi
    interval_cases i <;> rfl
  have hvector : #v[v[0], v[1], v[2], v[3], v[4], v[5]] = v := by
    ext i hi
    interval_cases i <;> rfl
  rw [hlist]
  simp only [List.flatMap_cons, List.flatMap_nil, List.append_nil]
  exact reads_andThen (h 0) (reads_andThen (h 1) (reads_andThen (h 2) (reads_andThen (h 3) (reads_andThen (h 4)
    (reads_andThen_last (h 5) (reads_give hvector))))))

/-! ## The intake entries -/

theorem reads_descriptor {d : Descriptor} (h : descriptorAdmitted d) (hnumerator : fitsBytes 2 d.numerator)
    (hdivisor : d.divisor ≤ 65535) (hoffset : fitsBytes 4 d.offset) : Reads readDescriptor (descriptorImage d) d := by
  obtain ⟨hstart, hlen0, hlen1, hfit, hnonzero, hreserve⟩ := h
  simp only [descriptorImage, List.append_assoc, List.cons_append, List.nil_append]
  refine reads_byte_andThen (by omega) (reads_byte_andThen (by omega) (reads_flags_andThen (by simp) fun flags hflags =>
    reads_andThen (reads_signedField (by decide) hnumerator) (reads_andThen (reads_field (by omega))
    (reads_andThen (reads_signedField (by decide) hoffset) (reads_coded_andThen (by omega) (slotNumber_val d.target)
    (reads_limit_andThen ?_ (reads_give ?_)))))))
  · have hreserved : (d.reserve && (d.signed || decide (d.length = 1))) = false := by
      cases hr : d.reserve with
      | false => rfl
      | true =>
        obtain ⟨hsigned, hlen⟩ := hreserve hr
        simp [hsigned, show d.length ≠ 1 by omega]
    simp [hflags, hreserved, hstart, hlen0, hlen1, hfit, hnonzero]
  · have hrank : (if d.rank == .backup then Rank.backup else .primary) = d.rank := by cases d.rank <;> rfl
    simp only [hflags, List.getD_cons_zero, List.getD_cons_succ, hrank]

theorem sinkOf_sinkCode (x : Sink) : sinkOf (sinkCode x) = some x ∧ sinkCode x < 256 := by
  cases x <;> decide

theorem stationOr255_getD {n : Option Nat} (h : ∀ x, n = some x → x ≤ 63) :
    stationOr255 (n.getD 255) = some n ∧ n.getD 255 < 256 := by
  cases n with
  | none => decide
  | some x =>
    have hx := h x rfl
    refine ⟨?_, by simp only [Option.getD_some]; omega⟩
    simp [stationOr255, hx, show x ≠ 255 by omega]

theorem reads_intake {e : IntakeEntry} (h : intakeAdmitted e)
    (hdescriptors : ∀ d ∈ e.descriptors, fitsBytes 2 d.numerator ∧ d.divisor ≤ 65535 ∧ fitsBytes 4 d.offset) :
    Reads readIntake (intakeImage e) e := by
  obtain ⟨htopic0, htopic1, hsender, hstale, hsignals, hothers, hall⟩ := h
  have hstale1 : e.staleLimit ≤ 10000 := hstale.2.1
  have hcount : descriptorsAllowed e.sink e.descriptors.length = true ∧ e.descriptors.length ≤ 4 := by
    by_cases hs : e.sink = .signals
    · obtain ⟨h1, h4⟩ := hsignals hs
      exact ⟨by simp [descriptorsAllowed, hs, h1, h4], h4⟩
    · simp [descriptorsAllowed, hs, hothers hs]
  have hmod : e.topic % 128 = e.topic := Nat.mod_eq_of_lt (by omega)
  obtain ⟨hstation, hbyte⟩ := stationOr255_getD hsender
  obtain ⟨hsink, hsinkByte⟩ := sinkOf_sinkCode e.sink
  simp only [intakeImage, or255, List.append_assoc, List.cons_append, List.nil_append]
  refine reads_byte_andThen (by omega) (reads_coded_andThen hbyte hstation (reads_coded_andThen hsinkByte hsink
    (reads_andThen (reads_field (by omega)) (reads_byte_andThen (by omega) (reads_limit_andThen ?_
    (reads_andThen_last (reads_records fun d hd => reads_descriptor (hall d hd) (hdescriptors d hd).1
      (hdescriptors d hd).2.1 (hdescriptors d hd).2.2) (reads_give ?_)))))))
  · simp only [Bool.and_eq_true, decide_eq_true_eq, tenMs_iff, hmod]
    exact ⟨⟨htopic0, hstale⟩, hcount.1⟩
  · rw [hmod]

/-! ## The lamps -/

theorem toNat_byteOf {x : Nat} (h : x < 256) : (byteOf x).toNat = x := by
  rw [byteOf, BitVec.toNat_ofNat, Nat.mod_eq_of_lt h]

/-- The kind and the six bytes of a source reference (Table 12-11). -/
theorem sourceImage_eq (x : SourceRef) (h : ∀ n, x = .station n → n < 256) : ∃ kind bytes, kind < 256 ∧ bytes.length = 6
    ∧ sourceImage x = byteOf kind :: bytes ∧ sourceOf kind bytes = some x := by
  cases x with
  | slotTest n mask invert unknown =>
    refine ⟨0, byteOf n.val :: (leBytes 4 mask.toNat ++ [flagsByte [invert, unknown]]), by decide, by simp, rfl, ?_⟩
    have hmask : leNat ((leBytes 4 mask.toNat ++ [flagsByte [invert, unknown]]).take 4) = mask.toNat := by
      rw [List.take_left' (length_leBytes 4 _), leNat_leBytes mask.isLt]
    have hflags : ∀ i, flagOf (flagsByte [invert, unknown]).toNat i = [invert, unknown].getD i false := by
      intro i
      rw [flagsByte, toNat_byteOf ((flags_lt _).trans (by simp)), flagOf_flags]
    have hlast : (byteOf n.val :: (leBytes 4 mask.toNat ++ [flagsByte [invert, unknown]])).getD 5 0
        = flagsByte [invert, unknown] := rfl
    simp only [sourceOf, if_true, List.getD_cons_zero, List.drop_succ_cons, List.drop_zero, hmask, hlast, hflags,
      toNat_byteOf (show n.val < 256 by omega), slotNumber_val]
    simp
  | band g i =>
    refine ⟨1, [byteOf g.val, byteOf i.val, 0, 0, 0, 0], by decide, rfl, rfl, ?_⟩
    simp [sourceOf, toNat_byteOf (show g.val < 256 by omega), toNat_byteOf (show i.val < 256 by omega), gaugeNumber,
      bandNumber, show i.val ≤ 1 by omega]
  | gaugeFault g =>
    refine ⟨2, [byteOf g.val, 0, 0, 0, 0, 0], by decide, rfl, rfl, ?_⟩
    simp [sourceOf, toNat_byteOf (show g.val < 256 by omega), gaugeNumber]
  | station n =>
    refine ⟨3, [byteOf n, 0, 0, 0, 0, 0], by decide, rfl, rfl, ?_⟩
    simp [sourceOf, toNat_byteOf (h n rfl)]
  | health a =>
    refine ⟨4, [or255 (a.map (fun x => x.val)), 0, 0, 0, 0, 0], by decide, rfl, rfl, ?_⟩
    cases a with
    | none => rfl
    | some x =>
      simp [sourceOf, or255, toNat_byteOf (show x.val < 256 by omega), attributeOrAny, show x.val ≠ 255 by omega]
  | driverTime d k =>
    refine ⟨5, [byteOf (d.val + 1), byteOf (kindCode k), 0, 0, 0, 0], by decide, rfl, rfl, ?_⟩
    fin_cases d <;> cases k <;> rfl

theorem decodePattern_patternCode {p : Pattern} (h : ∀ n, p = .flash n → 1 ≤ n ∧ n ≤ 12) :
    decodePattern (patternCode p) = some p ∧ patternCode p < 256 := by
  cases p with
  | flicker => decide
  | blink => decide
  | steady => decide
  | flash n =>
    obtain ⟨h1, h12⟩ := h n rfl
    refine ⟨?_, by simp only [patternCode]; omega⟩
    simp [decodePattern, patternCode, show n ≠ 0 by omega, show n < 13 by omega]

theorem chimeOf_chimeCode (c : Option Grade) : chimeOf (chimeCode c) = some c ∧ chimeCode c < 256 := by
  cases c with
  | none => decide
  | some g => cases g <;> decide

theorem messageOf_getD {n : Option Nat} (h : ∀ x, n = some x → x ≤ 63) :
    messageOf (n.getD 255) = some n ∧ n.getD 255 < 256 := stationOr255_getD h

theorem reads_demand {d : DemandRecord} (hstation : ∀ n, d.source = .station n → n < 256)
    (hpattern : ∀ n, d.pattern = .flash n → 1 ≤ n ∧ n ≤ 12) (hmessage : ∀ m, d.message = some m → m ≤ 63) :
    Reads readDemand (demandImage d) d := by
  obtain ⟨kind, bytes, hkind, hlen, himage, hsource⟩ := sourceImage_eq d.source hstation
  obtain ⟨hpat, hpatByte⟩ := decodePattern_patternCode hpattern
  obtain ⟨hchime, hchimeByte⟩ := chimeOf_chimeCode d.chime
  obtain ⟨hmsg, hmsgByte⟩ := messageOf_getD hmessage
  have hreads : Reads readSource (byteOf kind :: bytes) d.source :=
    reads_byte_andThen hkind fun tail => by
      simp only [andThen, rawBytes, List.length_append, hlen, Nat.le_add_right, if_true, List.take_left' hlen,
        List.drop_left' hlen, hsource, Option.map_some]
  simp only [demandImage, himage, or255]
  refine reads_andThen hreads (reads_coded_andThen hpatByte hpat (reads_flags_andThen (by simp) fun flags hflags =>
    reads_coded_andThen hchimeByte hchime (reads_coded_andThen hmsgByte hmsg (reads_give ?_))))
  simp only [hflags, List.getD_cons_zero]

theorem lampClassOf_classCode (c : LampClass) : lampClassOf (classCode c) = some c ∧ classCode c < 256 := by
  cases c <;> decide

theorem reads_lamp {l : LampRecord} (hcount : l.demands.length ≤ 4) (h : ∀ d ∈ l.demands,
      (∀ n, d.source = .station n → n < 256) ∧ (∀ n, d.pattern = .flash n → 1 ≤ n ∧ n ≤ 12)
      ∧ ∀ m, d.message = some m → m ≤ 63) : Reads readLamp (lampImage l) l := by
  obtain ⟨hcls, hclsByte⟩ := lampClassOf_classCode l.cls
  have houtput : outputNumber l.output.val = some l.output := by simp [outputNumber]
  simp only [lampImage, List.cons_append, List.nil_append]
  refine reads_coded_andThen (by omega) houtput (reads_coded_andThen hclsByte hcls
    (reads_flags_andThen (by simp) fun flags hflags => reads_byte_andThen (by omega)
    (reads_limit_andThen (by simpa using hcount) (reads_andThen_last
      (reads_records fun d hd => reads_demand (h d hd).1 (h d hd).2.1 (h d hd).2.2) (reads_give ?_)))))
  simp only [hflags, List.getD_cons_zero, List.getD_cons_succ]

/-! ## The roster and the texts -/

theorem roleOf_roleNumber (r : Role) : roleOf (roleNumber r) = some r ∧ roleNumber r < 256 := by
  cases r <;> decide

/-- The bytes of the coupling slot and its mask (Table 12-12). -/
def couplingImage (c : Option CouplingConfig) : List Byte :=
  match c with
  | some x => [byteOf x.slot.val] ++ leBytes 4 x.mask.toNat
  | none => [255, 0, 0, 0, 0]

theorem rosterImage_eq (e : RosterRecord) : rosterImage e = byteOf e.station :: byteOf (roleNumber e.role)
    :: flagsByte [e.required] :: (leBytes 2 e.silenceLimit ++ couplingImage e.coupling) := rfl

theorem reads_coupling {c : Option CouplingConfig} (h : ∀ x, c = some x → x.mask ≠ 0) :
    Reads readCoupling (couplingImage c) c := by
  cases c with
  | none =>
    refine reads_coded_andThen (code := 255) (a := none) (by decide) rfl ?_
    exact reads_andThen_last (reads_field (n := 4) (x := 0) (by decide)) (reads_give rfl)
  | some x =>
    have hslot : (if x.slot.val = 255 then some none else (slotNumber x.slot.val).map some) = some (some x.slot) := by
      rw [if_neg (by omega), slotNumber_val]; rfl
    have hmask : x.mask.toNat ≠ 0 := fun h0 => h x rfl (BitVec.eq_of_toNat_eq (by simpa using h0))
    simp only [couplingImage, List.cons_append, List.nil_append]
    refine reads_coded_andThen (by omega) hslot (reads_andThen_last (reads_field x.mask.isLt)
      (reads_limit_andThen (by simpa using hmask) (reads_give ?_)))
    rw [BitVec.ofNat_toNat, BitVec.setWidth_eq]

theorem reads_rosterEntry {e : RosterRecord} (h : rosterAdmitted e) : Reads readRosterEntry (rosterImage e) e := by
  obtain ⟨hstation, hsilence, hcoupling⟩ := h
  have hsilence1 : e.silenceLimit ≤ 5000 := hsilence.2.1
  obtain ⟨hrole, hroleByte⟩ := roleOf_roleNumber e.role
  rw [rosterImage_eq]
  refine reads_byte_andThen (by omega) (reads_coded_andThen hroleByte hrole
    (reads_flags_andThen (by simp) fun flags hflags => reads_andThen (reads_field (by omega))
    (reads_andThen_last (reads_coupling fun c hc => (hcoupling c hc).1)
    (reads_limit_andThen ?_ (reads_give ?_)))))
  · have htrailer : (e.coupling.isNone || isTrailer e.role) = true := by
      cases hc : e.coupling with
      | none => rfl
      | some c => simpa using (isTrailer_iff e.role).mpr (hcoupling c hc).2
    simp only [Bool.and_eq_true, decide_eq_true_eq, tenMs_iff]
    exact ⟨⟨hstation, hsilence⟩, htrailer⟩
  · simp only [hflags, List.getD_cons_zero]

theorem reads_text {x : ConfigText} (hmessage : x.message ≤ 55) (hcodes : x.codes.length = 20) :
    Reads readText (textImage x) x := by
  refine reads_byte_andThen (by omega) ?_
  have hlen : (x.codes.map (fun c => byteOf c.toNat)).length = 20 := by simpa using hcodes
  refine reads_andThen_last (a := x.codes.map (fun c => byteOf c.toNat)) (fun tail => by simp [rawBytes, ← hlen])
    (reads_give ?_)
  have hcode : ∀ c : CharCode, BitVec.ofNat 7 (byteOf c.toNat).toNat = c := fun c => by
    rw [toNat_byteOf (by omega), BitVec.ofNat_toNat, BitVec.setWidth_eq]
  simp only [List.map_map, Function.comp_def, hcode, List.map_id']

/-! ## The image -/

theorem reads_health {h : HealthConfig} (hweight : h.weight ≤ 255) (hthreshold : h.threshold ≤ 99) :
    Reads readHealth [byteOf h.weight, byteOf h.threshold] h :=
  reads_byte_andThen (by omega) (reads_byte_andThen (by omega)
    (reads_limit_andThen (by simpa using hthreshold) (reads_give rfl)))

theorem tenConfigs_toList (v : Vector HealthConfig 10) : tenConfigs v.toList = v := by
  ext i hi
  all_goals interval_cases i <;> simp [tenConfigs]

theorem reads_tables {t : Tables} (h : TablesAdmitted t) (hfit : TablesFit t) : Reads readTables (itemsImage t) t := by
  have hown : stationNumber t.ownStation = some t.ownStation := by simp [stationNumber, h.own]
  have hlead : leadOf t.warningLead = some t.warningLead := by
    simp [leadOf, h.lead, show t.warningLead ≠ 255 by have := h.lead; omega]
  have hownByte := h.own
  have hleadByte := h.lead
  have hroster := h.rosterCount
  obtain ⟨htime, htimeByte⟩ := stationOr255_getD h.source
  have hhealth : ∀ c ∈ t.health.toList, Reads readHealth [byteOf c.weight, byteOf c.threshold] c := by
    intro c hc
    obtain ⟨i, hi, rfl⟩ := List.mem_iff_getElem.mp hc
    have hlimits := h.health ⟨i, by simpa using hi⟩
    simp only [Vector.getElem_toList]
    exact reads_health hlimits.1 hlimits.2
  have hten : Reads (records readHealth 10) (t.health.toList.flatMap fun c => [byteOf c.weight, byteOf c.threshold])
      t.health.toList := by
    have hreads := reads_records hhealth
    rwa [Vector.length_toList] at hreads
  have hlamps : ∀ l ∈ t.lamps, Reads readLamp (lampImage l) l := fun l hl =>
    reads_lamp (h.lampDemands l hl).1 fun d hd => by
      obtain ⟨-, hstation, hpattern, hmessage⟩ := (h.lampDemands l hl).2 d hd
      exact ⟨fun n hn => by have := hstation n hn; omega, hpattern, fun m hm => (hmessage m hm).1⟩
  simp only [itemsImage, or255, List.append_assoc, List.cons_append, List.nil_append]
  refine reads_coded_andThen (by omega) hown (reads_coded_andThen (by omega) (slotNumber_val t.roadSlot)
    (reads_coded_andThen htimeByte htime (reads_coded_andThen (by omega) hlead
    (reads_flags_andThen (by simp) fun flags hflags =>
    reads_andThen hten
    (reads_andThen (reads_gauges fun g => reads_gauge (h.gauges g) (hfit.breakpoints g) (hfit.bands g)
      (hfit.standstill g))
    (reads_andThen (reads_counted (by decide) h.intakeCount fun e he => reads_intake (h.intake e he)
      (hfit.descriptors e he))
    (reads_andThen (reads_counted (by decide) h.lampCount hlamps)
    (reads_andThen (reads_counted (by decide) h.rosterCount fun e he => reads_rosterEntry (h.roster e he).1)
    (reads_andThen_last (reads_counted (by decide) hfit.texts.1 fun x hx => reads_text (hfit.texts.2 x hx).1
      (hfit.texts.2 x hx).2) (reads_give ?_))))))))))
  simp only [hflags, List.getD_cons_zero, List.getD_cons_succ, tenConfigs_toList]

/-! ## The check -/

theorem crcBit_lt {r : Nat} (bit : Bool) : crcBit r bit < 65536 := by
  have hshift : r * 2 % 65536 < 2 ^ 16 := Nat.mod_lt _ (by decide)
  simp only [crcBit]
  split
  · exact Nat.xor_lt_two_pow hshift (by decide)
  · exact hshift

theorem crcBits_lt {r : Nat} (bits : List Bool) (h : r < 65536) : crcBits r bits < 65536 := by
  induction bits generalizing r with
  | nil => exact h
  | cons b bs ih => exact ih (crcBit_lt b)

theorem memoryCheck_lt (bytes : List Byte) : memoryCheck bytes < 65536 := by
  suffices h : ∀ r, r < 65536 → crcBytes r bytes < 65536 from h crcStart (by decide)
  induction bytes with
  | nil => exact fun r h => h
  | cons b bs ih => exact fun r h => ih _ (crcBits_lt _ h)

/-- The image made of tables passes the check and is read as them, whatever stands behind it. -/
theorem checkImage_imageOf {t : Tables} (rest : List Byte) (h : TablesAdmitted t) (hfit : TablesFit t) :
    checkImage (imageOf t ++ rest) = some t := by
  have hroom := hfit.room
  have hlen : leNat ((imageOf t ++ rest).take 2) = (itemsImage t).length := by
    rw [imageOf, List.append_assoc, List.append_assoc, List.take_left' (length_leBytes 2 _), leNat_leBytes (by omega)]
  have hdrop : (imageOf t ++ rest).drop 2 = leBytes 2 (memoryCheck (itemsImage t)) ++ (itemsImage t ++ rest) := by
    rw [imageOf, List.append_assoc, List.append_assoc, List.drop_left' (length_leBytes 2 _)]
  have hdrop4 : (imageOf t ++ rest).drop 4 = itemsImage t ++ rest := by
    rw [← List.drop_drop (i := 2) (j := 2), hdrop, List.drop_left' (length_leBytes 2 _)]
  have hcheck : leNat (((imageOf t ++ rest).drop 2).take 2) = memoryCheck (itemsImage t) := by
    rw [hdrop, List.take_left' (length_leBytes 2 _), leNat_leBytes (memoryCheck_lt _)]
  have hbytes : imageBytes (imageOf t ++ rest) = some (itemsImage t) := by
    simp [imageBytes, hlen, hdrop4, hcheck, hroom]
  have hread : readTables (itemsImage t) = some (t, []) := by simpa using reads_tables h hfit []
  simp only [checkImage, hbytes, hread, ((tablesAdmitted_iff t).mp h).2, if_true]

end Sys2Proof.Proofs

/-! Proofs. The end of a command: when it changes nothing, and what the delivery of reports can reach. -/

namespace Sys2Proof.Proofs

open Sys2Proof Sys2Proof.Machine Sys2Proof.Claims

/-! ## Frames -/

theorem agree_refl (b : Block) (s : State) : agree b s s := by cases b <;> simp [agree]

theorem agree_trans {b : Block} {s t u : State} (hst : agree b s t) (htu : agree b t u) : agree b s u := by
  cases b <;> simp only [agree] at hst htu ⊢
  case queue => exact ⟨htu.1.trans hst.1, htu.2.trans hst.2⟩
  all_goals exact htu.trans hst

theorem Kept.trans {changed : List Block} {s t u : State} (hst : Kept changed s t) (htu : Kept changed t u) :
    Kept changed s u := fun b hb => agree_trans (hst b hb) (htu b hb)

theorem Kept.mono {few many : List Block} {s t : State} (h : Kept few s t) (hsub : ∀ b ∈ few, b ∈ many) :
    Kept many s t := fun b hb => h b fun hb' => hb (hsub b hb')

/-- The composition of the screen changes nothing that a frame speaks of (R76). -/
theorem kept_refreshScreen (changed : List Block) (s : State) : Kept changed s (refreshScreen s) := by
  intro b _
  cases b <;> simp only [agree]
  case readout =>
    simp only [refreshScreen, readoutCore]
    repeat' split
    all_goals simp
  all_goals simp

/-- Reports that wait are no part of a frame. -/
theorem kept_setReports (changed : List Block) (s : State) (x : List Report) : Kept changed s (s.setReports x) := by
  intro b _
  cases b <;> simp [agree]

/-! ## A command that reports nothing -/

theorem trySleep_of_awake {s : State} (h : sleepReady s = false) : trySleep s = s := by simp [trySleep, h]

/-- With no report to deliver and SLEEP out of question, only the screen is composed. -/
theorem finish_idle {s : State} (hreports : s.reports = []) (hawake : sleepReady s = false) :
    finish s = refreshScreen s := by
  rw [finish, settle_idle _ _ hreports, trySleep_of_awake hawake]

end Sys2Proof.Proofs

/-! Proofs. The image is handed out (R159, R160). -/

namespace Sys2Proof.Proofs

open Sys2Proof Sys2Proof.Machine Sys2Proof.Claims

/-- The tables handed out are the image's, or the fallback's with its flag. -/
theorem takeImage_eq (area : List Byte) (s : State) :
    takeImage area s = handOut ((checkImage area).getD fallbackTables) (checkImage area).isNone s := by
  unfold takeImage
  split <;> simp [*]

/-- A part in LOADING does not sleep. -/
theorem awake_of_loading {s : State} (h : s.control.part = .loading) : sleepReady s = false := by
  simp [sleepReady, h]

/-- What the hand-out leaves: the tables, the flag and the phase of LOADING, lamps and roster entries made of the
tables, the start of the restore. -/
theorem handOut_parts (tables : Tables) (fallback : Bool) (s : State) :
    Kept [.tables, .control, .telltale, .roster, .store] s (handOut tables fallback s)
      ∧ (handOut tables fallback s).tables = tables
      ∧ (handOut tables fallback s).control
        = { s.control with fallback := fallback, load := .restoring, readDue := some (s.now + 20) }
      ∧ (handOut tables fallback s).telltale = { s.telltale with lamps := liveLamps tables.lamps }
      ∧ (handOut tables fallback s).roster = { s.roster with entries := tables.roster.map liveEntry }
      ∧ (handOut tables fallback s).store = { s.store with restoreNext := 0, found := [] } := by
  refine ⟨fun b hb => ?_, rfl, rfl, rfl, rfl, rfl⟩
  cases b
  case tables | control | telltale | roster | store => exact absurd (by decide) hb
  case queue => exact ⟨rfl, rfl⟩
  all_goals rfl

theorem insertLamp_perm (l : Lamp) (ls : List Lamp) : (insertLamp l ls).Perm (l :: ls) := by
  induction ls with
  | nil => rfl
  | cons m ms ih =>
    simp only [insertLamp]
    split
    · rfl
    · exact (ih.cons m).trans (List.Perm.swap l m ms)

theorem insertLamp_sorted (l : Lamp) {ls : List Lamp} (h : ls.Pairwise (fun l m => l.output ≤ m.output)) :
    (insertLamp l ls).Pairwise (fun l m => l.output ≤ m.output) := by
  induction ls with
  | nil => simp [insertLamp]
  | cons m ms ih =>
    obtain ⟨hm, hms⟩ := List.pairwise_cons.mp h
    simp only [insertLamp]
    split
    · next hlm =>
      exact List.pairwise_cons.mpr ⟨fun x hx => by
        rcases List.mem_cons.mp hx with rfl | hx
        · exact hlm
        · exact hlm.trans (hm x hx), h⟩
    · next hlm =>
      refine List.pairwise_cons.mpr ⟨fun x hx => ?_, ih hms⟩
      rcases List.mem_cons.mp ((insertLamp_perm l ms).mem_iff.mp hx) with rfl | hx
      · omega
      · exact hm x hx

/-- The live lamps are those of the records, in ascending order of output (R52). -/
theorem liveLamps_perm_sorted (rs : List LampRecord) : (liveLamps rs).Perm (rs.map liveLamp)
    ∧ (liveLamps rs).Pairwise (fun l m => l.output ≤ m.output) := by
  induction rs with
  | nil => exact ⟨.rfl, .nil⟩
  | cons r rs ih =>
    obtain ⟨hperm, hsorted⟩ := ih
    exact ⟨(insertLamp_perm _ _).trans (hperm.cons _), insertLamp_sorted _ hsorted⟩

/-- Settles O22: the command completes without a report; the check is `checkImage_admits` one way and
`checkImage_imageOf` the other. -/
theorem imageIsCheckedAndHandedOut : Obligations.ImageIsCheckedAndHandedOut := by
  unfold Obligations.ImageIsCheckedAndHandedOut
  refine ⟨fun area s hawake => ⟨_, rfl, fun hphase => ?_, fun hphase => ?_⟩, fun area t h => checkImage_admits h,
    fun t rest h hfit => checkImage_imageOf rest h hfit, liveLamps_perm_sorted⟩
  · obtain ⟨hpart, hload⟩ := hphase
    have hread : imageRead area (s.setReports [])
        = handOut ((checkImage area).getD fallbackTables) (checkImage area).isNone (s.setReports []) := by
      simp [imageRead, loadingPhase, hpart, hload, takeImage_eq]
    obtain ⟨hkept, htables, hcontrol, htelltale, hroster, hstore⟩ := handOut_parts
      ((checkImage area).getD fallbackTables) (checkImage area).isNone (s.setReports [])
    rw [hread, finish_idle (by simp) (awake_of_loading (by rw [hcontrol]; exact hpart))]
    have hall := Kept.trans (Kept.trans (kept_setReports _ s []) hkept) (kept_refreshScreen _ _)
    simp only [refreshScreen_frame]
    exact ⟨htables, hcontrol, by rw [htelltale, htables]; rfl, by rw [hroster, htables]; rfl, hstore, hall⟩
  · have hread : imageRead area (s.setReports []) = s.setReports [] := by
      have hno : loadingPhase .readingImage (s.setReports []) = false :=
        Bool.eq_false_iff.mpr fun (h : loadingPhase .readingImage s = true) =>
          hphase (by simpa [loadingPhase] using h)
      simp [imageRead, hno]
    rw [hread, finish_idle (s := s.setReports []) rfl hawake]
    exact Kept.trans (kept_setReports _ s []) (kept_refreshScreen _ _)

end Sys2Proof.Proofs

/-! Proofs. What the delivery of reports to the Telltale Unit keeps. -/

namespace Sys2Proof.Proofs

open Sys2Proof Sys2Proof.Machine Sys2Proof.Claims

/-! ## A report of the Condition Monitor -/

theorem counted_eq (a : Attribute) (c : HealthConfig) : a.counted c = countedAttribute c a := by
  have hexceeded : exceedsThreshold c.threshold (normalizedValue (min 65535 (a.raw + 1)) c.weight)
      = decide (1 ≤ c.threshold ∧ normalizedValue (min 65535 (a.raw + 1)) c.weight ≤ c.threshold) := by
    rw [exceedsThreshold, Bool.decide_and]
  simp only [Attribute.counted, countedAttribute, oneMore, hexceeded]
  rfl

/-- The attributes after one report (R153). -/
@[simp] theorem count_monitor (h : Fin 10) (s : State) :
    (count h s).monitor = s.monitor.set h (countedAttribute s.tables.health[h] s.monitor[h]) := by
  simp only [count, counted_eq]
  split <;> simp

theorem count_monitor_other {h i : Fin 10} (hi : i ≠ h) (s : State) : (count h s).monitor[i] = s.monitor[i] := by
  have hval : h.val ≠ i.val := fun e => hi (Fin.ext e.symm)
  simp [hval]

theorem count_monitor_raw (h : Fin 10) (s : State) : (count h s).monitor[h].raw = oneMore s.monitor[h].raw := by
  simp [countedAttribute]

/-! ## Gauges -/

/-- The Gauge Engine after a channel has been put. -/
theorem putChannel_gauges (g : Fin 6) (c : Channel) (s : State) : (putChannel g c s).gauges
    = { s.gauges with channels := s.gauges.channels.set g { c with fault := channelFault s g c } } := by
  simp only [putChannel]
  split <;> simp

theorem channelOf_putChannel_same (g : Fin 6) (c : Channel) (s : State) :
    channelOf (putChannel g c s) g = { c with fault := channelFault s g c } := by
  simp [channelOf, putChannel_gauges]

theorem channelOf_putChannel_other {g g' : Fin 6} (h : g' ≠ g) (c : Channel) (s : State) :
    channelOf (putChannel g c s) g' = channelOf s g' := by
  have hval : g.val ≠ g'.val := fun e => h (Fin.ext e.symm)
  simp [channelOf, putChannel_gauges, hval]

/-- The state a channel calls for leaves its bands. -/
@[simp] theorem calledChannel_bands (s : State) (g : Fin 6) (c : Channel) : (calledChannel s g c).bands = c.bands := by
  simp only [calledChannel, Channel.parkOrParked, Channel.park, Channel.goto, Channel.restWith, Channel.overrideTo,
    Channel.hold, Channel.endHold]
  repeat' split
  all_goals rfl

/-! ## What the reports to the Telltale Unit keep -/

/-- What the reports to the Telltale Unit keep of the parts that they can reach: the listening window, the health
attributes but for drops counted toward H9, the request mailbox, bands, the channels that no override holds; and an
override is ended, never started. -/
structure ToldKeeps (s t : State) : Prop where
  window : t.readout.windowDue = s.readout.windowDue
  others : ∀ h : Fin 10, h ≠ 9 → t.monitor[h] = s.monitor[h]
  drops : ∀ n, n ≤ 65535 → n ≤ s.monitor[(9 : Fin 10)].raw → n ≤ t.monitor[(9 : Fin 10)].raw
  mailbox : t.service.pendingReply = s.service.pendingReply
  force : t.service.override.inForce = true → s.service.override.inForce = true
  channels : ∀ g, (channelOf s g).state ≠ .overridden → channelOf t g = channelOf s g
  bands : ∀ g, (channelOf t g).bands = (channelOf s g).bands
  gauges : s.service.override.inForce = false → t.gauges = s.gauges

/-- What changes none of these parts. -/
theorem ToldKeeps.of_eq {s t : State} (hr : t.readout.windowDue = s.readout.windowDue) (hm : t.monitor = s.monitor)
    (hs : t.service = s.service) (hg : t.gauges = s.gauges) : ToldKeeps s t := by
  have hc : ∀ g, channelOf t g = channelOf s g := fun g => by rw [channelOf, channelOf, hg]
  exact ⟨hr, fun _ _ => by rw [hm], fun _ _ h => by rwa [hm], by rw [hs], by rw [hs]; exact id, fun g _ => hc g,
    fun g => by rw [hc g], fun _ => hg⟩

theorem ToldKeeps.refl (s : State) : ToldKeeps s s := .of_eq rfl rfl rfl rfl

theorem ToldKeeps.trans {s t u : State} (h : ToldKeeps s t) (k : ToldKeeps t u) : ToldKeeps s u where
  window := k.window.trans h.window
  others i hi := (k.others i hi).trans (h.others i hi)
  drops n hn hs := k.drops n hn (h.drops n hn hs)
  mailbox := k.mailbox.trans h.mailbox
  force hu := h.force (k.force hu)
  channels g hg := by
    have hst := h.channels g hg
    rw [k.channels g (by rwa [hst]), hst]
  bands g := (k.bands g).trans (h.bands g)
  gauges hs := by
    have ht : t.service.override.inForce = false := Bool.eq_false_iff.mpr fun ht => by simp [h.force ht] at hs
    rw [k.gauges ht, h.gauges hs]

theorem toldKeeps_foldl {α : Type} {f : State → α → State} (h : ∀ s a, ToldKeeps s (f s a)) (l : List α) (s : State) :
    ToldKeeps s (l.foldl f s) := by
  induction l generalizing s with
  | nil => exact .refl s
  | cons a l ih => exact (h s a).trans (ih _)

/-- A drop counted toward H9. -/
theorem toldKeeps_count (s : State) : ToldKeeps s (count 9 s) where
  window := by simp
  others h hh := count_monitor_other hh s
  drops n hn hs := by rw [count_monitor_raw]; simp only [oneMore]; omega
  mailbox := by simp
  force := by simp
  channels g _ := by simp [channelOf]
  bands g := by simp [channelOf]
  gauges _ := by simp

theorem toldKeeps_setChime (c : Chime) (s : State) : ToldKeeps s (s.setChime c) := .of_eq rfl rfl rfl rfl

theorem toldKeeps_setReadout {r : Readout} {s : State} (h : r.windowDue = s.readout.windowDue) :
    ToldKeeps s (s.setReadout r) := .of_eq h rfl rfl rfl

theorem toldKeeps_setTelltale (x : Telltale) (s : State) : ToldKeeps s (s.setTelltale x) := .of_eq rfl rfl rfl rfl

theorem toldKeeps_setReports (x : List Report) (s : State) : ToldKeeps s (s.setReports x) := .of_eq rfl rfl rfl rfl

theorem toldKeeps_postChime (id : ChimeId) (g : Grade) (s : State) : ToldKeeps s (postChime id g s) := by
  simp only [postChime]
  repeat' split
  · exact .refl s
  · exact toldKeeps_setChime _ s
  · exact toldKeeps_setChime _ s
  · exact toldKeeps_count s
  · exact (toldKeeps_setChime _ s).trans (toldKeeps_count _)
  · exact toldKeeps_count s
  · exact (toldKeeps_setChime _ s).trans (toldKeeps_count _)

theorem toldKeeps_leaveChime (id : ChimeId) (s : State) : ToldKeeps s (leaveChime id s) := by
  unfold leaveChime
  split
  · exact toldKeeps_setChime _ s
  · exact .refl s

theorem toldKeeps_postPopup (message : Nat) (cls : Grade) (nonLatched : Bool) (s : State) :
    ToldKeeps s (postPopup message cls nonLatched s) := by
  have hraise : ToldKeeps s (s.setReadout (raisePopup message cls nonLatched s.readout)) := toldKeeps_setReadout rfl
  have hadmit : ∀ q, ToldKeeps s (s.setReadout (admitPopup message cls nonLatched q s.readout)) :=
    fun q => toldKeeps_setReadout rfl
  simp only [postPopup]
  repeat' split
  · exact hraise
  · exact hadmit _
  · exact toldKeeps_count s
  · exact (hadmit _).trans (toldKeeps_count _)
  · exact toldKeeps_count s
  · exact (hadmit _).trans (toldKeeps_count _)

theorem toldKeeps_causeCleared (message : Nat) (s : State) : ToldKeeps s (causeCleared message s) := by
  unfold causeCleared
  split
  · exact toldKeeps_setReadout rfl
  · exact .refl s

theorem toldKeeps_postDemand (output : Fin 32) (cls : LampClass) (index : Nat) (r : DemandRecord) (s : State) :
    ToldKeeps s (postDemand output cls index r s) := by
  unfold postDemand
  split <;> split
  · exact (toldKeeps_postChime _ _ s).trans (toldKeeps_postPopup _ _ _ _)
  · exact toldKeeps_postChime _ _ s
  · exact toldKeeps_postPopup _ _ _ s
  · exact .refl s

theorem toldKeeps_leaveDemand (output : Fin 32) (index : Nat) (r : DemandRecord) (s : State) :
    ToldKeeps s (leaveDemand output index r s) := by
  have hchime : ToldKeeps s (if r.chime.isSome then leaveChime (.demand output index) s else s) := by
    split
    · exact toldKeeps_leaveChime _ s
    · exact .refl s
  simp only [leaveDemand]
  generalize (if r.chime.isSome then leaveChime (.demand output index) s else s) = u at hchime ⊢
  split
  · split
    · exact hchime
    · exact hchime.trans (toldKeeps_causeCleared _ u)
  · exact hchime

theorem toldKeeps_announce (c : DemandChange) (s : State) : ToldKeeps s (announce c s) := by
  unfold announce
  repeat' split
  · exact toldKeeps_postDemand _ _ _ _ s
  · exact .refl s
  · exact toldKeeps_leaveDemand _ _ _ s

/-- The end of an override moves the OVERRIDDEN channels alone, and no band. -/
theorem endGaugesOverride_channels (s : State) (g : Fin 6) :
    ((channelOf s g).state ≠ .overridden → channelOf (endGaugesOverride s) g = channelOf s g)
      ∧ (channelOf (endGaugesOverride s) g).bands = (channelOf s g).bands := by
  have hone : ∀ (t : State) (g' : Fin 6),
      ((channelOf t g).state ≠ .overridden → channelOf (endGaugeOverride t g') g = channelOf t g)
        ∧ (channelOf (endGaugeOverride t g') g).bands = (channelOf t g).bands := by
    intro t g'
    unfold endGaugeOverride
    split
    · next hg' =>
      by_cases hg : g = g'
      · subst hg
        refine ⟨fun h => absurd hg' h, ?_⟩
        rw [enterCalled, channelOf_putChannel_same]
        exact calledChannel_bands _ _ _
      · rw [enterCalled, channelOf_putChannel_other hg]
        exact ⟨fun _ => rfl, rfl⟩
    · exact ⟨fun _ => rfl, rfl⟩
  suffices hall : ∀ (l : List (Fin 6)) (t : State),
      ((channelOf t g).state ≠ .overridden → channelOf (l.foldl endGaugeOverride t) g = channelOf t g)
        ∧ (channelOf (l.foldl endGaugeOverride t) g).bands = (channelOf t g).bands from hall allGauges s
  intro l
  induction l with
  | nil => exact fun t => ⟨fun _ => rfl, rfl⟩
  | cons g' l ih =>
    intro t
    obtain ⟨hkeep, hbands⟩ := hone t g'
    obtain ⟨hkeep', hbands'⟩ := ih (endGaugeOverride t g')
    exact ⟨fun h => (hkeep' (by rwa [hkeep h])).trans (hkeep h), hbands'.trans hbands⟩

theorem toldKeeps_endOverride (s : State) : ToldKeeps s (endOverride s) := by
  unfold endOverride
  split
  · next hforce =>
    exact {
      window := by simp
      others := fun _ _ => by simp
      drops := fun _ _ => by simp
      mailbox := by simp [putOverride]
      force := fun _ => hforce
      channels := fun g h => (endGaugesOverride_channels _ g).1 (by simpa [channelOf] using h)
        |>.trans (by simp [channelOf])
      bands := fun g => (endGaugesOverride_channels _ g).2.trans (by simp [channelOf])
      gauges := fun h => by simp [h] at hforce }
  · exact .refl s

theorem toldKeeps_updateFlags (s : State) : ToldKeeps s (updateFlags s) := by
  simp only [updateFlags]
  split
  · exact .of_eq rfl rfl rfl rfl
  · exact ⟨rfl, fun _ _ => rfl, fun _ _ => id, rfl, id, fun _ _ => rfl, fun _ => rfl, fun _ => rfl⟩

theorem toldKeeps_applyConditions (f : Demand → Bool) (s : State) : ToldKeeps s (applyConditions f s) := by
  have hred : ∀ (t : State) (c : DemandChange), ToldKeeps t (reportRed c t) := by
    intro t c
    unfold reportRed
    split
    · exact toldKeeps_endOverride t
    · exact .refl t
  simp only [applyConditions]
  refine ToldKeeps.trans ?_ (toldKeeps_foldl (fun t c => toldKeeps_announce c t) _ _)
  refine ToldKeeps.trans ?_ (toldKeeps_foldl hred _ _)
  exact ToldKeeps.trans (toldKeeps_setTelltale _ s) (toldKeeps_updateFlags _)

theorem toldKeeps_takeSource (src : Source) (on : Bool) (s : State) : ToldKeeps s (takeSource src on s) :=
  ToldKeeps.trans (toldKeeps_setTelltale _ s) (toldKeeps_applyConditions _ (s.setTelltale _))

theorem toldKeeps_settle (n : Nat) (s : State) : ToldKeeps s (settle n s) := by
  induction n generalizing s with
  | zero => exact .of_eq rfl rfl rfl rfl
  | succ n ih =>
    simp only [settle]
    split
    · exact .refl s
    · refine ToldKeeps.trans ?_ (ih _)
      exact ToldKeeps.trans (toldKeeps_setReports _ s) (toldKeeps_takeSource _ _ _)

theorem toldKeeps_refreshScreen (s : State) : ToldKeeps s (refreshScreen s) := by
  refine .of_eq ?_ (by simp) (by simp) (by simp)
  simp only [refreshScreen]
  repeat' split
  all_goals rfl

/-! ## The end of a command of an awake part -/

/-- The delivery of reports does not bring SLEEP about. -/
theorem awake_settle {s : State} (n : Nat) (h : sleepReady s = false) : sleepReady (settle n s) = false := by
  rw [← h]
  simp only [sleepReady, storeIdle, readoutLit, (toldKeeps_settle n s).window, settle_frame]

theorem finish_awake {s : State} (h : sleepReady s = false) :
    finish s = refreshScreen (settle (settleFuel s) s) := by
  rw [finish, trySleep_of_awake (awake_settle _ h)]

/-- What the end of a command keeps of the parts that reports can reach. -/
theorem toldKeeps_finish {s : State} (h : sleepReady s = false) : ToldKeeps s (finish s) := by
  rw [finish_awake h]
  exact (toldKeeps_settle _ s).trans (toldKeeps_refreshScreen _)

/-- The end of a command of an awake part changes only what reports can reach. -/
theorem kept_finish {s : State} (h : sleepReady s = false) : Kept told s (finish s) := by
  rw [finish_awake h]
  refine Kept.trans (fun b hb => ?_) (kept_refreshScreen _ _)
  cases b
  case monitor | telltale | chime | readout | service | gauges => exact absurd (by decide) hb
  all_goals simp [agree]

/-- The State Controller and the line of an awake part stay as they are at the end of a command. -/
theorem finish_awake_frame {s : State} (h : sleepReady s = false) :
    (finish s).control = s.control ∧ (finish s).line = s.line ∧ (finish s).roster = s.roster := by
  rw [finish_awake h]
  simp

end Sys2Proof.Proofs

/-! Proofs. A good frame of another station: how far its reception is the same for every topic. -/

namespace Sys2Proof.Proofs

open Sys2Proof Sys2Proof.Machine Sys2Proof.Claims

/-- The state in which the consumers of a good frame find the part: the start mark and the end of the frame have been
taken, and no report waits. -/
def lineHeard (s : State) : State := frameOver (acknowledges s) (ownStartMark (s.setReports []))

/-- The line of that state (R142, R143, R149). -/
theorem lineHeard_line (s : State) : (lineHeard s).line = lineAfterFrame (acknowledges s) s := by
  simp only [lineHeard, ownStartMark, lineAfterFrame, frameOver, startMark]
  split <;> simp_all

/-- All but the line is as it was. -/
@[simp] theorem lineHeard_frame (s : State) :
    (lineHeard s).now = s.now ∧ (lineHeard s).tables = s.tables ∧ (lineHeard s).control = s.control ∧
    (lineHeard s).slots = s.slots ∧ (lineHeard s).gauges = s.gauges ∧ (lineHeard s).telltale = s.telltale ∧
    (lineHeard s).chime = s.chime ∧ (lineHeard s).readout = s.readout ∧ (lineHeard s).driver = s.driver ∧
    (lineHeard s).distance = s.distance ∧ (lineHeard s).store = s.store ∧ (lineHeard s).roster = s.roster ∧
    (lineHeard s).monitor = s.monitor ∧ (lineHeard s).service = s.service ∧ (lineHeard s).reports = [] ∧
    (lineHeard s).scan = s.scan ∧ (lineHeard s).pending = s.pending := by
  simp [lineHeard]

/-- A good frame of another station reaches its consumers. -/
theorem receive_goodFrame {key : Key} {payload : List Byte} {s : State} (h : hears (keySender key) s) :
    receive (goodFrame key payload) (s.setReports [])
      = deliverFrame (keyTopic key) (keySender key) payload (lineHeard s) := by
  obtain ⟨hhearing, hother⟩ := h
  have hearing' : hearing (s.setReports []) = true := hhearing
  have hack : acknowledges (ownStartMark (s.setReports [])) = acknowledges s := by
    unfold ownStartMark
    split <;> rfl
  have hown : keySender key ≠ (ownStartMark (s.setReports [])).tables.ownStation := by simpa using hother
  simp only [receive, hearing', if_true, goodFrame, hown, if_false, hack, lineHeard]

theorem exec_frameReceived {f : Frame} {s : State} (hgood : isGood f = true) (h : hears (keySender f.key) s) :
    exec (.frameReceived f) s
      = .next (finish (deliverFrame (keyTopic f.key) (keySender f.key) f.payload (lineHeard s))) := by
  have hjudge : judgeFrame f = goodFrame f.key f.payload := by
    funext t
    simp [judgeFrame, hgood]
  rw [← receive_goodFrame h, ← hjudge]
  rfl

/-- A frame that one entry of the map takes is treated by that entry, once its sender has been heard. -/
theorem exec_takenBy {f : Frame} {e : IntakeEntry} {s : State} (h : takenBy f e s) :
    exec (.frameReceived f) s
      = .next (finish (treatEntry (keySender f.key) f.payload (hearStation (keySender f.key) (lineHeard s)) e)) := by
  obtain ⟨hgood, hhears, hdata, hrequest, hentry⟩ := h
  have hsystem : ∀ t : State, deliverSystem (keyTopic f.key) (keySender f.key) f.payload t = t := by
    intro t
    simp [deliverSystem, show keyTopic f.key ≠ 1 by omega, show keyTopic f.key ≠ 2 by omega]
  rw [exec_frameReceived hgood hhears]
  simp [deliverFrame, hsystem, takeData, hdata, hentry, deliverRequest, hrequest]

/-- A part hears its station without a report where every entry of the station is PRESENT already. -/
theorem hearStation_reports {station : Nat} {s : State} (h : presentAlready station s) :
    (hearStation station s).reports = s.reports := by
  have htell : ∀ (es : List RosterEntry) (i : Nat) (t : State),
      (∀ e ∈ es, e.record.station = station → e.state = .present) →
      (tellEntries i es (es.map (fun e => if e.record.station = station then e.heard s.now else e)) t).reports
        = t.reports := by
    intro es
    induction es with
    | nil => exact fun _ _ _ => rfl
    | cons e es ih =>
      intro i t hes
      have hstate : e.state = (if e.record.station = station then e.heard s.now else e).state := by
        split
        · next hst => exact hes e (by simp) hst
        · rfl
      rw [List.map_cons, tellEntries, if_pos hstate]
      exact ih (i + 1) t fun e' he' => hes e' (by simp [he'])
  unfold hearStation
  split
  · rw [putEntries, htell _ _ _ h]; rfl
  · rfl

/-- The override in force decides whether the end of a command can move a channel. -/
theorem finish_gauges {s : State} (h : s.service.override.inForce = false) : (finish s).gauges = s.gauges := by
  simp [finish, (toldKeeps_settle (settleFuel s) s).gauges h]

/-- The health attributes but H9 are as the effect of the command left them. -/
theorem finish_monitor_other (s : State) {h : Fin 10} (hh : h ≠ 9) : (finish s).monitor[h] = s.monitor[h] := by
  rw [← (toldKeeps_settle (settleFuel s) s).others h hh]
  simp [finish]

/-- A part stays awake through what leaves the State Controller, the store and the listening window, and does not
make the peers quiet. -/
theorem awake_of_parts {s t : State} (h : sleepReady s = false) (hcontrol : t.control = s.control)
    (hstore : t.store = s.store) (hwindow : t.readout.windowDue = s.readout.windowDue)
    (hpeers : t.line.peersQuiet = true → s.line.peersQuiet = true) : sleepReady t = false := by
  cases hquiet : t.line.peersQuiet with
  | false => simp [sleepReady, hquiet]
  | true =>
    rw [← h]
    simp only [sleepReady, storeIdle, readoutLit, hcontrol, hstore, hwindow, hquiet, hpeers hquiet]

end Sys2Proof.Proofs

/-! Proofs. A notification of a slot at the Gauge Engine, channel by channel (R26, R33, R44, R45). -/

namespace Sys2Proof.Proofs

open Sys2Proof Sys2Proof.Machine Sys2Proof.Claims

/-! ## What a notification makes of one channel -/

/-- A band after a notification. -/
def notifiedBand (r : GaugeRecord) (now : Nat) (ev : SlotEvent) (e : Int) (i : Fin 2) (b : BandState) : BandState :=
  match r.bands[i.val]? with
  | none => b
  | some band => if ev = .value then bandArrival band now e b else bandFreeze now b

/-- A channel with its bands after a notification. -/
def withNotifiedBands (r : GaugeRecord) (now : Nat) (ev : SlotEvent) (e : Int) (c : Channel) : Channel :=
  { c with bands := (c.bands.set 0 (notifiedBand r now ev e 0 c.bands[0])).set 1 (notifiedBand r now ev e 1 c.bands[1]) }

/-- A channel with its GAUGE-FAULT condition evaluated (R40). -/
def withFault (r : GaugeRecord) (grace : Grace) (c : Channel) : Channel :=
  { c with fault := r.enabled && faultCondition grace c.state c.rest }

/-- A channel after a notification of its source slot (R33). -/
def sourceNotified (r : GaugeRecord) (grace : Grace) (now : Nat) (ev : SlotEvent) (e : Int) (c : Channel) : Channel :=
  withNotifiedBands r now ev e
    (if r.enabled then withFault r grace (channelEvent r.holdTime now ev c) else c)

/-- A channel after a notification of a slot, be it its source slot, its standstill slot, both or neither. -/
def notifiedChannel (r : GaugeRecord) (grace : Grace) (now : Nat) (slot : Fin 64) (ev : SlotEvent) (e : Int)
    (c : Channel) : Channel :=
  let c1 := if r.source = some slot then sourceNotified r grace now ev e c else c
  match r.standstill with
  | some st => if drivesStandstill r slot st then withFault r grace (standstillEvent st.threshold now ev e c1) else c1
  | none => c1

theorem putBand_gauges (g : Fin 6) (i : Fin 2) (b : BandState) (s : State) : (putBand g i b s).gauges = { s.gauges with
    channels := s.gauges.channels.set g { channelOf s g with bands := (channelOf s g).bands.set i b } } := by
  simp only [putBand]
  repeat' split
  all_goals simp

theorem notifyBand_gauges (g : Fin 6) (i : Fin 2) (ev : SlotEvent) (e : Int) (s : State) :
    (notifyBand g i ev e s).gauges = { s.gauges with channels := s.gauges.channels.set g { channelOf s g with
      bands := (channelOf s g).bands.set i (notifiedBand (gaugeRecord s g) s.now ev e i (channelOf s g).bands[i]) } } := by
  unfold notifyBand notifiedBand bandRecord
  split
  · simp only [*, Fin.getElem_fin, Vector.set_getElem_self]
    exact (congrArg (fun channels => { s.gauges with channels })
      (Vector.set_getElem_self (xs := s.gauges.channels) g.isLt)).symm
  · cases ev <;> simp [putBand_gauges, *]

theorem channelOf_notifyBand_same (g : Fin 6) (i : Fin 2) (ev : SlotEvent) (e : Int) (s : State) :
    channelOf (notifyBand g i ev e s) g = { channelOf s g with
      bands := (channelOf s g).bands.set i (notifiedBand (gaugeRecord s g) s.now ev e i (channelOf s g).bands[i]) } := by
  simp [channelOf, notifyBand_gauges]

theorem channelOf_notifyBand_other {g g' : Fin 6} (h : g' ≠ g) (i : Fin 2) (ev : SlotEvent) (e : Int) (s : State) :
    channelOf (notifyBand g i ev e s) g' = channelOf s g' := by
  have hval : g.val ≠ g'.val := fun e => h (Fin.ext e.symm)
  simp [channelOf, notifyBand_gauges, hval]

theorem notifyBand_grace (g : Fin 6) (i : Fin 2) (ev : SlotEvent) (e : Int) (s : State) :
    (notifyBand g i ev e s).gauges.grace = s.gauges.grace := by rw [notifyBand_gauges]

theorem putChannel_grace (g : Fin 6) (c : Channel) (s : State) : (putChannel g c s).gauges.grace = s.gauges.grace := by
  rw [putChannel_gauges]

theorem channelFault_withFault (s : State) (g : Fin 6) (c : Channel) :
    { c with fault := channelFault s g c } = withFault (gaugeRecord s g) s.gauges.grace c := rfl

theorem gaugeRecord_congr {s t : State} (h : t.tables = s.tables) (g : Fin 6) : gaugeRecord t g = gaugeRecord s g := by
  rw [gaugeRecord, gaugeRecord, h]

/-- A notification of the source slot at its gauge. -/
theorem notifySource_gauge (g : Fin 6) (ev : SlotEvent) (e : Int) (s : State) :
    channelOf (notifySource g ev e s) g
        = sourceNotified (gaugeRecord s g) s.gauges.grace s.now ev e (channelOf s g)
      ∧ (∀ g', g' ≠ g → channelOf (notifySource g ev e s) g' = channelOf s g')
      ∧ (notifySource g ev e s).gauges.grace = s.gauges.grace := by
  simp only [notifySource]
  generalize hu : (if (gaugeRecord s g).enabled then
    putChannel g (channelEvent (gaugeRecord s g).holdTime s.now ev (channelOf s g)) s else s) = u
  have hnow : u.now = s.now := by rw [← hu]; split <;> simp
  have hrecord : gaugeRecord u g = gaugeRecord s g := gaugeRecord_congr (by rw [← hu]; split <;> simp) g
  have hchannel : channelOf u g = if (gaugeRecord s g).enabled then withFault (gaugeRecord s g) s.gauges.grace
      (channelEvent (gaugeRecord s g).holdTime s.now ev (channelOf s g)) else channelOf s g := by
    rw [← hu]
    split
    · rw [channelOf_putChannel_same]; rfl
    · rfl
  have hothers : ∀ g', g' ≠ g → channelOf u g' = channelOf s g' := by
    intro g' hg'
    rw [← hu]
    split
    · exact channelOf_putChannel_other hg' _ _
    · rfl
  have hgrace : u.gauges.grace = s.gauges.grace := by
    rw [← hu]
    split
    · exact putChannel_grace _ _ _
    · rfl
  refine ⟨?_, fun g' hg' => ?_, ?_⟩
  · have hkept : gaugeRecord (notifyBand g 0 ev e u) g = gaugeRecord u g := gaugeRecord_congr (by simp) g
    rw [channelOf_notifyBand_same, channelOf_notifyBand_same, hkept, hrecord, sourceNotified, ← hchannel]
    simp [withNotifiedBands, hnow]
  · rw [channelOf_notifyBand_other hg', channelOf_notifyBand_other hg', hothers g' hg']
  · rw [notifyBand_grace, notifyBand_grace, hgrace]

/-- A notification at one gauge. -/
theorem notifyGauge_gauge (slot : Fin 64) (ev : SlotEvent) (e : Int) (s : State) (g : Fin 6) :
    channelOf (notifyGauge slot ev e s g) g
        = notifiedChannel (gaugeRecord s g) s.gauges.grace s.now slot ev e (channelOf s g)
      ∧ (∀ g', g' ≠ g → channelOf (notifyGauge slot ev e s g) g' = channelOf s g')
      ∧ (notifyGauge slot ev e s g).gauges.grace = s.gauges.grace := by
  obtain ⟨hsource, hothers, hgrace⟩ := notifySource_gauge g ev e s
  simp only [notifyGauge, notifiedChannel]
  generalize hu : (if (gaugeRecord s g).source = some slot then notifySource g ev e s else s) = u
  have hchannel : channelOf u g = if (gaugeRecord s g).source = some slot then
      sourceNotified (gaugeRecord s g) s.gauges.grace s.now ev e (channelOf s g) else channelOf s g := by
    rw [← hu, ← hsource]
    split <;> rfl
  have hothers' : ∀ g', g' ≠ g → channelOf u g' = channelOf s g' := by
    intro g' hg'
    rw [← hu]
    split
    · exact hothers g' hg'
    · rfl
  have hgrace' : u.gauges.grace = s.gauges.grace := by
    rw [← hu]
    split
    · exact hgrace
    · rfl
  have hnow : u.now = s.now := by rw [← hu]; split <;> simp
  have hrecord : gaugeRecord u g = gaugeRecord s g := gaugeRecord_congr (by rw [← hu]; split <;> simp) g
  simp only [notifyStandstill, hrecord, ← hchannel]
  cases (gaugeRecord s g).standstill with
  | some st =>
    simp only
    split
    · refine ⟨?_, fun g' hg' => ?_, ?_⟩
      · rw [channelOf_putChannel_same, channelFault_withFault, hrecord, hgrace', hnow]
      · rw [channelOf_putChannel_other hg', hothers' g' hg']
      · rw [putChannel_grace, hgrace']
    · exact ⟨rfl, hothers', hgrace'⟩
  | none => exact ⟨rfl, hothers', hgrace'⟩

/-- A notification at gauges in turn. -/
theorem foldl_notifyGauge (slot : Fin 64) (ev : SlotEvent) (e : Int) :
    ∀ (l : List (Fin 6)) (s : State), l.Nodup →
      (∀ g, channelOf (l.foldl (notifyGauge slot ev e) s) g = if g ∈ l then
        notifiedChannel (gaugeRecord s g) s.gauges.grace s.now slot ev e (channelOf s g) else channelOf s g)
      ∧ (l.foldl (notifyGauge slot ev e) s).gauges.grace = s.gauges.grace
  | [], _, _ => ⟨fun _ => by simp, rfl⟩
  | g :: l, s, hnodup => by
    obtain ⟨hg, hl⟩ := List.nodup_cons.mp hnodup
    obtain ⟨hsame, hothers, hgrace⟩ := notifyGauge_gauge slot ev e s g
    obtain ⟨ih, ihgrace⟩ := foldl_notifyGauge slot ev e l (notifyGauge slot ev e s g) hl
    refine ⟨fun g' => ?_, by rw [List.foldl_cons, ihgrace, hgrace]⟩
    rw [List.foldl_cons, ih g', hgrace, gaugeRecord_congr (by simp : _ = s.tables), (notifyGauge_frame _ _ _ _ _).1]
    by_cases hg' : g' = g
    · subst hg'
      simp [hg, hsame]
    · simp [hg', hothers g' hg']

/-- What a notification of a slot makes of each channel. -/
theorem channelOf_gaugeSlot (slot : Fin 64) (ev : SlotEvent) (e : Int) (s : State) (g : Fin 6) :
    channelOf (gaugeSlot slot ev e s) g
      = notifiedChannel (gaugeRecord s g) s.gauges.grace s.now slot ev e (channelOf s g) := by
  rw [gaugeSlot, (foldl_notifyGauge slot ev e allGauges s (by decide)).1 g, if_pos (by revert g; decide)]

/-- The Gauge Engine after a notification depends on its own state, the tables and the time alone. -/
theorem gaugeSlot_gauges_congr {s t : State} (htables : t.tables = s.tables) (hgauges : t.gauges = s.gauges)
    (hnow : t.now = s.now) (slot : Fin 64) (ev : SlotEvent) (e : Int) :
    (gaugeSlot slot ev e t).gauges = (gaugeSlot slot ev e s).gauges := by
  have hchannel : ∀ g, channelOf (gaugeSlot slot ev e t) g = channelOf (gaugeSlot slot ev e s) g := by
    intro g
    rw [channelOf_gaugeSlot, channelOf_gaugeSlot, gaugeRecord_congr htables, hgauges, hnow, channelOf, channelOf, hgauges]
  have hgrace : (gaugeSlot slot ev e t).gauges.grace = (gaugeSlot slot ev e s).gauges.grace := by
    rw [gaugeSlot, gaugeSlot, (foldl_notifyGauge slot ev e allGauges t (by decide)).2,
      (foldl_notifyGauge slot ev e allGauges s (by decide)).2, hgauges]
  have hchannels : (gaugeSlot slot ev e t).gauges.channels = (gaugeSlot slot ev e s).gauges.channels := by
    apply Vector.ext
    intro i hi
    exact hchannel ⟨i, hi⟩
  generalize (gaugeSlot slot ev e t).gauges = a at *
  generalize (gaugeSlot slot ev e s).gauges = b at *
  cases a; cases b
  simp only at hchannels hgrace
  rw [hchannels, hgrace]

/-! ## The items of a notified channel -/

section
variable (r : GaugeRecord) (grace : Grace) (now : Nat) (slot : Fin 64) (ev : SlotEvent) (e : Int) (c : Channel)

/-- An event of the source slot leaves position, damping, standstill and bands. -/
theorem channelEvent_frame (holdTime : Nat) :
    (channelEvent holdTime now ev c).position = c.position ∧ (channelEvent holdTime now ev c).damped = c.damped
      ∧ (channelEvent holdTime now ev c).standDue = c.standDue
      ∧ (channelEvent holdTime now ev c).standMode = c.standMode
      ∧ (channelEvent holdTime now ev c).bands = c.bands := by
  simp only [channelEvent, Channel.goto, Channel.restWith, Channel.hold, Channel.endHold]
  cases c.state <;> cases ev <;> simp
  split <;> simp

/-- An event of the standstill slot leaves all but the standstill items. -/
theorem standstillEvent_frame (threshold : Int) :
    (standstillEvent threshold now ev e c).position = c.position
      ∧ (standstillEvent threshold now ev e c).damped = c.damped
      ∧ (standstillEvent threshold now ev e c).state = c.state ∧ (standstillEvent threshold now ev e c).rest = c.rest
      ∧ (standstillEvent threshold now ev e c).holdSpent = c.holdSpent
      ∧ (standstillEvent threshold now ev e c).holdDue = c.holdDue
      ∧ (standstillEvent threshold now ev e c).bands = c.bands := by
  unfold standstillEvent
  cases ev <;> simp
  repeat' split
  all_goals simp

/-- Position and damping stay. -/
theorem notifiedChannel_position_damped :
    (notifiedChannel r grace now slot ev e c).position = c.position
      ∧ (notifiedChannel r grace now slot ev e c).damped = c.damped := by
  simp only [notifiedChannel, sourceNotified, withNotifiedBands, withFault]
  repeat' split
  all_goals simp [standstillEvent_frame, channelEvent_frame]

/-- The state of a channel and its hold follow the source slot of an enabled gauge alone (R33). -/
theorem notifiedChannel_state : ∃ c' : Channel,
    (c' = if r.source = some slot ∧ r.enabled = true then channelEvent r.holdTime now ev c else c)
      ∧ (notifiedChannel r grace now slot ev e c).state = c'.state
      ∧ (notifiedChannel r grace now slot ev e c).rest = c'.rest
      ∧ (notifiedChannel r grace now slot ev e c).holdSpent = c'.holdSpent
      ∧ (notifiedChannel r grace now slot ev e c).holdDue = c'.holdDue := by
  refine ⟨_, rfl, ?_⟩
  simp only [notifiedChannel, sourceNotified, withNotifiedBands, withFault]
  by_cases hsource : r.source = some slot <;> by_cases henabled : r.enabled = true
  all_goals
    simp only [hsource, henabled, if_true, if_false, and_self, and_true, false_and]
    repeat' split
    all_goals simp_all [standstillEvent_frame]

/-- Fault, state and standstill leave the bands: they follow the source slot alone (R44, R45). -/
theorem notifiedChannel_bands (i : Fin 2) :
    (notifiedChannel r grace now slot ev e c).bands[i]
      = if r.source = some slot then notifiedBand r now ev e i c.bands[i] else c.bands[i] := by
  have hsource : (sourceNotified r grace now ev e c).bands[i] = notifiedBand r now ev e i c.bands[i] := by
    have hbands : (if r.enabled then withFault r grace (channelEvent r.holdTime now ev c) else c).bands = c.bands := by
      split
      · exact (channelEvent_frame now ev c r.holdTime).2.2.2.2
      · rfl
    simp only [sourceNotified, withNotifiedBands, hbands]
    fin_cases i <;> simp
  have hstand : ∀ c1 : Channel, c1.bands[i] = (match r.standstill with
      | some st => if drivesStandstill r slot st then withFault r grace (standstillEvent st.threshold now ev e c1) else c1
      | none => c1).bands[i] := by
    intro c1
    cases r.standstill with
    | some st =>
      simp only
      split
      · simp [withFault, standstillEvent_frame]
      · rfl
    | none => rfl
  simp only [notifiedChannel, ← hstand]
  split
  · exact hsource
  · rfl

/-- The standstill items follow the standstill slot alone, and not where a disabled gauge shows it as its source. -/
theorem notifiedChannel_standstill :
    (∀ st, r.standstill = some st → drivesStandstill r slot st →
      (notifiedChannel r grace now slot ev e c).standDue = (standstillEvent st.threshold now ev e c).standDue
      ∧ (notifiedChannel r grace now slot ev e c).standMode = (standstillEvent st.threshold now ev e c).standMode)
    ∧ ((∀ st, r.standstill = some st → ¬ drivesStandstill r slot st) →
      (notifiedChannel r grace now slot ev e c).standDue = c.standDue
      ∧ (notifiedChannel r grace now slot ev e c).standMode = c.standMode) := by
  have hsource : ∃ c1, c1 = (if r.source = some slot then sourceNotified r grace now ev e c else c)
      ∧ c1.standDue = c.standDue ∧ c1.standMode = c.standMode := by
    refine ⟨_, rfl, ?_⟩
    simp only [sourceNotified, withNotifiedBands, withFault]
    repeat' split
    all_goals simp [channelEvent_frame]
  obtain ⟨c1, hc1, hdue, hmode⟩ := hsource
  refine ⟨fun st hst hdrives => ?_, fun hnone => ?_⟩
  · simp only [notifiedChannel, ← hc1, hst, if_pos hdrives, withFault, standstillEvent, hdue, hmode]
    cases ev <;> simp
    repeat' split
    all_goals simp_all
  · simp only [notifiedChannel, ← hc1]
    cases hst : r.standstill with
    | some st => simp [hnone st hst, hdue, hmode]
    | none => exact ⟨hdue, hmode⟩

end

/-- What a notification makes of an enabled channel's state (R34, R35). -/
theorem channelEvent_states (holdTime now : Nat) (ev : SlotEvent) (c : Channel) :
    (ev = .value → (channelEvent holdTime now ev c).holdSpent = false)
    ∧ (c.state = .tracking ∨ c.state = .holding ∨ c.state = .resting →
        (ev = .value → (channelEvent holdTime now ev c).state = .tracking
          ∧ (c.state ≠ .tracking → (channelEvent holdTime now ev c).holdDue = none))
        ∧ (ev = .absent → ((channelEvent holdTime now ev c).state = .resting
            ∧ (channelEvent holdTime now ev c).rest = some .absent) ∧ (channelEvent holdTime now ev c).holdDue = none)
        ∧ (ev = .faulted → ((channelEvent holdTime now ev c).state = .resting
            ∧ (channelEvent holdTime now ev c).rest = some .faulted)
            ∧ (channelEvent holdTime now ev c).holdDue = none))
    ∧ (c.state ≠ .tracking → c.state ≠ .holding → c.state ≠ .resting →
        (channelEvent holdTime now ev c).state = c.state ∧ (channelEvent holdTime now ev c).rest = c.rest) := by
  cases ev <;> cases hstate : c.state <;>
    simp [channelEvent, hstate, Channel.goto, Channel.restWith]

/-- A stale slot holds the channel that tracks it, or rests it where the hold time is 0 (R26). -/
theorem channelEvent_staled {holdTime now : Nat} {c : Channel} (h : c.state = .tracking) :
    (holdTime ≠ 0 → (channelEvent holdTime now .staled c).state = .holding
      ∧ (channelEvent holdTime now .staled c).holdDue = some (now + holdTime))
    ∧ (holdTime = 0 → (channelEvent holdTime now .staled c).state = .resting
      ∧ (channelEvent holdTime now .staled c).rest = some .stale
      ∧ (channelEvent holdTime now .staled c).holdSpent = true) := by
  refine ⟨fun hhold => ?_, fun hhold => ?_⟩
  · simp [channelEvent, h, Channel.hold, hhold, Channel.goto]
  · simp [channelEvent, h, Channel.hold, hhold, Channel.endHold, Channel.restWith]

end Sys2Proof.Proofs

/-! Proofs. O44: a stale expiry, the notification of a slot, and the notification that a frame brings. -/

namespace Sys2Proof.Proofs

open Sys2Proof Sys2Proof.Machine Sys2Proof.Claims

/-! ## A stale expiry -/

/-- A timer that has been reached is taken in the state as it stands. -/
theorem onExpiry_due {due : Option Nat} {d : Nat} {s : State} (hdue : due = some d) (hnow : d ≤ s.now)
    (f : Nat → State → State) : onExpiry due f s = f d s := by
  subst hdue
  simp [onExpiry, reach, Nat.not_lt.mpr hnow]

/-- What the Telltale Unit and the Roster Unit make of a notification changes of the gauges no more than reports. -/
theorem toldKeeps_notifyConsumers (slot : Fin 64) (ev : SlotEvent) (s : State) :
    ToldKeeps (gaugeSlot slot ev s.slots[slot].value s) (notifyConsumers slot ev s) :=
  (toldKeeps_applyConditions (slotCondition slot s.slots[slot].value s.slots[slot].quality) _).trans
    (by simpa [notifyConsumers, telltaleSlot] using .of_eq (by simp) (by simp) (by simp) (by simp))

/-- A slot of the state becomes STALE. -/
def staledAt (slot : Fin 64) (s : State) : State := putSlot slot { s.slots[slot] with quality := .stale } s

theorem staledAt_value (slot : Fin 64) (s : State) : (staledAt slot s).slots[slot].value = s.slots[slot].value := by
  simp [staledAt, putSlot]

/-- What reports can reach is kept of the state in which the channels of the slot have been held. -/
theorem toldKeeps_staleSlot (slot : Fin 64) (s : State) :
    ToldKeeps (gaugeSlot slot .staled s.slots[slot].value (staledAt slot s)) (staleSlot slot s) := by
  have h := toldKeeps_notifyConsumers slot .staled (staledAt slot s)
  rwa [staledAt_value] at h

theorem kept_staleSlot (slot : Fin 64) (s : State) : Kept ([.slots, .roster] ++ told) s (staleSlot slot s) := by
  intro b hb
  cases b
  case slots | roster | monitor | telltale | chime | readout | service | gauges => exact absurd (by decide) hb
  all_goals simp [agree]

theorem awake_staleSlot {s : State} (h : sleepReady s = false) (slot : Fin 64) :
    sleepReady (staleSlot slot s) = false :=
  awake_of_parts h (by simp) (by simp)
    ((toldKeeps_staleSlot slot s).window.trans (by simp [staledAt])) (by simp)

/-- A channel after a slot of the state went STALE, before its reports are delivered. -/
theorem channelOf_staled (slot : Fin 64) (s : State) (g : Fin 6) :
    channelOf (gaugeSlot slot .staled s.slots[slot].value (staledAt slot s)) g
      = notifiedChannel (gaugeRecord s g) s.gauges.grace s.now slot .staled s.slots[slot].value (channelOf s g) := by
  rw [channelOf_gaugeSlot]
  rfl

theorem staleExpiry_effect {n : Fin 64} {d : Nat} {s : State} (hdue : cameDue (.staleExpiry n) d s) :
    exec (.staleExpiry n) s = .next (finish (staleSlot n (s.setReports []))) := by
  obtain ⟨htimer, hnow⟩ := hdue
  have hstale : staleDue (s.setReports []) n = some d := Option.some.inj htimer
  rw [exec_eq_complete _ (by simp), complete, effectOf]
  exact congrArg (fun t => Host.Outcome.next (finish t)) (onExpiry_due (s := s.setReports []) hstale hnow _)

/-- The first part of O44: a stale expiry changes the quality of its slot and holds its channels. -/
theorem staleExpiry_spec (n : Fin 64) (s : State) (d : Nat) (hdue : cameDue (.staleExpiry n) d s)
    (hawake : AwakeLaw s) : ∃ t, exec (.staleExpiry n) s = .next t
      ∧ t.slots = s.slots.set n { s.slots[n] with quality := .stale }
      ∧ Kept ([.slots, .roster] ++ told) s t
      ∧ (∀ g : Fin 6, (gaugeRecord s g).source = some n → (gaugeRecord s g).enabled = true →
          (channelOf s g).state = .tracking →
          ((gaugeRecord s g).holdTime ≠ 0 → (channelOf t g).state = .holding
            ∧ (channelOf t g).holdDue = some (s.now + (gaugeRecord s g).holdTime))
          ∧ ((gaugeRecord s g).holdTime = 0 → (channelOf t g).state = .resting
            ∧ (channelOf t g).rest = some .stale ∧ (channelOf t g).holdSpent = true))
      ∧ (∀ (g : Fin 6) (i : Fin 2), (gaugeRecord s g).source = some n →
          i.val < (gaugeRecord s g).bands.length →
          (channelOf t g).bands[i] = bandFreeze s.now (channelOf s g).bands[i]) := by
  have hawake' : sleepReady (staleSlot n (s.setReports [])) = false :=
    awake_staleSlot (s := s.setReports []) hawake n
  have hafter : ToldKeeps (gaugeSlot n .staled s.slots[n].value (staledAt n (s.setReports [])))
      (finish (staleSlot n (s.setReports []))) :=
    (toldKeeps_staleSlot n (s.setReports [])).trans (toldKeeps_finish hawake')
  have hstaled : ∀ g, channelOf (gaugeSlot n .staled s.slots[n].value (staledAt n (s.setReports []))) g
      = notifiedChannel (gaugeRecord s g) s.gauges.grace s.now n .staled s.slots[n].value (channelOf s g) :=
    channelOf_staled n (s.setReports [])
  refine ⟨_, staleExpiry_effect hdue, by simp [staleSlot, putSlot], ?_, fun g hsource henabled htracking => ?_,
    fun g i hsource hi => ?_⟩
  · exact Kept.trans (Kept.trans (kept_setReports _ s []) (kept_staleSlot n _))
      (Kept.mono (kept_finish hawake') (by decide))
  · obtain ⟨c, hc, hstate, hrest, hspent, hholdDue⟩ := notifiedChannel_state (gaugeRecord s g) s.gauges.grace s.now n
      .staled s.slots[n].value (channelOf s g)
    rw [if_pos ⟨hsource, henabled⟩] at hc
    obtain ⟨hheld, hrested⟩ := channelEvent_staled (holdTime := (gaugeRecord s g).holdTime) (now := s.now) htracking
    rw [← hc] at hheld hrested
    have hfree : c.state ≠ .overridden := by
      by_cases hhold : (gaugeRecord s g).holdTime = 0
      · simp [(hrested hhold).1]
      · simp [(hheld hhold).1]
    have hchannel := (hafter.channels g (by rwa [hstaled g, hstate])).trans (hstaled g)
    rw [hchannel]
    exact ⟨fun h => ⟨hstate.trans (hheld h).1, hholdDue.trans (hheld h).2⟩,
      fun h => ⟨hstate.trans (hrested h).1, hrest.trans (hrested h).2.1, hspent.trans (hrested h).2.2⟩⟩
  · have hbands := (hafter.bands g).trans (congrArg Channel.bands (hstaled g))
    have hband := notifiedChannel_bands (gaugeRecord s g) s.gauges.grace s.now n .staled s.slots[n].value
      (channelOf s g) i
    rw [if_pos hsource, notifiedBand, List.getElem?_eq_getElem hi] at hband
    rw [hbands]
    exact hband

/-! ## A notification -/

/-- A band on a value (R44, R45). -/
theorem bandArrival_spec (r : BandRecord) (now : Nat) (e : Int) (b : BandState) {set clear : Prop}
    (hset : set ↔ (r.direction = .high ∧ r.setLevel ≤ e ∨ r.direction = .low ∧ e ≤ r.setLevel))
    (hclear : clear ↔ (r.direction = .high ∧ e < r.clearLevel ∨ r.direction = .low ∧ r.clearLevel < e)) :
    (b = .inactive → (set → r.persistence = 0 → bandArrival r now e b = .active)
        ∧ (set → r.persistence ≠ 0 → bandArrival r now e b = .running now)
        ∧ (¬ set → bandArrival r now e b = .inactive))
    ∧ (∀ start, b = .running start → (set → bandArrival r now e b = .running start)
        ∧ (¬ set → bandArrival r now e b = .inactive))
    ∧ (∀ elapsed, b = .paused elapsed → (set → bandArrival r now e b = .running (now - elapsed))
        ∧ (¬ set → bandArrival r now e b = .inactive))
    ∧ (b = .active → (clear → bandArrival r now e b = .inactive) ∧ (¬ clear → bandArrival r now e b = .active)) := by
  have hset' : bandSet r e = true ↔ set := by
    rw [hset, bandSet]
    cases r.direction <;> simp
  have hclear' : bandClear r e = true ↔ clear := by
    rw [hclear, bandClear]
    cases r.direction <;> simp
  rw [← hset', ← hclear']
  refine ⟨fun hb => ?_, fun start hb => ?_, fun elapsed hb => ?_, fun hb => ?_⟩
  all_goals
    subst hb
    simp +contextual [bandArrival]

/-- A band where no value came (R45). -/
theorem bandFreeze_spec (now : Nat) (b : BandState) :
    (∀ start, b = .running start → bandFreeze now b = .paused (now - start))
      ∧ ((∀ start, b ≠ .running start) → bandFreeze now b = b) := by
  cases b <;> simp [bandFreeze]

/-- The standstill items after an event of the standstill slot (R26). -/
theorem standstillEvent_spec (threshold : Int) (now : Nat) (ev : SlotEvent) (e : Int) (c : Channel) :
    (ev = .value → e ≤ threshold → (standstillEvent threshold now ev e c).standMode = c.standMode
      ∧ (standstillEvent threshold now ev e c).standDue
        = if c.standDue = none ∧ c.standMode = false then some (now + 2000) else c.standDue)
    ∧ (ev ≠ .value ∨ threshold < e → (standstillEvent threshold now ev e c).standDue = none
      ∧ (standstillEvent threshold now ev e c).standMode = false) := by
  refine ⟨fun hev he => ?_, fun h => ?_⟩
  · subst hev
    simp only [standstillEvent, if_pos he, Option.isNone_iff_eq_none]
    split <;> simp [standstillMs]
  · cases ev with
    | value =>
      have he : ¬ e ≤ threshold := by simpa using h
      simp [standstillEvent, he]
    | absent | faulted | staled => simp [standstillEvent]

/-! ## The notification that a frame brings -/

theorem rankPasses_eq (rank : Rank) (x : Slot) : rankPasses rank x = true ↔ arrivalApplied rank x := by
  cases rank with
  | primary => simp [rankPasses, arrivalApplied]
  | backup =>
    simp only [rankPasses, writtenByPrimary, Bool.not_eq_true', Bool.and_eq_false_iff,
      decide_eq_false_iff_not, arrivalApplied, reduceCtorEq, false_or]
    cases x.writer <;> simp

/-- A field that is not short and passes the rank test writes its slot and notifies its consumers. -/
theorem treatDescriptor_applied {sender staleLimit : Nat} {payload : List Byte} {s : State} {d : Descriptor}
    (hshort : ¬ shortFor d payload.length) (happlied : arrivalApplied d.rank s.slots[d.target]) :
    treatDescriptor sender staleLimit payload s d
      = notifyConsumers d.target (arrivalEvent (interpretField d (extractField d payload)))
          (putSlot d.target (s.slots[d.target].apply (interpretField d (extractField d payload))
            { rank := d.rank, staleLimit := staleLimit, station := sender, time := s.now }) s) := by
  have hrank : rankPasses d.rank s.slots[d.target] = true := (rankPasses_eq _ _).mpr happlied
  simp only [treatDescriptor, isShort, hshort, decide_false, Bool.false_eq_true, if_false, hrank, if_true]

/-- A field that is not short and does not pass the rank test changes nothing (R14). -/
theorem treatDescriptor_refused {sender staleLimit : Nat} {payload : List Byte} {s : State} {d : Descriptor}
    (hshort : ¬ shortFor d payload.length) (hrefused : ¬ arrivalApplied d.rank s.slots[d.target]) :
    treatDescriptor sender staleLimit payload s d = s := by
  have hrank : rankPasses d.rank s.slots[d.target] = false :=
    Bool.eq_false_iff.mpr fun h => hrefused ((rankPasses_eq _ _).mp h)
  simp only [treatDescriptor, isShort, hshort, decide_false, Bool.false_eq_true, if_false, hrank]

/-- The third part of O44: a frame with one field brings the notification of that field. -/
theorem frame_notifies {f : Frame} {e : IntakeEntry} {d : Descriptor} {s : State} (htaken : takenBy f e s)
    (hsink : e.sink = .signals) (hone : e.descriptors = [d]) (hshort : ¬ shortFor d f.payload.length)
    (happlied : arrivalApplied d.rank s.slots[d.target]) (hforce : s.service.override.inForce = false) :
    ∃ t, exec (.frameReceived f) s = .next t
      ∧ t.gauges = (gaugeSlot d.target (arrivalEvent (interpretField d (extractField d f.payload)))
          t.slots[d.target].value s).gauges := by
  refine ⟨_, exec_takenBy htaken, ?_⟩
  have htreat : treatEntry (keySender f.key) f.payload (hearStation (keySender f.key) (lineHeard s)) e
      = treatDescriptor (keySender f.key) e.staleLimit f.payload (hearStation (keySender f.key) (lineHeard s)) d := by
    simp [treatEntry, hsink, hone]
  rw [htreat, treatDescriptor_applied hshort (by simpa using happlied)]
  generalize hu : putSlot d.target _ _ = u
  generalize arrivalEvent (interpretField d (extractField d f.payload)) = ev
  have htold := toldKeeps_notifyConsumers d.target ev u
  have hservice : u.service.override.inForce = false := by rw [← hu]; simpa using hforce
  have hquiet : (notifyConsumers d.target ev u).service.override.inForce = false := by
    refine Bool.eq_false_iff.mpr fun h => ?_
    have := htold.force h
    simp [hservice] at this
  rw [finish_gauges hquiet, htold.gauges (by simpa using hservice),
    gaugeSlot_gauges_congr (s := s) (by rw [← hu]; simp) (by rw [← hu]; simp) (by rw [← hu]; simp)]
  simp

/-- Settles O44: the stale expiry by its effect and what the delivery of reports keeps, the notification channel by
channel, and the frame as the notification of its one field. -/
theorem staleExpiryHoldsAndFreezes : Obligations.StaleExpiryHoldsAndFreezes := by
  unfold Obligations.StaleExpiryHoldsAndFreezes
  refine ⟨fun n s d hdue hawake => ?_, ?_, ?_⟩
  · obtain ⟨t, hexec, hslots, hkept, hholds, hbands⟩ := staleExpiry_spec n s d hdue hawake
    refine ⟨t, hexec, hslots, hkept, hholds, fun g i hsource hi => ?_⟩
    rw [hbands g i hsource hi]
    cases (channelOf s g).bands[i] <;> rfl
  · intro n ev e g s t ht
    have hchannel : channelOf t g = notifiedChannel (gaugeRecord s g) s.gauges.grace s.now n ev e (channelOf s g) := by
      rw [ht, channelOf_gaugeSlot]
    have hband : ∀ i : Fin 2, (channelOf t g).bands[i] = if (gaugeRecord s g).source = some n then
        notifiedBand (gaugeRecord s g) s.now ev e i (channelOf s g).bands[i] else (channelOf s g).bands[i] := by
      intro i
      rw [hchannel, notifiedChannel_bands]
    obtain ⟨hposition, hdamped⟩ := notifiedChannel_position_damped (gaugeRecord s g) s.gauges.grace s.now n ev e
      (channelOf s g)
    obtain ⟨c, hc, hstate, hrest, hspent, hholdDue⟩ := notifiedChannel_state (gaugeRecord s g) s.gauges.grace s.now n ev e
      (channelOf s g)
    obtain ⟨hdrives, hstands⟩ := notifiedChannel_standstill (gaugeRecord s g) s.gauges.grace s.now n ev e
      (channelOf s g)
    rw [← hchannel] at hposition hdamped hstate hrest hspent hholdDue hdrives hstands
    refine ⟨hposition, hdamped, fun hno => ?_, fun hsource henabled => ?_, fun i hno => ?_,
      fun i r hsource hr hev => ?_, fun i r hsource hr hev set clear hset hclear => ?_, fun hno => hstands ?_,
      fun st hst hslot hdrive => ?_⟩
    · rw [if_neg (fun h => hno.elim (fun k => k h.1) (fun k => by simp [h.2] at k))] at hc
      subst hc
      exact ⟨⟨hstate, hrest⟩, hspent, hholdDue⟩
    · rw [if_pos ⟨hsource, henabled⟩] at hc
      simp only [channelIn, hstate, hspent, hholdDue, hrest, hc]
      exact channelEvent_states _ _ _ _
    · rw [hband i]
      split
      · next hsource =>
        have hlength := hno.resolve_left (fun k => k hsource)
        rw [notifiedBand, List.getElem?_eq_none hlength]
      · rfl
    · rw [hband i, if_pos hsource, notifiedBand, hr]
      simp only [if_neg hev]
      exact bandFreeze_spec _ _
    · rw [hband i, if_pos hsource, notifiedBand, hr]
      simp only [if_pos hev]
      exact bandArrival_spec r s.now e _ hset hclear
    · rintro st hst ⟨hslot, hdrive⟩
      obtain hne | ⟨hdisabled, hsource⟩ := hno st hst
      · exact hne hslot
      · exact hdrive.elim (fun k => by simp [hdisabled] at k) (fun k => k hsource)
    · obtain ⟨hdue, hmode⟩ := hdrives st hst ⟨hslot, hdrive⟩
      rw [hdue, hmode]
      exact standstillEvent_spec _ _ _ _ _
  · intro f e d s htaken _ hsink hone hshort happlied hforce
    obtain ⟨t, hexec, hgauges⟩ := frame_notifies htaken hsink hone hshort happlied hforce
    refine ⟨t, hexec, hgauges.trans ?_⟩
    cases interpretField d (extractField d f.payload) <;> rfl

end Sys2Proof.Proofs

/-! Proofs. A request of another station: how it reaches the Service Responder, and what placing the reply does. -/

namespace Sys2Proof.Proofs

open Sys2Proof Sys2Proof.Machine Sys2Proof.Claims

/-! ## Keys -/

theorem makeKey_parts (urgency : Nat) {topic sender : Nat} (htopic : topic < 128) (hsender : sender < 64) :
    keyTopic (makeKey urgency topic sender) = topic ∧ keySender (makeKey urgency topic sender) = sender := by
  simp only [keySender, keyTopic, makeKey, BitVec.toNat_ofNat]
  omega

/-! ## Hearing a station -/

theorem putEntries_roster (new : List RosterEntry) (s : State) :
    (putEntries new s).roster = { s.roster with entries := new } := by simp [putEntries]

/-- What a part makes of its roster on hearing a station depends on roster and time alone. -/
theorem hearStation_roster_congr {s t : State} (hnow : t.now = s.now) (hroster : t.roster = s.roster) (station : Nat) :
    (hearStation station t).roster = (hearStation station s).roster := by
  simp only [hearStation, hroster, hnow]
  split
  · rw [putEntries_roster, putEntries_roster, hroster]
  · rfl

/-! ## The way of a request -/

/-- The state in which the Service Responder takes a request. -/
def requestHeard (sender : Nat) (s : State) : State := hearStation sender (lineHeard s)

section
variable (sender : Nat) (s : State)

@[simp] theorem requestHeard_frame :
    (requestHeard sender s).now = s.now ∧ (requestHeard sender s).tables = s.tables ∧
    (requestHeard sender s).control = s.control ∧ (requestHeard sender s).slots = s.slots ∧
    (requestHeard sender s).gauges = s.gauges ∧ (requestHeard sender s).telltale = s.telltale ∧
    (requestHeard sender s).chime = s.chime ∧ (requestHeard sender s).readout = s.readout ∧
    (requestHeard sender s).driver = s.driver ∧ (requestHeard sender s).distance = s.distance ∧
    (requestHeard sender s).store = s.store ∧ (requestHeard sender s).monitor = s.monitor ∧
    (requestHeard sender s).service = s.service ∧ (requestHeard sender s).scan = s.scan ∧
    (requestHeard sender s).pending = s.pending := by
  simp [requestHeard]

theorem requestHeard_line : (requestHeard sender s).line = lineAfterFrame (acknowledges s) s := by
  simp [requestHeard, lineHeard_line]

theorem requestHeard_roster : (requestHeard sender s).roster = (hearStation sender s).roster :=
  hearStation_roster_congr (by simp) (by simp) sender

theorem requestHeard_reports (h : presentAlready sender s) : (requestHeard sender s).reports = [] := by
  rw [requestHeard, hearStation_reports (by simpa [presentAlready] using h)]
  simp

theorem requestHeard_lineState : (requestHeard sender s).line.state = s.line.state
    ∧ (requestHeard sender s).line.quiet = false ∧ (requestHeard sender s).line.queue = s.line.queue
    ∧ (requestHeard sender s).line.lastOrder = s.line.lastOrder := by
  rw [requestHeard_line]
  simp only [lineAfterFrame]
  split <;> simp

/-- No frame makes the peers quiet. -/
theorem peersQuiet_lineAfterFrame {a : Bool} (h : (lineAfterFrame a s).peersQuiet = true) : s.line.peersQuiet = true := by
  simp only [lineAfterFrame] at h
  split at h
  · exact h
  · cases h

theorem kept_requestHeard : Kept [.line, .roster] s (requestHeard sender s) := by
  intro b hb
  cases b
  case line | roster => exact absurd (by decide) hb
  all_goals simp [agree]

end

/-- A request that no entry of the intake map takes reaches the Service Responder once its sender has been heard. -/
theorem receiveRequest_eq {sender : BitVec 6} {s : State} (hhears : hears sender.toNat s)
    (hintake : noIntake 126 sender.toNat s) (htables : TablesLaw s) (code : Byte) (args : List Byte) :
    receiveRequest sender code args (s.setReports [])
      = takeRequest sender.toNat (requestPayload s code args) (requestHeard sender.toNat s) := by
  obtain ⟨htopic, hsender⟩ := makeKey_parts 6 (topic := 126) (by decide) sender.isLt
  have hown : (BitVec.ofNat 8 s.tables.ownStation).toNat = s.tables.ownStation := by
    have := htables.1
    simp only [BitVec.toNat_ofNat]
    omega
  have haddressed : addressedTo s.tables.ownStation (requestPayload s code args) = true := by
    simp [addressedTo, requestPayload, hown]
  have hdata : takeData 126 sender.toNat (requestPayload s code args) (requestHeard sender.toNat s)
      = requestHeard sender.toNat s := by
    have hnone : (requestHeard sender.toNat s).tables.intake.filter (entryMatches 126 sender.toNat) = [] := by
      simpa using hintake
    rw [takeData, hnone, List.foldl_nil]
  have hpayload : requestPayload (s.setReports []) code args = requestPayload s code args := rfl
  rw [receiveRequest, receiveGood, receive_goodFrame (by rwa [hsender]), hsender, htopic, hpayload]
  simp only [requestHeard] at hdata ⊢
  simp [deliverFrame, deliverSystem, hdata, deliverRequest, haddressed]

/-- A request command is the reception of a frame with its code and arguments. -/
theorem request_exec {c : Instr} {sender : BitVec 6} (h : requestSender c = some sender) :
    ∃ (code : Byte) (args : List Byte), ∀ s, exec c s = complete (receiveRequest sender code args) s := by
  cases c
  case readState sender' args | readSlot sender' args | readRoster sender' args | readHealth sender' args
      | clearHealth sender' args | readDistance sender' args | testOverride sender' args | endOverride sender' args
      | ackErrorIndication sender' args | unknownRequest sender' code args =>
    cases h
    exact ⟨_, args, fun _ => rfl⟩
  all_goals cases h

theorem exec_request {c : Instr} {sender : BitVec 6} {code : Byte} {args : List Byte} {s : State}
    (hexec : exec c s = complete (receiveRequest sender code args) s) (hhears : hears sender.toNat s)
    (hintake : noIntake 126 sender.toNat s) (htables : TablesLaw s) :
    exec c s = .next (finish (takeRequest sender.toNat (requestPayload s code args) (requestHeard sender.toNat s))) := by
  rw [hexec, complete, receiveRequest_eq hhears hintake htables]

/-! ## Readings -/

/-- A reading reads the same of two states that agree in what the readings show. -/
theorem readings_congr {s t : State} (hnow : t.now = s.now) (htables : t.tables = s.tables)
    (hcontrol : t.control = s.control) (hline : t.line.state = s.line.state) (hslots : t.slots = s.slots)
    (hgauges : t.gauges = s.gauges) (hdriver : t.driver = s.driver) (hdistance : t.distance = s.distance)
    (hstore : t.store = s.store) (hroster : t.roster = s.roster) (hmonitor : t.monitor = s.monitor)
    (hservice : t.service = s.service) (args : List Byte) :
    replyReadState args t = replyReadState args s ∧ replyReadSlot args t = replyReadSlot args s
      ∧ replyReadRoster args t = replyReadRoster args s ∧ replyReadHealth args t = replyReadHealth args s
      ∧ replyReadDistance args t = replyReadDistance args s := by
  simp only [replyReadState, stateReading, partReading, replyReadSlot, replyReadRoster, rosterReading,
    replyReadHealth, healthReading, replyReadDistance, distanceReading, hnow, htables, hcontrol, hline, hslots, hgauges,
    hdriver, hdistance, hstore, hroster, hmonitor, hservice, and_self]

/-- The frame that brings a reading changes nothing that the reading shows, but that its sender was heard. -/
theorem readings_requestHeard (sender : Nat) (s : State) (args : List Byte) :
    replyReadState args (requestHeard sender s) = replyReadState args (hearStation sender s)
      ∧ replyReadSlot args (requestHeard sender s) = replyReadSlot args (hearStation sender s)
      ∧ replyReadRoster args (requestHeard sender s) = replyReadRoster args (hearStation sender s)
      ∧ replyReadHealth args (requestHeard sender s) = replyReadHealth args (hearStation sender s)
      ∧ replyReadDistance args (requestHeard sender s) = replyReadDistance args (hearStation sender s) :=
  readings_congr (by simp) (by simp) (by simp) (by simp [(requestHeard_lineState sender s).1]) (by simp) (by simp)
    (by simp) (by simp) (by simp) (requestHeard_roster _ _) (by simp) (by simp) args

/-- A reading command is the reception of a request whose execution gives the reply and changes nothing. -/
theorem reading_exec {c : Instr} {sender : BitVec 6} {code : Nat} {r : Reply} {s : State}
    (h : readingOf c (hearStation sender.toNat s) = some (sender, code, r)) :
    ∃ (b : Byte) (args : List Byte), b.toNat = code
      ∧ exec c s = complete (receiveRequest sender b args) s
      ∧ executeRequest code args (requestHeard sender.toNat s) = (r, requestHeard sender.toNat s) := by
  have hreads := readings_requestHeard sender.toNat s
  cases c
  case readState sender' args | readSlot sender' args | readRoster sender' args | readHealth sender' args
      | readDistance sender' args =>
    simp only [readingOf, Option.some.injEq, Prod.mk.injEq] at h
    obtain ⟨rfl, rfl, rfl⟩ := h
    refine ⟨BitVec.ofNat 8 _, args, rfl, rfl, ?_⟩
    simp [executeRequest, hreads args]
  case unknownRequest sender' b args =>
    simp only [readingOf] at h
    split at h
    · cases h
    · next hunknown =>
      simp only [Option.some.injEq, Prod.mk.injEq] at h
      obtain ⟨rfl, rfl, rfl⟩ := h
      refine ⟨b, args, rfl, rfl, ?_⟩
      have hcode : ¬ (1 ≤ b.toNat ∧ b.toNat ≤ 9) := by simpa [knownRequest] using hunknown
      simp [executeRequest, show b.toNat ≠ 1 by omega, show b.toNat ≠ 2 by omega, show b.toNat ≠ 3 by omega,
        show b.toNat ≠ 4 by omega, show b.toNat ≠ 5 by omega, show b.toNat ≠ 6 by omega, show b.toNat ≠ 7 by omega,
        show b.toNat ≠ 8 by omega, show b.toNat ≠ 9 by omega]
  all_goals cases h

/-! ## The reply -/

/-- The mailbox that becomes EMPTY again is as it was. -/
theorem mailbox_emptied {s : State} (hempty : s.service.pendingReply = false) :
    (s.setService { s.service with pendingReply := true }).setService { s.service with pendingReply := false } = s := by
  rw [← hempty]
  rfl

/-- In LISTEN-ONLY a reply is discarded (R147, R168). -/
theorem placeReply_listenOnly {requester code : Nat} {r : Reply} {s : State} (hline : s.line.state = .listenOnly)
    (hempty : s.service.pendingReply = false) : placeReply requester code r s = s := by
  simp [placeReply, placeFrame, hline, reportLeaving, mailbox_emptied hempty]

/-- Where the queue has room and the line is not quiet, the reply waits at its end (R150). -/
theorem placeReply_room {requester code : Nat} {r : Reply} {s : State} (hline : s.line.state ≠ .listenOnly)
    (hroom : s.line.queue.length < 8) (hquiet : s.line.quiet = false) :
    placeReply requester code r s = (s.setService { s.service with pendingReply := true }).setLine { s.line with
      lastOrder := s.line.lastOrder + 1
      queue := s.line.queue ++ [waitingEntry s .serviceReply (replyPayload requester code r.code r.data)
        (s.line.lastOrder + 1)] } := by
  simp [placeReply, placeFrame, hline, TxKind.periodic, hroom, tryTransmit, hquiet, waitingEntry]

/-- At a full queue the reply is dropped and counts toward H9 (R151). -/
theorem placeReply_full {requester code : Nat} {r : Reply} {s : State} (hline : s.line.state ≠ .listenOnly)
    (hfull : 8 ≤ s.line.queue.length) (hempty : s.service.pendingReply = false) :
    placeReply requester code r s = count 9 s := by
  simp [placeReply, placeFrame, hline, TxKind.periodic, Nat.not_lt.mpr hfull, reportLeaving, mailbox_emptied hempty]

/-- A reading is taken once its sender has been heard. -/
theorem exec_reading {c : Instr} {sender : BitVec 6} {code : Nat} {r : Reply} {s : State}
    (h : readingOf c (hearStation sender.toNat s) = some (sender, code, r)) (htaken : requestTaken sender s)
    (htables : TablesLaw s) :
    exec c s = .next (finish (placeReply sender.toNat code r (requestHeard sender.toNat s))) := by
  obtain ⟨hhears, hintake, hempty⟩ := htaken
  obtain ⟨b, args, rfl, hexec, hreply⟩ := reading_exec h
  rw [exec_request hexec hhears hintake htables]
  simp [takeRequest, hempty, requestPayload, hreply]

theorem kept_setService_setLine {changed : List Block} (s : State) (x : Service) (y : Line)
    (hservice : .service ∈ changed) (hline : .line ∈ changed) :
    Kept changed s ((s.setService x).setLine y) := by
  intro b hb
  cases b
  case line => exact absurd hline hb
  case service => exact absurd hservice hb
  all_goals simp [agree]

theorem kept_count {changed : List Block} (h : Fin 10) (s : State) (hmonitor : .monitor ∈ changed) :
    Kept changed s (count h s) := by
  intro b hb
  cases b
  case monitor => exact absurd hmonitor hb
  all_goals simp [agree]

/-- What an answer is before the end of the command. -/
theorem answered_placed {sender : BitVec 6} {code : Nat} {r : Reply} {s : State}
    (hempty : s.service.pendingReply = false) :
    answered sender code r s.monitor[(9 : Fin 10)].raw s (placeReply sender.toNat code r (requestHeard sender.toNat s))
      ∧ Kept ([.line, .roster] ++ told) s (placeReply sender.toNat code r (requestHeard sender.toNat s))
      ∧ ((placeReply sender.toNat code r (requestHeard sender.toNat s)).line.peersQuiet = true →
          s.line.peersQuiet = true)
      ∧ (presentAlready sender.toNat s → replyTaken s →
          (placeReply sender.toNat code r (requestHeard sender.toNat s)).reports = []
          ∧ (placeReply sender.toNat code r (requestHeard sender.toNat s)).service
            = { s.service with pendingReply := decide (s.line.state ≠ .listenOnly) }
          ∧ Kept [.line, .roster, .service] s (placeReply sender.toNat code r (requestHeard sender.toNat s))) := by
  obtain ⟨hstate, hquiet, hqueue, horder⟩ := requestHeard_lineState sender.toNat s
  have hheard := kept_requestHeard sender.toNat s
  have hempty' : (requestHeard sender.toNat s).service.pendingReply = false := by simpa using hempty
  by_cases hlisten : s.line.state = .listenOnly
  · have hack : acknowledges s = false := by simp [acknowledges, hlisten]
    rw [placeReply_listenOnly (hstate.trans hlisten) hempty']
    refine ⟨⟨requestHeard_roster _ _, fun _ => ⟨by rw [requestHeard_line, hack], hempty'⟩, fun h => absurd hlisten h,
      fun h => absurd hlisten h⟩, Kept.mono hheard (by decide), ?_, fun hpresent _ => ⟨requestHeard_reports _ _ hpresent,
      ?_, Kept.mono hheard (by decide)⟩⟩
    · rw [requestHeard_line]
      exact peersQuiet_lineAfterFrame s
    · simp [hlisten, ← hempty]
  have hack : acknowledges s = true := by
    unfold acknowledges
    split <;> simp_all
  by_cases hroom : s.line.queue.length < 8
  · rw [placeReply_room (by rwa [hstate]) (by rwa [hqueue]) hquiet]
    refine ⟨⟨requestHeard_roster _ _, fun h => absurd h hlisten, fun _ _ => ⟨rfl, ?_⟩, fun _ h => absurd h (by omega)⟩,
      ?_, ?_, fun hpresent _ => ⟨requestHeard_reports _ _ hpresent, ?_, ?_⟩⟩
    · rw [requestHeard_line, hack] at hqueue horder
      simp [requestHeard_line, hack, hqueue, horder, waitingEntry]
    · exact Kept.trans (Kept.mono hheard (by decide)) (kept_setService_setLine _ _ _ (by decide) (by decide))
    · simpa [requestHeard_line] using peersQuiet_lineAfterFrame s
    · simp [hlisten]
    · exact Kept.trans (Kept.mono hheard (by decide)) (kept_setService_setLine _ _ _ (by decide) (by decide))
  · rw [placeReply_full (by rwa [hstate]) (by rw [hqueue]; omega) hempty']
    refine ⟨⟨by simp [requestHeard_roster], fun h => absurd h hlisten, fun _ h => absurd h hroom,
      fun _ _ => ⟨by simpa using hempty, by simp [requestHeard_line, hack], ?_⟩⟩, ?_, ?_,
      fun _ htaken => absurd htaken (by simp [replyTaken, hlisten, hroom])⟩
    · rw [count_monitor_raw]
      simp
    · exact Kept.trans (Kept.mono hheard (by decide)) (kept_count 9 _ (by decide))
    · simpa [requestHeard_line] using peersQuiet_lineAfterFrame s

/-- The first part of O39: a reading is answered with the state as it stands once its sender has been heard. -/
theorem reading_answered {c : Instr} {sender : BitVec 6} {code : Nat} {r : Reply} {s : State}
    (h : readingOf c (hearStation sender.toNat s) = some (sender, code, r)) (htaken : requestTaken sender s)
    (htables : TablesLaw s) (hawake : AwakeLaw s) :
    ∃ t, exec c s = .next t ∧ answered sender code r s.monitor[(9 : Fin 10)].raw s t
       ∧ Kept ([.line, .roster] ++ told) s t
       ∧ (presentAlready sender.toNat s → replyTaken s →
           Kept [.line, .roster, .service] s t
           ∧ t.service = { s.service with pendingReply := decide (s.line.state ≠ .listenOnly) }) := by
  refine ⟨_, exec_reading h htaken htables, ?_⟩
  obtain ⟨hanswered, hkept, hpeers, hidle⟩ := answered_placed (code := code) (r := r) htaken.2.2
  have hparts : ∀ t, Kept ([.line, .roster] ++ told) s t → (t.line.peersQuiet = true → s.line.peersQuiet = true) →
      t.readout.windowDue = s.readout.windowDue → sleepReady t = false := fun t hkept hpeers hwindow =>
    awake_of_parts hawake (hkept .control (by decide)) (hkept .store (by decide)) hwindow hpeers
  have hawake' := hparts _ hkept hpeers (by simp [placeReply])
  obtain ⟨hroster, hlisten, hroom, hfull⟩ := hanswered
  obtain ⟨-, hline, hroster'⟩ := finish_awake_frame hawake'
  have htold := toldKeeps_finish hawake'
  refine ⟨⟨hroster'.trans hroster, fun k => ?_, fun k l => ?_, fun k l => ?_⟩, Kept.trans hkept
    (Kept.mono (kept_finish hawake') (by decide)), fun hpresent hplace => ?_⟩
  · exact ⟨hline.trans (hlisten k).1, htold.mailbox.trans (hlisten k).2⟩
  · exact ⟨htold.mailbox.trans (hroom k l).1, hline.trans (hroom k l).2⟩
  · obtain ⟨hmailbox, hline', hdrop⟩ := hfull k l
    exact ⟨htold.mailbox.trans hmailbox, hline.trans hline', htold.drops _ (by simp only [oneMore]; omega) hdrop⟩
  · obtain ⟨hreports, hservice, hkept'⟩ := hidle hpresent hplace
    rw [finish_idle hreports hawake']
    exact ⟨Kept.trans hkept' (kept_refreshScreen _ _), by simpa using hservice⟩

end Sys2Proof.Proofs

/-! Proofs. O39: a request at a PENDING mailbox is a drop, and a drop ends no override that no RED demand watches. -/

namespace Sys2Proof.Proofs

open Sys2Proof Sys2Proof.Machine Sys2Proof.Claims

/-! ## The reports of a drop -/

/-- The conditions that hearing a station and a drop can report. -/
def dropSource (src : Source) : Prop := src = .health 9 ∨ ∃ n, src = .station n

/-- Only such conditions wait to be delivered. -/
def onlyDrops (s : State) : Prop := ∀ r ∈ s.reports, dropSource r.source

/-- No RED demand stands on such a condition. -/
def redUnnamed (lamps : List Lamp) : Prop :=
  ∀ l ∈ lamps, l.cls = .red → ∀ x ∈ l.demands,
    x.record.source ≠ .health none ∧ x.record.source ≠ .health (some 9) ∧ ∀ n, x.record.source ≠ .station n

theorem onlyDrops_tellSource {src : Source} {on : Bool} {s : State} (hsrc : dropSource src) (h : onlyDrops s) :
    onlyDrops (tellSource src on s) := by
  intro r hr
  have hr' : r ∈ s.reports ++ [{ source := src, on := on }] := by simpa [tellSource] using hr
  rcases List.mem_append.mp hr' with hr | hr
  · exact h r hr
  · rw [List.mem_singleton.mp hr]
    exact hsrc

theorem onlyDrops_count {s : State} (h : onlyDrops s) : onlyDrops (count 9 s) := by
  simp only [count]
  split
  · exact h
  · exact onlyDrops_tellSource (.inl rfl) h

theorem onlyDrops_tellEntries (i : Nat) (old new : List RosterEntry) {s : State} (h : onlyDrops s) :
    onlyDrops (tellEntries i old new s) := by
  induction old generalizing i new s with
  | nil => exact h
  | cons e es ih =>
    cases new with
    | nil => exact h
    | cons e' es' =>
      rw [tellEntries]
      apply ih
      split
      · exact h
      · exact onlyDrops_tellSource (.inr ⟨i, rfl⟩) h

theorem onlyDrops_requestHeard (sender : Nat) (s : State) : onlyDrops (requestHeard sender s) := by
  have hnone : onlyDrops (lineHeard s) := by simp [onlyDrops]
  unfold requestHeard hearStation
  split
  · exact onlyDrops_tellEntries _ _ _ hnone
  · exact hnone

/-- What a drop, a change of the chime list and a change of the readout keep, an announcement keeps. -/
theorem announce_inv (P : State → Prop) (hdrop : ∀ t, P t → P (count 9 t))
    (hchime : ∀ t x, P t → P (t.setChime x)) (hreadout : ∀ t x, P t → P (t.setReadout x)) (c : DemandChange) (s : State) (hs : P s) : P (announce c s) := by
  have hpostChime : ∀ id g t, P t → P (postChime id g t) := by
    intro id g t ht
    simp only [postChime]
    repeat' split
    · exact ht
    · exact hchime _ _ ht
    · exact hchime _ _ ht
    · exact hdrop _ ht
    · exact hdrop _ (hchime _ _ ht)
    · exact hdrop _ ht
    · exact hdrop _ (hchime _ _ ht)
  have hpostPopup : ∀ m g b t, P t → P (postPopup m g b t) := by
    intro m g b t ht
    simp only [postPopup]
    repeat' split
    · exact hreadout _ _ ht
    · exact hreadout _ _ ht
    · exact hdrop _ ht
    · exact hdrop _ (hreadout _ _ ht)
    · exact hdrop _ ht
    · exact hdrop _ (hreadout _ _ ht)
  have hleaveChime : ∀ id t, P t → P (leaveChime id t) := by
    intro id t ht
    unfold leaveChime
    split
    · exact hchime _ _ ht
    · exact ht
  have hcleared : ∀ m t, P t → P (causeCleared m t) := by
    intro m t ht
    unfold causeCleared
    split
    · exact hreadout _ _ ht
    · exact ht
  have hpost : ∀ output cls index r t, P t → P (postDemand output cls index r t) := by
    intro output cls index r t ht
    unfold postDemand
    split <;> split
    · exact hpostPopup _ _ _ _ (hpostChime _ _ _ ht)
    · exact hpostChime _ _ _ ht
    · exact hpostPopup _ _ _ _ ht
    · exact ht
  have hleave : ∀ output index r t, P t → P (leaveDemand output index r t) := by
    intro output index r t ht
    have hquiet : P (if r.chime.isSome then leaveChime (.demand output index) t else t) := by
      split
      · exact hleaveChime _ _ ht
      · exact ht
    simp only [leaveDemand]
    generalize (if r.chime.isSome then leaveChime (.demand output index) t else t) = u at hquiet ⊢
    split
    · split
      · exact hquiet
      · exact hcleared _ _ hquiet
    · exact hquiet
  unfold announce
  repeat' split
  · exact hpost _ _ _ _ _ hs
  · exact hs
  · exact hleave _ _ _ _ hs

/-! ## Conditions that no RED demand stands on -/

theorem sourceCondition_unnamed {src : Source} {d : Demand} (hsrc : dropSource src)
    (hd : d.record.source ≠ .health none ∧ d.record.source ≠ .health (some 9) ∧ ∀ n, d.record.source ≠ .station n)
    (on any : Bool) : sourceCondition src on any d = d.condition := by
  obtain ⟨hany, hnine, hstation⟩ := hd
  cases hsource : d.record.source with
  | slotTest | band | gaugeFault | driverTime =>
    rcases hsrc with rfl | ⟨n, rfl⟩ <;> simp [sourceCondition, hsource]
  | station n => exact absurd hsource (hstation n)
  | health h =>
    cases h with
    | none => exact absurd hsource hany
    | some h =>
      have hh : h ≠ 9 := fun e => hnine (by rw [hsource, e])
      rcases hsrc with rfl | ⟨n, rfl⟩ <;> simp [sourceCondition, hsource, hh]

theorem Demand.update_same (evaluating proving : Bool) (d : Demand) : d.update evaluating proving d.condition = d := by
  simp [Demand.update]

/-- A lamp whose demands keep their conditions keeps its demands. -/
theorem withConditions_same {evaluating proving : Bool} {f : Demand → Bool} {l : Lamp}
    (h : ∀ d ∈ l.demands, f d = d.condition) : l.withConditions evaluating proving f = l := by
  have hmap : l.demands.map (fun d => d.update evaluating proving (f d)) = l.demands := by
    conv_rhs => rw [← List.map_id l.demands]
    exact List.map_congr_left fun d hd => by rw [h d hd, Demand.update_same]; rfl
  rw [Lamp.withConditions, hmap]

@[simp] theorem follow_cls_demands (now : Nat) (l : Lamp) :
    (l.follow now).cls = l.cls ∧ (l.follow now).demands = l.demands := by
  unfold Lamp.follow
  split <;> simp [Lamp.drive]

theorem demandChanges_same (l : Lamp) (i : Nat) (ds : List Demand) : demandChanges l i ds ds = [] := by
  induction ds generalizing i with
  | nil => rfl
  | cons d ds ih => simp [demandChanges, ih]

theorem demandChanges_cls (l : Lamp) (i : Nat) (ds es : List Demand) :
    ∀ c ∈ demandChanges l i ds es, c.cls = l.cls := by
  induction ds generalizing i es with
  | nil => simp [demandChanges]
  | cons d ds ih =>
    cases es with
    | nil => simp [demandChanges]
    | cons e es =>
      simp only [demandChanges]
      split
      · simpa using ih (i + 1) es
      · split
        · simpa using ih (i + 1) es
        · exact ih (i + 1) es

/-- Where the RED lamps keep their demands, no RED demand enters ACTIVE. -/
theorem no_redEntry {g : Lamp → Lamp} {lamps : List Lamp} (h : ∀ l ∈ lamps, l.cls = .red → g l = l) :
    ∀ c ∈ lampChanges lamps (lamps.map g), c.redEntry = false := by
  induction lamps with
  | nil => simp [lampChanges]
  | cons l ls ih =>
    intro c hc
    rw [List.map_cons, lampChanges, List.mem_append] at hc
    rcases hc with hc | hc
    · have hcls := demandChanges_cls _ _ _ _ c hc
      by_cases hred : l.cls = .red
      · rw [h l (by simp) hred, demandChanges_same] at hc
        cases hc
      · simp [DemandChange.redEntry, hcls, hred]
    · exact ih (fun m hm => h m (by simp [hm])) c hc

/-- Where the RED lamps keep their demands, whether one is ACTIVE is as before. -/
theorem classActive_red_map {g : Lamp → Lamp} {lamps : List Lamp} (hcls : ∀ l, (g l).cls = l.cls)
    (h : ∀ l ∈ lamps, l.cls = .red → (g l).demands = l.demands) :
    classActive .red (lamps.map g) = classActive .red lamps := by
  induction lamps with
  | nil => rfl
  | cons l ls ih =>
    have ih' := ih fun m hm => h m (by simp [hm])
    have hl : ((g l).cls == .red && (g l).demands.any (fun d => d.state == .active))
        = (l.cls == .red && l.demands.any (fun d => d.state == .active)) := by
      rw [hcls]
      by_cases hred : l.cls = .red
      · rw [h l (by simp) hred]
      · rw [beq_false_of_ne hred, Bool.false_and, Bool.false_and]
    exact congrArg₂ (· || ·) hl ih'

/-! ## The override through the delivery -/

/-- What keeps the override through the delivery of reports: only reports of a drop wait, no RED demand stands on
one, and the RED flag follows the demands. -/
structure OverrideSafe (s : State) : Prop where
  drops : onlyDrops s
  unnamed : redUnnamed s.telltale.lamps
  flag : s.telltale.red = classActive .red s.telltale.lamps

theorem overrideSafe_applyConditions {f : Demand → Bool} {s : State} (h : OverrideSafe s)
    (hf : ∀ l ∈ s.telltale.lamps, l.cls = .red → ∀ d ∈ l.demands, f d = d.condition) :
    OverrideSafe (applyConditions f s) ∧ (applyConditions f s).service = s.service := by
  obtain ⟨hdrops, hunnamed, hflag⟩ := h
  simp only [applyConditions]
  generalize hg : Lamp.withConditions s.telltale.evaluating s.telltale.provingDue.isSome f = g
  have hsame : ∀ l ∈ s.telltale.lamps, l.cls = .red → g l = l := by
    intro l hl hred
    rw [← hg]
    exact withConditions_same (hf l hl hred)
  have hcls : ∀ l, (g l).cls = l.cls := by
    intro l
    rw [← hg]
    rfl
  have hnone := no_redEntry hsame
  generalize lampChanges s.telltale.lamps (s.telltale.lamps.map g) = changes at hnone ⊢
  have hany : changes.any DemandChange.redEntry = false := by simpa using hnone
  rw [hany]
  simp only [Bool.false_eq_true, if_false, List.map_map]
  have hactive := classActive_red_map (g := Lamp.follow s.now ∘ g) (lamps := s.telltale.lamps)
    (fun l => by simp [hcls]) (fun l hl hred => by simp [hsame l hl hred])
  have hunnamed' : redUnnamed (s.telltale.lamps.map (Lamp.follow s.now ∘ g)) := by
    intro l' hl' hred
    obtain ⟨l, hl, rfl⟩ := List.mem_map.mp hl'
    have hred' : l.cls = .red := by simpa [hcls] using hred
    simpa [hsame l hl hred'] using hunnamed l hl hred'
  generalize s.telltale.lamps.map (Lamp.follow s.now ∘ g) = lamps at hactive hunnamed' ⊢
  have hreds : ∀ u : State, changes.foldl (fun t c => reportRed c t) u = u := by
    intro u
    clear hany
    induction changes with
    | nil => rfl
    | cons c cs ih =>
      rw [List.foldl_cons, reportRed, hnone c (by simp)]
      exact ih fun c' hc' => hnone c' (by simp [hc'])
  rw [hreds]
  refine foldl_inv (fun u => OverrideSafe u ∧ u.service = s.service) _ (fun u c hu => ?_) changes _ ?_
  · obtain ⟨⟨hdrops, hunnamed, hflag⟩, hservice⟩ := hu
    exact ⟨⟨announce_inv onlyDrops (fun _ => onlyDrops_count) (fun _ _ => id) (fun _ _ => id) c u hdrops,
      by simpa using hunnamed, by simpa using hflag⟩, by simpa using hservice⟩
  · simp only [updateFlags, State.setTelltale_telltale, hactive, ← hflag, if_true]
    exact ⟨⟨hdrops, hunnamed', by simp [hactive, hflag]⟩, rfl⟩

theorem overrideSafe_settle (n : Nat) {s : State} (h : OverrideSafe s) :
    (settle n s).service = s.service := by
  induction n generalizing s with
  | zero => rfl
  | succ n ih =>
    rw [settle]
    split
    · rfl
    · next r rs hreports =>
      have hsrc : dropSource r.source := h.drops r (by simp [hreports])
      have hsafe : OverrideSafe ((s.setReports rs).setTelltale { s.telltale with
          health := heldHealth r.source r.on s.telltale.health }) :=
        ⟨fun r' hr' => h.drops r' (by rw [hreports]; exact List.mem_cons_of_mem r hr'), h.unnamed, h.flag⟩
      obtain ⟨hsafe', hservice⟩ := overrideSafe_applyConditions hsafe
        (f := sourceCondition r.source r.on (anyHealth (heldHealth r.source r.on s.telltale.health)))
        (fun l hl hred d hd => sourceCondition_unnamed hsrc (h.unnamed l hl hred d hd) _ _)
      exact (ih hsafe').trans hservice

/-! ## The dropped request -/

/-- At a PENDING mailbox a request only counts toward H9. -/
theorem exec_dropped {c : Instr} {sender : BitVec 6} {s : State} (h : requestSender c = some sender)
    (hhears : hears sender.toNat s) (hintake : noIntake 126 sender.toNat s) (hpending : s.service.pendingReply = true)
    (htables : TablesLaw s) : exec c s = .next (finish (count 9 (requestHeard sender.toNat s))) := by
  obtain ⟨code, args, hexec⟩ := request_exec h
  rw [exec_request (hexec s) hhears hintake htables]
  simp [takeRequest, hpending]

/-- A drop that leaves the exceedance brings no report. -/
theorem count_reports {h : Fin 10} {s : State}
    (hsame : (countedAttribute s.tables.health[h] s.monitor[h]).exceeded = s.monitor[h].exceeded) :
    (count h s).reports = s.reports := by
  simp only [count, counted_eq, hsame, if_true]
  rfl

/-- The second part of O39: a request at a PENDING mailbox. -/
theorem request_dropped {c : Instr} {sender : BitVec 6} {s : State} (h : requestSender c = some sender)
    (hhears : hears sender.toNat s) (hintake : noIntake 126 sender.toNat s) (hpending : s.service.pendingReply = true)
    (htables : TablesLaw s) (hawake : AwakeLaw s) :
     ∃ t, exec c s = .next t
       ∧ oneMore s.monitor[(9 : Fin 10)].raw ≤ t.monitor[(9 : Fin 10)].raw
       ∧ t.line = lineAfterFrame (acknowledges s) s ∧ t.service.pendingReply = true
       ∧ t.roster = (hearStation sender.toNat s).roster
       ∧ (t.service.override.inForce = true → s.service.override.inForce = true)
       ∧ (∀ h : Fin 10, h ≠ 9 → t.monitor[h] = s.monitor[h])
       ∧ (LampLaw s → redUnnamed s.telltale.lamps → t.service = s.service)
       ∧ (presentAlready sender.toNat s →
           (countedAttribute s.tables.health[(9 : Fin 10)] s.monitor[(9 : Fin 10)]).exceeded
             = s.monitor[(9 : Fin 10)].exceeded →
           t.monitor = s.monitor.set 9
             (countedAttribute s.tables.health[(9 : Fin 10)] s.monitor[(9 : Fin 10)])
           ∧ Kept [.line, .roster, .monitor] s t)
       ∧ Kept ([.line, .roster] ++ told) s t := by
  refine ⟨_, exec_dropped h hhears hintake hpending htables, ?_⟩
  generalize hu : requestHeard sender.toNat s = u
  have hmonitor : u.monitor = s.monitor := by simp [← hu]
  have htable : u.tables = s.tables := by simp [← hu]
  have hservice : u.service = s.service := by simp [← hu]
  have hline : u.line = lineAfterFrame (acknowledges s) s := by rw [← hu, requestHeard_line]
  have hkept : Kept [.line, .roster] s u := hu ▸ kept_requestHeard sender.toNat s
  have hawake' : sleepReady (count 9 u) = false :=
    awake_of_parts hawake (by simp [← hu]) (by simp [← hu]) (by simp [← hu])
      (by simpa [hline] using peersQuiet_lineAfterFrame s)
  have htold := toldKeeps_finish hawake'
  obtain ⟨-, hfline, hfroster⟩ := finish_awake_frame hawake'
  refine ⟨htold.drops _ (by simp only [oneMore]; omega) (by rw [count_monitor_raw, hmonitor]),
    hfline.trans (by simpa using hline), htold.mailbox.trans (by simp [hservice, hpending]), ?_,
    fun hforce => by simpa [hservice] using htold.force hforce, fun i hi => ?_, fun hlamp hunnamed => ?_,
    fun hpresent hsame => ?_, ?_⟩
  · rw [hfroster, ← requestHeard_roster, hu]
    simp
  · rw [htold.others i hi, count_monitor_other hi, hmonitor]
  · obtain ⟨-, -, hflag, -⟩ := hlamp
    have hsafe : OverrideSafe (count 9 u) :=
      ⟨onlyDrops_count (hu ▸ onlyDrops_requestHeard sender.toNat s), by simpa [← hu] using hunnamed,
        by simpa [← hu] using hflag⟩
    rw [finish_awake hawake']
    simpa [hservice] using overrideSafe_settle (settleFuel (count 9 u)) hsafe
  · have hreports : (count 9 u).reports = [] := by
      rw [count_reports (by rw [htable, hmonitor]; exact hsame), ← hu, requestHeard_reports _ _ hpresent]
    rw [finish_idle hreports hawake']
    refine ⟨by simp [hmonitor, htable], Kept.trans (Kept.trans (Kept.mono hkept (by decide)) ?_)
      (kept_refreshScreen _ _)⟩
    exact kept_count 9 u (by decide)
  · exact Kept.trans (Kept.trans (Kept.mono hkept (by decide)) (kept_count 9 u (by decide)))
      (Kept.mono (kept_finish hawake') (by decide))

/-- Settles O39: a reading by the state that its reply is formed in, a dropped request by what a drop's report can
reach. -/
theorem readingsAreAnsweredOrDropped : Obligations.ReadingsAreAnsweredOrDropped := by
  unfold Obligations.ReadingsAreAnsweredOrDropped
  exact ⟨fun _ _ _ _ _ h htaken htables hawake => reading_answered h htaken htables hawake,
    fun _ _ _ h hhears hintake hpending htables hawake =>
      request_dropped h hhears hintake hpending htables hawake⟩

end Sys2Proof.Proofs

/-! Proofs. O33: when a frame is good, and the command that a good frame is. -/

namespace Sys2Proof.Proofs

open Sys2Proof Sys2Proof.Machine Sys2Proof.Claims

/-! ## The check of a frame -/

/-- One bit into the register, as a word and as a number. -/
theorem toNat_crcStep (r : BitVec 16) (b : Bool) :
    (if r.msb = b then r <<< 1 else (r <<< 1) ^^^ 0x1021#16).toNat = crcBit r.toNat b := by
  have hr := r.isLt
  have hshift : (r <<< 1).toNat = r.toNat * 2 % 65536 := by
    simp [BitVec.toNat_shiftLeft, Nat.shiftLeft_eq]
  have hmsb : r.msb = decide (32768 ≤ r.toNat) := by simp [BitVec.msb_eq_decide]
  have hout : (r.toNat / 32768 + flagBit b) % 2 = 1 ↔ r.msb ≠ b := by
    rw [hmsb]
    by_cases h : 32768 ≤ r.toNat
    · cases b <;> simp [h, flagBit] <;> omega
    · cases b <;> simp [h, flagBit] <;> omega
  simp only [crcBit, hout, ite_not]
  split
  · exact hshift
  · rw [BitVec.toNat_xor, hshift]
    rfl

theorem toNat_crcOf (bits : List Bool) : (crcOf bits).toNat = crcBits crcStart bits := by
  have hgo : ∀ (bs : List Bool) (r : BitVec 16),
      (bs.foldl (fun (r : BitVec 16) b => if r.msb = b then r <<< 1 else (r <<< 1) ^^^ 0x1021#16) r).toNat
        = crcBits r.toNat bs := by
    intro bs
    induction bs with
    | nil => exact fun _ => rfl
    | cons b bs ih =>
      intro r
      rw [List.foldl_cons, ih, toNat_crcStep]
      rfl
  exact hgo bits _

theorem msbFirst_eq (n x : Nat) : msbFirst n x = (List.range n).map (fun i => x.testBit (n - 1 - i)) := by
  induction n with
  | zero => rfl
  | succ n ih =>
    rw [msbFirst, ih, List.range_succ_eq_map, List.map_cons, List.map_map]
    refine congrArg₂ _ rfl (List.map_congr_left fun i _ => congrArg x.testBit ?_)
    omega

theorem wordBits_eq {n : Nat} (x : BitVec n) : wordBits x = msbFirst n x.toNat := by
  rw [msbFirst_eq, wordBits]
  refine List.map_congr_left fun i hi => ?_
  simp [BitVec.getMsbD, List.mem_range.mp hi, BitVec.testBit_toNat]

theorem crcBits_append (r : Nat) (as bs : List Bool) : crcBits r (as ++ bs) = crcBits (crcBits r as) bs :=
  List.foldl_append

theorem crcBytes_eq (r : Nat) (bytes : List Byte) : crcBytes r bytes = crcBits r (bytes.flatMap wordBits) := by
  induction bytes generalizing r with
  | nil => rfl
  | cons x xs ih =>
    rw [List.flatMap_cons, crcBits_append, ← ih, wordBits_eq]
    rfl

/-- A frame is good by its length and the CRC of its key, length and payload bits (R140, R141). -/
theorem isGood_iff (f : Frame) : isGood f = true ↔ f.length.toNat ≤ 4
    ∧ f.check = crcOf (wordBits f.key ++ wordBits f.length ++ f.payload.flatMap wordBits) := by
  have hcheck : frameCheck f.key f.length.toNat f.payload
      = (crcOf (wordBits f.key ++ wordBits f.length ++ f.payload.flatMap wordBits)).toNat := by
    rw [toNat_crcOf, crcBits_append, crcBits_append, ← crcBytes_eq, wordBits_eq, wordBits_eq]
    rfl
  rw [isGood, hcheck, Bool.and_eq_true, decide_eq_true_eq, decide_eq_true_eq, BitVec.toNat_inj]

/-! ## The command that a good frame is -/

/-- What a good frame does depends on topic, sender and payload alone. -/
theorem goodFrame_congr {key key' : Key} (htopic : keyTopic key' = keyTopic key)
    (hsender : keySender key' = keySender key) (payload : List Byte) : goodFrame key' payload = goodFrame key payload := by
  funext t
  simp only [goodFrame, htopic, hsender]

theorem exec_goodFrame {f : Frame} (hgood : isGood f = true) (s : State) :
    exec (.frameReceived f) s = complete (receive (goodFrame f.key f.payload)) s := by
  have hjudge : judgeFrame f = goodFrame f.key f.payload := by
    funext t
    simp [judgeFrame, hgood]
  rw [← hjudge]
  rfl

/-- A good frame does what the reception of a good frame of its topic, sender and payload does. -/
theorem exec_frame_receiveGood {f : Frame} {sender : BitVec 6} {urgency : Nat} (hgood : isGood f = true)
    (hsender : sender.toNat = keySender f.key) (s : State) :
    exec (.frameReceived f) s = complete (receiveGood urgency (keyTopic f.key) sender f.payload) s := by
  have htopic : keyTopic f.key < 128 := Nat.mod_lt _ (by decide)
  obtain ⟨htopic', hsender'⟩ := makeKey_parts urgency htopic sender.isLt
  rw [exec_goodFrame hgood, ← goodFrame_congr htopic' (hsender'.trans hsender)]
  rfl

theorem exec_requestOf (sender : BitVec 6) (code : Byte) (args : List Byte) (s : State) :
    exec (requestOf sender code args) s = complete (receiveRequest sender code args) s := by
  have hcode : ∀ n : Nat, n < 256 → code.toNat = n → code = BitVec.ofNat 8 n := by
    rintro n - rfl
    simp
  unfold requestOf
  split
  case h_10 => rfl
  all_goals
    next h =>
      rw [hcode _ (by decide) h]
      rfl

/-- A good frame on topic 1, 2 or 126 does what the command does that its topic and code name. -/
theorem goodFrame_commands {f : Frame} (hgood : isGood f = true) {sender : BitVec 6}
    (hsender : sender.toNat = keySender f.key) (s : State) :
    (keyTopic f.key = 1 → exec (.frameReceived f) s = exec (.timeMark sender f.payload) s)
      ∧ (keyTopic f.key = 2 → exec (.frameReceived f) s = exec (.presence sender f.payload) s)
      ∧ (keyTopic f.key = 126 → ∀ (code : Byte) (args : List Byte),
          f.payload = BitVec.ofNat 8 s.tables.ownStation :: code :: args →
          exec (.frameReceived f) s = exec (requestOf sender code args) s) := by
  refine ⟨fun htopic => ?_, fun htopic => ?_, fun htopic code args hpayload => ?_⟩
  · rw [exec_frame_receiveGood (urgency := 0) hgood hsender, htopic]
    rfl
  · rw [exec_frame_receiveGood (urgency := 1) hgood hsender, htopic]
    rfl
  · rw [exec_frame_receiveGood (urgency := 6) hgood hsender, htopic, exec_requestOf, hpayload]
    simp only [complete, receiveRequest, requestPayload]
    rfl

end Sys2Proof.Proofs

/-! Proofs. O33: what a good frame makes of slots, H4 and roster. -/

namespace Sys2Proof.Proofs

open Sys2Proof Sys2Proof.Machine Sys2Proof.Claims

/-! ## Slots -/

@[simp] theorem treatDescriptor_slots (sender limit : Nat) (payload : List Byte) (s : State) (d : Descriptor) :
    (treatDescriptor sender limit payload s d).slots = Claims.slotsAfter sender limit s.now payload s.slots d := by
  by_cases hshort : shortFor d payload.length
  · simp [treatDescriptor, Claims.slotsAfter, isShort, hshort]
  · by_cases happlied : arrivalApplied d.rank s.slots[d.target]
    · rw [treatDescriptor_applied hshort happlied, Claims.slotsAfter, if_pos ⟨hshort, happlied⟩]
      simp [putSlot]
    · rw [treatDescriptor_refused hshort happlied, Claims.slotsAfter, if_neg (fun h => happlied h.2)]

theorem foldl_treatDescriptor_slots (sender limit : Nat) (payload : List Byte) (ds : List Descriptor) (s : State) :
    (ds.foldl (treatDescriptor sender limit payload) s).slots
      = ds.foldl (Claims.slotsAfter sender limit s.now payload) s.slots := by
  induction ds generalizing s with
  | nil => rfl
  | cons d ds ih => simp [ih]

theorem treatEntry_slots (sender : Nat) (payload : List Byte) (s : State) (e : IntakeEntry) :
    (treatEntry sender payload s e).slots = entrySlots sender s.now payload s.slots e := by
  cases hsink : e.sink <;> simp [treatEntry, entrySlots, hsink, foldl_treatDescriptor_slots]

/-- The matching entries write their slots in map order (R5). -/
theorem foldl_treatEntry_slots (sender : Nat) (payload : List Byte) (es : List IntakeEntry) (s : State) :
    (es.foldl (treatEntry sender payload) s).slots = es.foldl (entrySlots sender s.now payload) s.slots := by
  induction es generalizing s with
  | nil => rfl
  | cons e es ih => simp [ih, treatEntry_slots]

theorem takeRequest_slots (sender : Nat) (payload : List Byte) (s : State) :
    (takeRequest sender payload s).slots = s.slots := by
  unfold takeRequest
  repeat' split
  all_goals simp

theorem deliverFrame_slots (topic sender : Nat) (payload : List Byte) (s : State) :
    (deliverFrame topic sender payload s).slots = if 8 ≤ topic then
        (s.tables.intake.filter (entryMatches topic sender)).foldl (entrySlots sender s.now payload) s.slots
      else s.slots := by
  have hrequest : ∀ t, (deliverRequest topic sender payload t).slots = t.slots := by
    intro t
    unfold deliverRequest
    split
    · exact takeRequest_slots _ _ _
    · rfl
  simp only [deliverFrame, hrequest]
  split
  · rw [takeData, foldl_treatEntry_slots]
    simp
  · simp

/-! ## The count of short payloads -/

theorem oneMore_iterate_add (m n x : Nat) : oneMore^[m + n] x = oneMore^[n] (oneMore^[m] x) := by
  rw [Nat.add_comm, Function.iterate_add_apply]

/-- A descriptor counts toward H4 where the payload is short for it (R9, R153). -/
theorem treatDescriptor_short (sender limit : Nat) (payload : List Byte) (s : State) (d : Descriptor) :
    (treatDescriptor sender limit payload s d).monitor[(4 : Fin 10)].raw
      = oneMore^[if shortFor d payload.length then 1 else 0] s.monitor[(4 : Fin 10)].raw := by
  by_cases hshort : shortFor d payload.length
  · rw [if_pos hshort]
    simp only [treatDescriptor, isShort, hshort, decide_true, if_true, count_monitor_raw, Function.iterate_one]
  · rw [if_neg hshort]
    by_cases happlied : arrivalApplied d.rank s.slots[d.target]
    · rw [treatDescriptor_applied hshort happlied, (toldKeeps_notifyConsumers _ _ _).others 4 (by decide)]
      simp
    · rw [treatDescriptor_refused hshort happlied]
      rfl

theorem treatDescriptor_mailbox (sender limit : Nat) (payload : List Byte) (s : State) (d : Descriptor) :
    (treatDescriptor sender limit payload s d).service.pendingReply = s.service.pendingReply := by
  simp only [treatDescriptor]
  split
  · simp
  · split
    · rw [(toldKeeps_notifyConsumers _ _ _).mailbox]
      simp
    · rfl

theorem foldl_treatDescriptor_short (sender limit : Nat) (payload : List Byte) (ds : List Descriptor) (s : State) :
    (ds.foldl (treatDescriptor sender limit payload) s).monitor[(4 : Fin 10)].raw
        = oneMore^[ds.countP (fun d => decide (shortFor d payload.length))] s.monitor[(4 : Fin 10)].raw
      ∧ (ds.foldl (treatDescriptor sender limit payload) s).service.pendingReply = s.service.pendingReply := by
  induction ds generalizing s with
  | nil => exact ⟨rfl, rfl⟩
  | cons d ds ih =>
    obtain ⟨hraw, hmailbox⟩ := ih (treatDescriptor sender limit payload s d)
    rw [List.foldl_cons, hraw, hmailbox, treatDescriptor_short, treatDescriptor_mailbox, ← oneMore_iterate_add,
      List.countP_cons, Nat.add_comm]
    simp

theorem foldl_treatEntry_short (sender : Nat) (payload : List Byte) (es : List IntakeEntry)
    (hsinks : ∀ e ∈ es, e.sink = .signals) (s : State) :
    (es.foldl (treatEntry sender payload) s).monitor[(4 : Fin 10)].raw
        = oneMore^[shortResults payload es] s.monitor[(4 : Fin 10)].raw
      ∧ (es.foldl (treatEntry sender payload) s).service.pendingReply = s.service.pendingReply := by
  induction es generalizing s with
  | nil => exact ⟨rfl, rfl⟩
  | cons e es ih =>
    have hsink : e.sink = .signals := hsinks e (by simp)
    obtain ⟨hraw, hmailbox⟩ := ih (fun e' he' => hsinks e' (by simp [he'])) (treatEntry sender payload s e)
    obtain ⟨hraw', hmailbox'⟩ := foldl_treatDescriptor_short sender e.staleLimit payload e.descriptors s
    have htreat : treatEntry sender payload s e
        = e.descriptors.foldl (treatDescriptor sender e.staleLimit payload) s := by
      simp [treatEntry, hsink]
    rw [List.foldl_cons, hraw, hmailbox, htreat, hraw', hmailbox', ← oneMore_iterate_add]
    simp [shortResults, hsink]

/-! ## H4 past the Service Responder -/

/-- A request other than CLEAR-HEALTH counts nothing but drops. -/
theorem executeRequest_others {code : Nat} (hcode : code ≠ 5) (args : List Byte) (s : State) {h : Fin 10} (hh : h ≠ 9) :
    (executeRequest code args s).2.monitor[h] = s.monitor[h] := by
  have hstart : ∀ p n b t, (startOverride p n b t).monitor[h] = t.monitor[h] := by
    intro p n b t
    simp only [startOverride]
    split
    · rw [(toldKeeps_postChime _ _ _).others h hh]
      simp
    · simp
  have htest : (takeTestOverride args s).2.monitor[h] = s.monitor[h] := by
    unfold takeTestOverride
    repeat' split
    · rfl
    · exact hstart _ _ _ _
    · rfl
  have hend : (takeEndOverride s).2.monitor[h] = s.monitor[h] := by
    unfold takeEndOverride
    split
    · simp
    · rfl
  simp only [executeRequest, if_neg hcode]
  repeat' split
  · rfl
  · rfl
  · rfl
  · rfl
  · rfl
  · exact htest
  · exact hend
  · rfl
  · rfl

theorem placeReply_others (requester code : Nat) (r : Reply) (s : State) {h : Fin 10} (hh : h ≠ 9) :
    (placeReply requester code r s).monitor[h] = s.monitor[h] := by
  simp only [placeReply, placeFrame]
  repeat' split
  · simp
  · simp
  · simp
  · rw [count_monitor_other hh]
    simp

theorem deliverRequest_others {topic sender : Nat} {payload : List Byte} {s : State} (hclear : ¬ (topic = 126 ∧
      payload.take 2 = [BitVec.ofNat 8 s.tables.ownStation, 5] ∧ s.service.pendingReply = false))
    {h : Fin 10} (hh : h ≠ 9) : (deliverRequest topic sender payload s).monitor[h] = s.monitor[h] := by
  unfold deliverRequest takeRequest
  split
  · next haddressed =>
    obtain ⟨htopic, haddressed⟩ := haddressed
    split
    · exact count_monitor_other hh s
    · next hempty =>
      split
      · next d code args =>
        rw [placeReply_others _ _ _ _ hh]
        refine executeRequest_others (fun hcode => hclear ⟨htopic, ?_, by simpa using hempty⟩) _ _ hh
        have hd : d.toNat = s.tables.ownStation := by simpa [addressedTo] using haddressed
        rw [← hd]
        simp [BitVec.eq_of_toNat_eq (y := 5#8) hcode]
      · rfl
      · rfl
  · rfl

/-- Where all matching entries write slots and the frame is not taken as CLEAR-HEALTH, H4 counts the short results. -/
theorem deliverFrame_short {topic sender : Nat} {payload : List Byte} {s : State} (hdata : 8 ≤ topic)
    (hclear : ¬ (topic = 126 ∧ payload.take 2 = [BitVec.ofNat 8 s.tables.ownStation, 5]
      ∧ s.service.pendingReply = false))
    (hsinks : ∀ e ∈ s.tables.intake, entryMatches topic sender e = true → e.sink = .signals) :
    (deliverFrame topic sender payload s).monitor[(4 : Fin 10)].raw
      = oneMore^[shortResults payload (s.tables.intake.filter (entryMatches topic sender))]
          s.monitor[(4 : Fin 10)].raw := by
  have hsystem : ∀ t : State, deliverSystem topic sender payload t = t := by
    intro t
    simp [deliverSystem, show topic ≠ 1 by omega, show topic ≠ 2 by omega]
  obtain ⟨hraw, hmailbox⟩ := foldl_treatEntry_short sender payload
    (s.tables.intake.filter (entryMatches topic sender)) (fun e he => hsinks e (List.mem_filter.mp he).1 (List.mem_filter.mp he).2) (hearStation sender s)
  have htake : takeData topic sender payload (hearStation sender s)
      = (s.tables.intake.filter (entryMatches topic sender)).foldl (treatEntry sender payload)
          (hearStation sender s) := by
    simp [takeData]
  simp only [deliverFrame, hsystem, if_pos hdata]
  rw [deliverRequest_others (by rw [htake, hmailbox]; simpa using hclear) (by decide), htake, hraw]
  simp

/-! ## The roster -/

/-- What a notification leaves of the entries. -/
theorem treatEntry_heard (sender : Nat) (payload : List Byte) (s : State) (e : IntakeEntry) :
    (treatEntry sender payload s e).roster.entries.map (fun x => (x.record, x.lastHeard))
      = s.roster.entries.map (fun x => (x.record, x.lastHeard)) := by
  have hnotify : ∀ (now : Nat) (slot : Fin 64) (v : Int) (q : Quality) (x : RosterEntry),
      ((x.notify now slot v q).record, (x.notify now slot v q).lastHeard) = (x.record, x.lastHeard) := by
    intro now slot v q x
    unfold RosterEntry.notify RosterEntry.couple
    repeat' split
    all_goals rfl
  have hdescriptor : ∀ (t : State) (d : Descriptor),
      (treatDescriptor sender e.staleLimit payload t d).roster.entries.map (fun x => (x.record, x.lastHeard))
        = t.roster.entries.map (fun x => (x.record, x.lastHeard)) := by
    intro t d
    simp only [treatDescriptor]
    repeat' split
    · simp
    · simp [notifyConsumers, rosterSlot, putEntries_roster, hnotify]
    · rfl
  unfold treatEntry
  split
  · exact foldl_keeps (fun t : State => t.roster.entries.map (fun x => (x.record, x.lastHeard))) _ hdescriptor _ _
  all_goals simp

/-- The entries of a station that has been heard. -/
theorem hearStation_entries (station : Nat) (s : State) :
    (hearStation station s).roster.entries
      = s.roster.entries.map (fun e => if e.record.station = station then e.heard s.now else e) := by
  unfold hearStation
  split
  · rw [putEntries_roster]
  · next hnone =>
    have hkeep : ∀ e ∈ s.roster.entries, (if e.record.station = station then e.heard s.now else e) = e := by
      intro e he
      rw [if_neg]
      exact fun hst => hnone (List.any_eq_true.mpr ⟨e, he, by simpa using hst⟩)
    rw [List.map_congr_left hkeep, List.map_id']
    rfl

/-- The entries after a good frame: who was heard when stays as the hearing left it, and on a system topic all else. -/
theorem deliverFrame_entries (topic sender : Nat) (payload : List Byte) (s : State) :
    (deliverFrame topic sender payload s).roster.entries.map (fun x => (x.record, x.lastHeard))
        = (hearStation sender s).roster.entries.map (fun x => (x.record, x.lastHeard))
      ∧ (topic < 8 → (deliverFrame topic sender payload s).roster.entries
        = (hearStation sender s).roster.entries) := by
  simp only [deliverFrame, deliverRequest_entries]
  split
  · next hdata =>
    refine ⟨?_, fun h => absurd hdata (by omega)⟩
    rw [takeData, foldl_keeps (fun t : State => t.roster.entries.map (fun x => (x.record, x.lastHeard))) _
      (fun t e => treatEntry_heard sender payload t e)]
    simp
  · simp

/-! ## The acknowledgement of the frame -/

theorem placeFrame_acknowledged (kind : TxKind) (payload : List Byte) (s : State) :
    (placeFrame kind payload s).line.acknowledged = s.line.acknowledged := by
  have htransmit : ∀ t : State, (tryTransmit t).line.acknowledged = t.line.acknowledged := by
    intro t
    unfold tryTransmit
    repeat' split
    all_goals rfl
  simp only [placeFrame]
  repeat' split
  · simp
  · simp
  · rw [htransmit]
    simp
  · simp

theorem deliverFrame_acknowledged (topic sender : Nat) (payload : List Byte) (s : State) :
    (deliverFrame topic sender payload s).line.acknowledged = s.line.acknowledged := by
  have hrequest : ∀ t, (deliverRequest topic sender payload t).line.acknowledged = t.line.acknowledged := by
    intro t
    unfold deliverRequest takeRequest
    repeat' split
    · simp
    · rw [placeReply, placeFrame_acknowledged]
      simp
    · rfl
    · rfl
    · rfl
  have hsystem : ∀ t, (deliverSystem topic sender payload t).line.acknowledged = t.line.acknowledged := by
    intro t
    unfold deliverSystem takePresence endReplyDelay
    repeat' split
    · simp
    · rw [placeFrame_acknowledged]
      simp
    · simp
    · rfl
    · rfl
  simp only [deliverFrame, hrequest]
  split
  · simp [hsystem]
  · simp [hsystem]

theorem finish_acknowledged (s : State) : (finish s).line.acknowledged = s.line.acknowledged := by
  have hsleep : ∀ t, (trySleep t).line.acknowledged = t.line.acknowledged := by
    intro t
    unfold trySleep sleepLine restLine
    repeat' split
    all_goals simp
  simp [finish, hsleep]

/-! ## The frame -/

/-- The first part of O33: what a good frame of another station makes of line, slots, H4 and roster. -/
theorem goodFrame_heard (f : Frame) (s : State) (hgood : isGood f = true) (hhears : hears (keySender f.key) s) :
    ∃ t, exec (.frameReceived f) s = .next t
      ∧ t.line.acknowledged = decide (s.line.state ≠ .listenOnly)
      ∧ t.slots = (if 8 ≤ keyTopic f.key then
          (s.tables.intake.filter (entryMatches (keyTopic f.key) (keySender f.key))).foldl
            (entrySlots (keySender f.key) s.now f.payload) s.slots
        else s.slots)
      ∧ (8 ≤ keyTopic f.key → ¬ takenAsClear f s →
          (∀ e ∈ s.tables.intake, entryMatches (keyTopic f.key) (keySender f.key) e = true → e.sink = .signals) →
          t.monitor[(4 : Fin 10)].raw = oneMore^[shortResults f.payload
            (s.tables.intake.filter (entryMatches (keyTopic f.key) (keySender f.key)))]
              s.monitor[(4 : Fin 10)].raw)
      ∧ (∀ e ∈ t.roster.entries, e.record.station = keySender f.key → e.lastHeard = some s.now)
      ∧ (keyTopic f.key < 8 → ∀ e ∈ t.roster.entries, e.record.station = keySender f.key →
          e.state = .present ∧ e.acknowledged = false ∧ e.quietStart = some s.now)
      ∧ t.roster.entries.map (fun e => e.record) = s.roster.entries.map (fun e => e.record)
      ∧ t.now = s.now ∧ t.tables = s.tables := by
  refine ⟨_, exec_frameReceived hgood hhears, ?_⟩
  obtain ⟨hheard, hsystem⟩ := deliverFrame_entries (keyTopic f.key) (keySender f.key) f.payload (lineHeard s)
  rw [hearStation_entries] at hheard hsystem
  refine ⟨?_, ?_, fun hdata hclear hsinks => ?_, fun e he hst => ?_, fun htopic e he hst => ?_, ?_, by simp, by simp⟩
  · rw [finish_acknowledged, deliverFrame_acknowledged, lineHeard_line, lineAfterFrame]
    unfold acknowledges
    split <;> split <;> simp_all
  · simp [deliverFrame_slots]
  · rw [finish_monitor_other _ (by decide), deliverFrame_short hdata (by simpa [takenAsClear] using hclear)
      (by simpa using hsinks)]
    simp
  · rw [finish_entries] at he
    have hmem := List.mem_map_of_mem (f := fun x : RosterEntry => (x.record, x.lastHeard)) he
    rw [hheard, List.map_map] at hmem
    obtain ⟨x, -, hx⟩ := List.mem_map.mp hmem
    obtain ⟨hrecord, hlast⟩ := Prod.mk.inj hx
    rw [← hlast]
    by_cases hxst : x.record.station = keySender f.key
    · simp [hxst, RosterEntry.heard]
    · simp only [if_neg hxst] at hrecord
      exact absurd (hrecord ▸ hst) hxst
  · rw [finish_entries, hsystem htopic] at he
    obtain ⟨x, -, rfl⟩ := List.mem_map.mp he
    by_cases hx : x.record.station = keySender f.key
    · simp [hx, RosterEntry.heard]
    · exact absurd hst (by rw [if_neg hx]; exact hx)
  · have hrecords := congrArg (List.map Prod.fst) hheard
    simp only [List.map_map, Function.comp_def] at hrecords
    rw [finish_entries, hrecords]
    refine (List.map_congr_left fun e _ => ?_).trans (by rw [(lineHeard_frame s).2.2.2.2.2.2.2.2.2.2.2.1])
    split <;> rfl

/-- Settles O33: a good frame by the stages of its delivery, its check bit by bit, and the commands by key and
payload. -/
theorem goodFrameIsHeardAndWritesSlots : Obligations.GoodFrameIsHeardAndWritesSlots := by
  unfold Obligations.GoodFrameIsHeardAndWritesSlots
  refine ⟨fun f s hgood hhears _ => goodFrame_heard f s hgood hhears, fun topic sender e => ?_,
    fun e w x => ⟨rfl, rfl, rfl⟩, isGood_iff, fun f s hgood sender hsender => goodFrame_commands hgood hsender s⟩
  simp [entryMatches]

end Sys2Proof.Proofs

/-! Proofs. O35: what the fields of the recorder's bulletins say, and a driver status. -/

namespace Sys2Proof.Proofs

open Sys2Proof Sys2Proof.Machine Sys2Proof.Claims

/-! ## The fields of a status and of a notice part (Table 12-4) -/

theorem decodeDriverStatus_fields (payload : List Byte) (now : Nat) (p : Snapshot)
    (hp : p = decodeDriverStatus payload now) :
    p.arrival = now ∧ p.sequence = bitField payload 8 8
      ∧ (bitField payload 0 3 = 0 → p.activity = .rest) ∧ (bitField payload 0 3 = 1 → p.activity = .available)
      ∧ (bitField payload 0 3 = 2 → p.activity = .work) ∧ (bitField payload 0 3 = 3 → p.activity = .drive)
      ∧ (3 < bitField payload 0 3 → p.activity = .unknown)
      ∧ (bitField payload 3 2 = 0 → p.card = .none) ∧ (bitField payload 3 2 = 1 → p.card = .inserted)
      ∧ (1 < bitField payload 3 2 → p.card = .fault)
      ∧ p.continuous = (if bitField payload 16 10 = 1023 then none else some (bitField payload 16 10 * 60))
      ∧ p.toBreak = (if bitField payload 26 10 = 1023 then none else some (bitField payload 26 10 * 60))
      ∧ p.daily = (if bitField payload 36 11 = 2047 then none else some (bitField payload 36 11 * 60))
      ∧ p.toDaily = (if bitField payload 47 11 = 2047 then none else some (bitField payload 47 11 * 60)) := by
  subst hp
  refine ⟨rfl, rfl, fun h => ?_, fun h => ?_, fun h => ?_, fun h => ?_, fun h => ?_, fun h => ?_, fun h => ?_,
    fun h => ?_, rfl, rfl, rfl, rfl⟩
  · simp [decodeDriverStatus, decodeActivity, h]
  · simp [decodeDriverStatus, decodeActivity, h]
  · simp [decodeDriverStatus, decodeActivity, h]
  · simp [decodeDriverStatus, decodeActivity, h]
  · simp [decodeDriverStatus, decodeActivity, show bitField payload 0 3 ≠ 0 by omega,
      show bitField payload 0 3 ≠ 1 by omega, show bitField payload 0 3 ≠ 2 by omega,
      show bitField payload 0 3 ≠ 3 by omega]
  · simp [decodeDriverStatus, decodeCard, h]
  · simp [decodeDriverStatus, decodeCard, h]
  · simp [decodeDriverStatus, decodeCard, show bitField payload 3 2 ≠ 0 by omega,
      show bitField payload 3 2 ≠ 1 by omega]

/-- A character code is the low seven bits of its byte. -/
theorem charCode_eq (payload : List Byte) (i : Nat) :
    BitVec.ofNat 7 (bitField payload (8 * i) 7) = BitVec.ofNat 7 (payload.getD i 0).toNat := by
  refine BitVec.eq_of_getLsbD_eq fun k hk => ?_
  rw [BitVec.getLsbD_ofNat, BitVec.getLsbD_ofNat, testBit_bitField _ _ hk,
    show (8 * i + k) / 8 = i by omega, show (8 * i + k) % 8 = k by omega]

theorem decodeNotice_fields (payload : List Byte) (n : NoticeFields) (hn : n = decodeNotice payload) :
    n.id = bitField payload 0 8 ∧ n.index = bitField payload 8 2
      ∧ (n.last = true ↔ bitField payload 10 1 = 1)
      ∧ (bitField payload 11 2 = 0 → n.cls = .urgent) ∧ (bitField payload 11 2 = 1 → n.cls = .caution)
      ∧ (1 < bitField payload 11 2 → n.cls = .notice)
      ∧ (8 ≤ payload.length → n.codes
          = (List.range 6).map (fun i => BitVec.ofNat 7 (bitField payload (16 + 8 * i) 7))) := by
  subst hn
  refine ⟨rfl, rfl, by simp [decodeNotice, bitFlag], fun h => by simp [decodeNotice, decodeGrade, h],
    fun h => by simp [decodeNotice, decodeGrade, h], fun h => ?_, fun hlen => ?_⟩
  · simp [decodeNotice, decodeGrade, show bitField payload 11 2 ≠ 0 by omega, show bitField payload 11 2 ≠ 1 by omega]
  · simp only [decodeNotice]
    refine List.ext_getElem (by simp; omega) fun i h1 h2 => ?_
    have hi : i < 6 := by simpa using h2
    rw [List.getElem_map, List.getElem_map, List.getElem_range, show 16 + 8 * i = 8 * (2 + i) by omega, charCode_eq,
      List.getElem_take, List.getElem_drop, List.getD_eq_getElem _ _ (by omega)]

/-! ## A driver status -/

/-- The acceptance test counts sequences modulo 256 (R96). -/
theorem acceptsSnapshot_eq {r : DriverRecord} {sequence : Nat} (hr : ∀ q, r.snapshot = some q → q.sequence < 256) :
    acceptsSnapshot r sequence = true ↔ snapshotAccepted r sequence := by
  unfold acceptsSnapshot snapshotAccepted
  cases hstate : r.state <;> cases hsnapshot : r.snapshot <;> simp
  next q =>
    have hq := hr q hsnapshot
    omega

/-- A driver's warnings are put in the record. -/
theorem putWarnings_driver (d : Fin 2) (w : Warnings) (s : State) : (putWarnings d w s).driver
    = { s.driver with records := s.driver.records.set d { driverRecord s d with warnings := w } } := by
  have htell : ∀ k old new (t : State), (tellWarning d k old new t).driver = t.driver := by
    intro k old new t
    unfold tellWarning
    split <;> simp
  simp only [putWarnings, htell]
  rfl

/-- The warnings at a snapshot (R101, R102). -/
theorem reformWarnings_driver (d : Fin 2) (s : State) : (reformWarnings d s).driver
    = { s.driver with records := s.driver.records.set d { driverRecord s d with
        warnings := { timeWarnings s.tables.warningLead (driverRecord s d) with
          recorderLost := lostWarning s.driver.moving (driverRecord s d) } } } := by
  simp only [reformWarnings, reformLost, reformTimeWarnings, putWarnings_driver, driverRecord]
  simp [lostWarning, cardInserted]

/-- The record of a driver after an accepted snapshot. -/
def acceptedRecord (s : State) (n : Fin 2) (p : Snapshot) : DriverRecord :=
  { (driverRecord s n).accept p with
    warnings := { timeWarnings s.tables.warningLead ((driverRecord s n).accept p) with recorderLost := false } }

theorem driverStatus_accepted {n : Fin 2} {payload : List Byte} {s : State} (hlen : 8 ≤ payload.length)
    (haccept : acceptsSnapshot (driverRecord s n) (decodeDriverStatus payload s.now).sequence = true) :
    (driverStatus n payload s).driver = { s.driver with
      records := s.driver.records.set n (acceptedRecord s n (decodeDriverStatus payload s.now)) } := by
  simp only [driverStatus, Nat.not_lt.mpr hlen, if_false, haccept, if_true, reformWarnings_driver]
  simp [putRecord, driverRecord, acceptedRecord, lostWarning, DriverRecord.accept]

theorem driverStatus_refused {n : Fin 2} {payload : List Byte} {s : State} (hlen : 8 ≤ payload.length)
    (haccept : acceptsSnapshot (driverRecord s n) (decodeDriverStatus payload s.now).sequence = false) :
    driverStatus n payload s = s := by
  simp [driverStatus, Nat.not_lt.mpr hlen, haccept]

/-- At its arrival a snapshot's figures are shown as they are (R99). -/
theorem extrapolated_accept (r : DriverRecord) (p : Snapshot) :
    (extrapolated (r.accept p)).toBreak = p.toBreak ∧ (extrapolated (r.accept p)).toDaily = p.toDaily := by
  simp only [extrapolated, DriverRecord.accept]
  split <;> simp

theorem figureWithin_iff (limit : Nat) (figure : Option Nat) :
    figureWithin limit figure = true ↔ ∃ v, figure = some v ∧ v ≤ limit := by
  cases figure <;> simp [figureWithin]

/-- What an accepted snapshot makes of its driver's record (R97, R98, R99, R101, R102). -/
theorem acceptedRecord_spec (s : State) (n : Fin 2) (p : Snapshot) :
    (acceptedRecord s n p).state = .current ∧ (acceptedRecord s n p).snapshot = some p
      ∧ (acceptedRecord s n p).elapsed = 0
      ∧ ((acceptedRecord s n p).warnings.breakSoon = true ↔ p.card = .inserted
          ∧ ∃ v, p.toBreak = some v ∧ v ≤ s.tables.warningLead * 60)
      ∧ ((acceptedRecord s n p).warnings.breakOverdue = true ↔ p.card = .inserted ∧ p.toBreak = some 0)
      ∧ ((acceptedRecord s n p).warnings.dailySoon = true ↔ p.card = .inserted
          ∧ ∃ v, p.toDaily = some v ∧ v ≤ s.tables.warningLead * 60)
      ∧ (acceptedRecord s n p).warnings.recorderLost = false := by
  obtain ⟨hbreak, hdaily⟩ := extrapolated_accept (driverRecord s n) p
  have hcard : (decide (((driverRecord s n).accept p).state = .current) && cardInserted ((driverRecord s n).accept p))
      = true ↔ p.card = .inserted := by
    simp [DriverRecord.accept, cardInserted]
  simp only [acceptedRecord, timeWarnings, hbreak, hdaily, Bool.and_eq_true, figureWithin_iff] at hcard ⊢
  refine ⟨rfl, rfl, rfl, by rw [hcard], by rw [hcard]; simp, by rw [hcard], trivial⟩

/-- A taken driver status at the Driver Time Unit. -/
theorem driverStatus_spec {n : Fin 2} {payload : List Byte} {s u : State} (hlen : 8 ≤ payload.length)
    (hnow : u.now = s.now) (htables : u.tables = s.tables) (hdriver : u.driver = s.driver) (hlaw : SnapshotLaw s)
    {t : State} (ht : t.driver = (driverStatus n payload u).driver) (p : Snapshot)
    (hp : p = decodeDriverStatus payload s.now) :
    (snapshotAccepted (driverRecord s n) p.sequence →
             (driverRecord t n).state = .current ∧ (driverRecord t n).snapshot = some p
             ∧ (driverRecord t n).elapsed = 0
             ∧ driverStaleDue t n = some (s.now + 90000) ∧ secondMarkDue t n = some (s.now + 1000)
             ∧ ((driverRecord t n).warnings.breakSoon = true ↔ p.card = .inserted
                 ∧ ∃ v, p.toBreak = some v ∧ v ≤ s.tables.warningLead * 60)
             ∧ ((driverRecord t n).warnings.breakOverdue = true ↔ p.card = .inserted ∧ p.toBreak = some 0)
             ∧ ((driverRecord t n).warnings.dailySoon = true ↔ p.card = .inserted
                 ∧ ∃ v, p.toDaily = some v ∧ v ≤ s.tables.warningLead * 60)
             ∧ (driverRecord t n).warnings.recorderLost = false
             ∧ (∀ n', n' ≠ n → driverRecord t n' = driverRecord s n')
             ∧ t.driver = { s.driver with records := t.driver.records })
           ∧ (¬ snapshotAccepted (driverRecord s n) p.sequence → t.driver = s.driver) := by
  have hrecord : driverRecord u n = driverRecord s n := by rw [driverRecord, driverRecord, hdriver]
  have haccepts := acceptsSnapshot_eq (r := driverRecord s n) (sequence := p.sequence) (hlaw n)
  subst hp
  refine ⟨fun haccepted => ?_, fun hrefused => ?_⟩
  · have hstatus := driverStatus_accepted (n := n) (s := u) hlen (by rw [hrecord, hnow]; exact haccepts.mpr haccepted)
    have hsame : acceptedRecord u n = acceptedRecord s n := by
      funext q
      rw [acceptedRecord, acceptedRecord, hrecord, htables]
    rw [hstatus, hdriver, hsame, hnow] at ht
    have hthis : driverRecord t n = acceptedRecord s n (decodeDriverStatus payload s.now) := by
      simp [driverRecord, ht]
    obtain ⟨hstate, hsnapshot, helapsed, hsoon, hoverdue, hdaily, hlost⟩ :=
      acceptedRecord_spec s n (decodeDriverStatus payload s.now)
    rw [← hthis] at hstate hsnapshot helapsed hsoon hoverdue hdaily hlost
    refine ⟨hstate, hsnapshot, helapsed, ?_, ?_, hsoon, hoverdue, hdaily, hlost, fun n' hn' => ?_, ?_⟩
    · simp [driverStaleDue, hstate, hsnapshot, decodeDriverStatus, driverStaleMs]
    · simp [secondMarkDue, hstate, hsnapshot, helapsed, decodeDriverStatus]
    · have hval : n.val ≠ n'.val := fun e => hn' (Fin.ext e.symm)
      simp [driverRecord, ht, hval]
    · rw [ht]
  · have hno : acceptsSnapshot (driverRecord u n) (decodeDriverStatus payload u.now).sequence = false := by
      rw [hrecord, hnow]
      exact Bool.eq_false_iff.mpr fun h => hrefused (haccepts.mp h)
    rw [ht, driverStatus_refused hlen hno, hdriver]

end Sys2Proof.Proofs

/-! Proofs. O35: a part of a recorder notice. -/

namespace Sys2Proof.Proofs

open Sys2Proof Sys2Proof.Machine Sys2Proof.Claims

/-! ## A posted pop-up -/

/-- The choice of the SHOWING entry changes states alone (R83). -/
theorem settlePopups_mem {q : List PopupEntry} {x : PopupEntry} (h : x ∈ q) :
    ∃ y ∈ settlePopups q, y.message = x.message ∧ y.nonLatched = x.nonLatched ∧ y.cls = x.cls := by
  have hshow : ∀ m, ∃ y ∈ showPopup m q, y.message = x.message ∧ y.nonLatched = x.nonLatched ∧ y.cls = x.cls :=
    fun m => ⟨_, List.mem_map_of_mem h, rfl, rfl, rfl⟩
  have hkeep : ∃ y ∈ q, y.message = x.message ∧ y.nonLatched = x.nonLatched ∧ y.cls = x.cls := ⟨x, h, rfl, rfl, rfl⟩
  unfold settlePopups
  split
  · split
    · exact hshow _
    · exact hkeep
  · exact hkeep
  · exact hshow _
  · exact hkeep

theorem higherGrade_rank (a b : Grade) : b.rank ≤ (higherGrade a b).rank := by
  unfold higherGrade
  split <;> omega

/-- A latched posting at a queue with room stands in the queue, of its class or a higher one, and is no drop. -/
theorem postPopup_room (message : Nat) (cls : Grade) {s : State} (hroom : s.readout.queue.length < 8) :
    (∃ x ∈ (postPopup message cls false s).readout.queue, x.message = message ∧ x.nonLatched = false
        ∧ cls.rank ≤ x.cls.rank)
      ∧ (postPopup message cls false s).reports = s.reports := by
  simp only [postPopup, hroom, if_true]
  split
  · next hany =>
    obtain ⟨e, he, hmessage⟩ := List.any_eq_true.mp hany
    have hmessage' : e.message = message := by simpa using hmessage
    obtain ⟨y, hy, h1, h2, h3⟩ := settlePopups_mem (List.mem_map_of_mem (f := fun x : PopupEntry =>
      if x.message = message then { x with cls := higherGrade x.cls cls, nonLatched := x.nonLatched && false } else x) he)
    refine ⟨⟨y, hy, ?_⟩, rfl⟩
    rw [h1, h2, h3, if_pos hmessage']
    exact ⟨hmessage', Bool.and_false _, higherGrade_rank _ _⟩
  · obtain ⟨y, hy, h1, h2, h3⟩ := settlePopups_mem (List.mem_append_right s.readout.queue (List.mem_singleton_self
      { message := message, cls := cls, nonLatched := false, order := s.readout.lastOrder + 1,
        state := PopupState.queued : PopupEntry }))
    exact ⟨⟨y, hy, h1, h2, by rw [h3]⟩, rfl⟩

/-! ## The completion test -/

theorem partsStored_iff (parts : List NoticePart) (l : Nat) :
    partsStored parts l = true ↔ ∀ i, i ≤ l → ∃ p ∈ parts, p.index = i := by
  simp [partsStored]

theorem partIgnored_iff (a : Assembly) (n : NoticeFields) : partIgnored a n = true ↔ ignoredPart a n := by
  simp only [partIgnored, Bool.or_eq_true, List.any_eq_true, beq_iff_eq]
  refine or_congr Iff.rfl ?_
  cases a.last with
  | none => simp
  | some x =>
    obtain ⟨l, cls⟩ := x
    simp

theorem joinAssembly_eq (a : Assembly) (n : NoticeFields) (now : Nat) :
    joinAssembly a n now = joinedAssembly a n now := by
  simp [joinAssembly, joinedAssembly]

/-- The completion test puts the assembly or, once it is complete, its text into the mailbox (R105). -/
theorem settleAssembly_driver (a : Assembly) (s : State) :
    (settleAssembly a s).driver = { s.driver with mailbox := (settleAssembly a s).driver.mailbox }
      ∧ testedAssembly a (settleAssembly a s).driver.mailbox := by
  unfold settleAssembly
  split
  · next l cls hlast =>
    by_cases hstored : partsStored a.parts l = true
    · rw [if_pos hstored]
      refine ⟨by simp, fun l' cls' hlast' _ => ?_, fun hincomplete => ?_⟩
      · rw [hlast] at hlast'
        obtain ⟨rfl, rfl⟩ := Prod.mk.inj (Option.some.inj hlast')
        simp [noticeText, partsText]
      · obtain hnone | ⟨l', cls', hlast', i, hi, hmissing⟩ := hincomplete
        · simp [hlast] at hnone
        · rw [hlast] at hlast'
          obtain ⟨rfl, rfl⟩ := Prod.mk.inj (Option.some.inj hlast')
          obtain ⟨p, hp, hindex⟩ := (partsStored_iff _ _).mp hstored i hi
          exact absurd hindex (hmissing p hp)
    · rw [if_neg hstored]
      refine ⟨rfl, fun l' cls' hlast' hall => ?_, fun _ => rfl⟩
      rw [hlast] at hlast'
      obtain ⟨rfl, rfl⟩ := Prod.mk.inj (Option.some.inj hlast')
      exact absurd ((partsStored_iff _ _).mpr hall) hstored
  · next hlast =>
    refine ⟨rfl, fun l' cls' hlast' => ?_, fun _ => rfl⟩
    simp [hlast] at hlast'

/-- A completed notice posts pop-up 64 in its class (R105, R90). -/
theorem settleAssembly_full {a : Assembly} {s : State} (hroom : s.readout.queue.length < 8) {id : Nat} {cls : Grade}
    {text : List CharCode} (hfull : (settleAssembly a s).driver.mailbox = .full id cls text) :
    (∃ x ∈ (settleAssembly a s).readout.queue, x.message = 64 ∧ x.nonLatched = false ∧ cls.rank ≤ x.cls.rank)
      ∧ (settleAssembly a s).reports = s.reports := by
  unfold settleAssembly at hfull ⊢
  split at hfull
  · next l cls' hlast =>
    split at hfull
    · next hstored =>
      obtain ⟨-, rfl, -⟩ : a.id = id ∧ cls' = cls ∧ _ = text := by simpa using hfull
      simp only [if_pos hstored]
      exact postPopup_room 64 cls' hroom
    · simp at hfull
  · simp at hfull

/-! ## A part at the mailbox -/

/-- What a part makes of the mailbox (R104). -/
theorem takePart_cases (n : NoticeFields) (s : State) :
    takePart n s = s ∨ ∃ a, takePart n s = settleAssembly a s := by
  unfold takePart
  split
  · exact .inr ⟨_, rfl⟩
  · split
    · exact .inr ⟨_, rfl⟩
    · split
      · exact .inl rfl
      · exact .inr ⟨_, rfl⟩
  · exact .inl rfl

/-- A part at the mailbox, by its state (R104). -/
theorem takePart_mailbox (n : NoticeFields) (s : State) :
    (s.driver.mailbox = .empty → takePart n s = settleAssembly (startedAssembly n s.now) s)
      ∧ (∀ a, s.driver.mailbox = .assembling a →
          (a.time + 500 ≤ s.now → takePart n s = settleAssembly (startedAssembly n s.now) s)
          ∧ (s.now < a.time + 500 → a.id ≠ n.id ∨ ignoredPart a n → takePart n s = s)
          ∧ (s.now < a.time + 500 → a.id = n.id → ¬ ignoredPart a n →
              takePart n s = settleAssembly (joinedAssembly a n s.now) s))
      ∧ (∀ id cls text, s.driver.mailbox = .full id cls text → takePart n s = s) := by
  refine ⟨fun h => ?_, fun a h => ⟨fun htime => ?_, fun htime hignored => ?_, fun htime hid hignored => ?_⟩,
    fun id cls text h => ?_⟩
  · simp only [takePart, h]
    rfl
  · simp only [takePart, h, noticeGapMs, if_pos htime]
    rfl
  · have hno : a.id ≠ n.id ∨ partIgnored a n = true := hignored.imp_right (partIgnored_iff a n).mpr
    simp only [takePart, h, noticeGapMs, if_neg (Nat.not_le.mpr htime), if_pos hno]
  · have hno : ¬ (a.id ≠ n.id ∨ partIgnored a n = true) :=
      fun k => k.elim (fun k => k hid) fun k => hignored ((partIgnored_iff a n).mp k)
    simp only [takePart, h, noticeGapMs, if_neg (Nat.not_le.mpr htime), if_neg hno, joinAssembly_eq]
  · simp only [takePart, h]

/-- A taken notice part at the mailbox. -/
theorem recorderNotice_spec {payload : List Byte} {s u t : State} (hlen : 8 ≤ payload.length)
    (hnow : u.now = s.now) (hdriver : u.driver = s.driver) (ht : t.driver = (recorderNotice payload u).driver)
    (n : NoticeFields) (hn : n = decodeNotice payload) :
    t.driver = { s.driver with mailbox := t.driver.mailbox }
           ∧ (n.id = 0 → t.driver = s.driver)
           ∧ (n.id ≠ 0 → s.driver.mailbox = .empty →
               testedAssembly (startedAssembly n s.now) t.driver.mailbox)
           ∧ (∀ a, n.id ≠ 0 → s.driver.mailbox = .assembling a →
               (a.time + 500 ≤ s.now → testedAssembly (startedAssembly n s.now) t.driver.mailbox)
               ∧ (s.now < a.time + 500 → a.id ≠ n.id ∨ ignoredPart a n → t.driver = s.driver)
               ∧ (s.now < a.time + 500 → a.id = n.id → ¬ ignoredPart a n →
                   testedAssembly (joinedAssembly a n s.now) t.driver.mailbox))
           ∧ (∀ id cls text, s.driver.mailbox = .full id cls text → t.driver = s.driver) := by
  have htaken : recorderNotice payload u = if n.id = 0 then u else takePart n u := by
    rw [recorderNotice, if_neg (Nat.not_lt.mpr hlen), hn]
  have htested : ∀ a, takePart n u = settleAssembly a u → n.id ≠ 0 → testedAssembly a t.driver.mailbox := by
    intro a ha hid
    rw [ht, htaken, if_neg hid, ha]
    exact (settleAssembly_driver a u).2
  have hkept : n.id = 0 ∨ takePart n u = u → t.driver = s.driver := by
    intro h
    rw [ht, htaken, ← hdriver]
    split
    · rfl
    · next hid => rw [h.resolve_left hid]
  obtain ⟨hempty, hassembling, hfull⟩ := takePart_mailbox n u
  rw [hdriver] at hempty hassembling hfull
  rw [hnow] at hempty hassembling
  refine ⟨?_, fun hid => hkept (.inl hid), fun hid h => htested _ (hempty h) hid, fun a hid h => ?_,
    fun id cls text h => hkept (.inr (hfull id cls text h))⟩
  · by_cases hid : n.id = 0
    · rw [hkept (.inl hid)]
    · obtain hsame | ⟨a, ha⟩ := takePart_cases n u
      · rw [hkept (.inr hsame)]
      · rw [ht, htaken, if_neg hid, ha, ← hdriver]
        exact (settleAssembly_driver a u).1
  · obtain ⟨hlate, hignored, hjoined⟩ := hassembling a h
    exact ⟨fun k => htested _ (hlate k) hid, fun k l => hkept (.inr (hignored k l)),
      fun k l m => htested _ (hjoined k l m) hid⟩

/-- A part that fills the mailbox posts pop-up 64; with no other report to deliver it stands in the queue at the end
of the command. -/
theorem recorderNotice_posts {payload : List Byte} {s u : State} (hlen : 8 ≤ payload.length)
    (hdriver : u.driver = s.driver) (hreports : u.reports = []) (hroom : u.readout.queue.length < 8) {id : Nat}
    {cls : Grade} {text : List CharCode} (hfull : (recorderNotice payload u).driver.mailbox = .full id cls text)
    (hchanged : (recorderNotice payload u).driver ≠ s.driver) :
    ∃ x ∈ (finish (recorderNotice payload u)).readout.queue,
      x.message = 64 ∧ x.nonLatched = false ∧ cls.rank ≤ x.cls.rank := by
  obtain ⟨a, ha⟩ : ∃ a, recorderNotice payload u = settleAssembly a u := by
    rw [recorderNotice, if_neg (Nat.not_lt.mpr hlen)] at hchanged ⊢
    split at hchanged
    · exact absurd hdriver hchanged
    · next hid =>
      rw [if_neg hid]
      exact (takePart_cases _ u).resolve_left fun h => hchanged (by rw [h, hdriver])
  rw [ha] at hfull ⊢
  obtain ⟨hposted, hsame⟩ := settleAssembly_full hroom hfull
  have hqueue : (finish (settleAssembly a u)).readout.queue = (settleAssembly a u).readout.queue := by
    rw [finish, settle_idle _ _ (hsame.trans hreports)]
    simp
  rwa [hqueue]

end Sys2Proof.Proofs

/-! Proofs. O35: the recorder's distance, and the write that the store trigger requests. -/

namespace Sys2Proof.Proofs

open Sys2Proof Sys2Proof.Machine Sys2Proof.Claims

/-! ## A write -/

/-- The slots that a write may take are all but the newest. -/
theorem mem_slotsAfter {newest : Option (Fin 20)} {i : Fin 20} (h : newest ≠ some i) :
    i ∈ Machine.slotsAfter newest := by
  cases newest with
  | none => simp [Machine.slotsAfter]
  | some n =>
    have hi := i.isLt
    have hn := n.isLt
    have hne : n.val ≠ i.val := fun e => h (by rw [Fin.ext e])
    simp only [Machine.slotsAfter, List.mem_map, List.mem_range]
    exact ⟨(i.val + 19 - n.val) % 20, by omega, Fin.ext (by simp only []; omega)⟩

/-- The target of a write is the first live slot after the newest one (R120). -/
theorem writeTarget_spec {st : Store} (h : ∃ i : Fin 20, st.newest ≠ some i ∧ slotLive st.retired i.val = true) :
    ∃ target, writeTarget st = some target ∧ st.newest ≠ some target ∧ firstLiveAfter st.newest st.retired target := by
  obtain ⟨i, hnewest, hlive⟩ := h
  obtain ⟨target, htarget⟩ : ∃ target, writeTarget st = some target :=
    Option.isSome_iff_exists.mp (List.find?_isSome.mpr ⟨i, mem_slotsAfter hnewest, hlive⟩)
  refine ⟨target, htarget, ?_⟩
  obtain ⟨hlive, k, hk, hget, hbefore⟩ := List.find?_eq_some_iff_getElem.mp htarget
  generalize hslots : Machine.slotsAfter st.newest = slots at hk hget hbefore
  cases hnew : st.newest with
  | none =>
    rw [hnew, Machine.slotsAfter] at hslots
    subst hslots
    refine ⟨by simp, hlive, fun _ i hi => ?_, fun n hn => by cases hn⟩
    have hindex : k = target.val := by simpa using congrArg Fin.val hget
    have hsmall := hbefore i (by omega)
    simpa using hsmall
  | some n =>
    rw [hnew, Machine.slotsAfter] at hslots
    subst hslots
    have hk' : k < 19 := by simpa using hk
    have htarget : target.val = (n.val + (k + 1)) % 20 := by
      have := congrArg Fin.val hget
      simp only [List.getElem_map, List.getElem_range] at this
      omega
    refine ⟨fun e => ?_, hlive, fun hnone => (by cases hnone), fun n' hn' => ?_⟩
    · have hn := n.isLt
      have : target.val = n.val := by rw [← Option.some.inj e]
      omega
    · obtain rfl := Option.some.inj hn'
      refine ⟨k + 1, by omega, by omega, htarget, fun i hi hlt => ?_⟩
      have hsmall := hbefore (i - 1) (by omega)
      have hindex : n.val + 1 + (i - 1) = n.val + i := by omega
      simpa [hindex] using hsmall

/-- The record of a write holds the health values or names why it does not (R118, R124). -/
theorem formRecord_blockDecided (s : State) (target : Fin 20) :
    blockDecided s.store.health (firstAttempt s.now (nextAttempt s) (formRecord s target) target (worstValues s)) := by
  have hpresent : blockPresent s.store.health (worstValues s) target = false ↔ ∃ ref, s.store.health = some ref
      ∧ ref.slot ≠ none ∧ ref.worst = worstValues s ∧ ref.slot ≠ some target := by
    unfold blockPresent
    cases s.store.health with
    | none => simp
    | some ref =>
      have hslot : ref.slot.isNone = false ↔ ref.slot ≠ none := by cases ref.slot <;> simp
      have hworst : worstValues s = ref.worst ↔ ref.worst = worstValues s := eq_comm
      simp [hslot, hworst, and_assoc]
  simp only [blockDecided, firstAttempt, formRecord]
  rw [← hpresent]
  cases blockPresent s.store.health (worstValues s) target <;> simp

/-- A write begins in an idle store with a live slot other than the newest (R119, R120). -/
theorem startWrite_begun {s : State} (hsequence : s.store.newestSequence < 4294967295)
    (hlive : ∃ i : Fin 20, s.store.newest ≠ some i ∧ slotLive s.store.retired i.val = true) :
    (∃ w, (startWrite s).store = { s.store with write := some w, attempts := s.store.attempts + 1 } ∧ writeBegun s w)
      ∧ (startWrite s).distance = { s.distance with reference := s.distance.total } := by
  obtain ⟨target, htarget, hnewest, hfirst⟩ := writeTarget_spec hlive
  simp only [startWrite, if_neg (Nat.not_le.mpr hsequence), htarget]
  refine ⟨⟨_, rfl, rfl, rfl, rfl, rfl, rfl, rfl, fun h => ?_, formRecord_blockDecided s target, hnewest, hfirst, rfl, rfl,
    rfl, rfl, rfl⟩, by simp⟩
  fin_cases h <;> rfl

/-- What a requested write makes of the store depends on what the record holds alone. -/
theorem requestWrite_store_congr {s t : State} (hnow : t.now = s.now) (hstore : t.store = s.store)
    (htotal : t.distance.total = s.distance.total) (htripA : t.distance.tripA = s.distance.tripA)
    (htripB : t.distance.tripB = s.distance.tripB) (hclock : t.driver.clock = s.driver.clock)
    (hmonitor : t.monitor = s.monitor) : (requestWrite t).store = (requestWrite s).store := by
  have hstate : ∀ (a : State) (st : StoreState), (changeStoreState st a).store = { a.store with state := st } := by
    intro a st
    unfold changeStoreState
    split
    · next h => rw [h]
    · simp only []
      repeat' split
      all_goals simp [setErrorIndication]
  have hworst : worstValues t = worstValues s := by rw [worstValues, worstValues, hmonitor]
  have hstamp : clockStamp t = clockStamp s := by rw [clockStamp, clockStamp, hclock]
  have hrecord : ∀ target, formRecord t target = formRecord s target := by
    intro target
    simp only [formRecord, hworst, hstamp, hstore, htotal, htripA, htripB]
  simp only [requestWrite, startWrite, hstore]
  repeat' split
  all_goals simp [hstore, hstate, beginAttempt, firstAttempt, nextAttempt, hrecord, hworst, hnow]

/-- A requested write leaves the distances but for the reference, and every health value but H9. -/
theorem requestWrite_keeps (s : State) :
    (requestWrite s).distance = { s.distance with reference := (requestWrite s).distance.reference }
      ∧ ∀ h : Fin 10, h ≠ 9 → (requestWrite s).monitor[h] = s.monitor[h] := by
  have hstate : ∀ (st : StoreState) (h : Fin 10), h ≠ 9 → (changeStoreState st s).monitor[h] = s.monitor[h] := by
    intro st h hh
    simp only [changeStoreState]
    repeat' split
    · rfl
    · rfl
    · rfl
    · rw [(toldKeeps_postPopup _ _ _ _).others h hh]
      simp [setErrorIndication]
    · rw [(toldKeeps_postPopup _ _ _ _).others h hh]
      simp
  have hdistance : (startWrite s).distance = { s.distance with reference := (startWrite s).distance.reference } := by
    simp only [startWrite]
    split
    · simp
    · cases writeTarget s.store <;> simp
  have hmonitor : ∀ h : Fin 10, h ≠ 9 → (startWrite s).monitor[h] = s.monitor[h] := by
    intro h hh
    simp only [startWrite]
    split
    · exact hstate _ h hh
    · refine congrArg (fun m : Vector Attribute 10 => m[h]) (?_ : _ = s.monitor)
      cases writeTarget s.store <;> simp
  unfold requestWrite
  repeat' split
  · exact ⟨rfl, fun _ _ => rfl⟩
  · exact ⟨rfl, fun _ _ => rfl⟩
  · exact ⟨hdistance, hmonitor⟩

/-! ## The recorder's distance -/

/-- A change of the total moves the distances and then applies the store trigger (R112, R117). -/
theorem putDistance_spec {d : Distance} {s : State} (htotal : d.total ≠ s.distance.total) :
    (putDistance d s).distance = { d with reference := (putDistance d s).distance.reference }
      ∧ (∀ h : Fin 10, h ≠ 9 → (putDistance d s).monitor[h] = s.monitor[h])
      ∧ (d.reference + 100 ≤ d.total → putDistance d s = requestWrite (refreshScreen (s.setDistance d)))
      ∧ (d.total < d.reference + 100 → (putDistance d s).store = s.store) := by
  obtain ⟨hdistance, hmonitor⟩ := requestWrite_keeps (refreshScreen (s.setDistance d))
  simp only [putDistance, if_neg htotal, storeTrigger]
  simp only [refreshScreen_frame, State.setDistance_distance] at hdistance hmonitor ⊢
  split
  · next htrigger =>
    exact ⟨hdistance, hmonitor, fun _ => rfl, fun h => absurd htrigger (Nat.not_le.mpr h)⟩
  · next hno =>
    exact ⟨by simp, by simp, fun h => absurd h hno, fun _ => by simp⟩

/-- A jump of at most 50 km ahead moves total and trips (R115). -/
theorem reconcile_near {r : Nat} {s : State} (hahead : s.distance.total < r) (hnear : r ≤ s.distance.total + 5000) :
    reconcile r s = putDistance { s.distance with
      total := r
      tripA := advanceTrip s.distance.tripA (r - s.distance.total)
      tripB := advanceTrip s.distance.tripB (r - s.distance.total) } s := by
  simp only [reconcile, if_pos hahead, if_pos (show r - s.distance.total ≤ 5000 by omega)]

/-- A jump of more than 50 km ahead counts toward H7 and moves the total alone (R115). -/
theorem reconcile_far {r : Nat} {s : State} (hfar : s.distance.total + 5000 < r) :
    reconcile r s = putDistance { s.distance with total := r } (count 7 s) := by
  simp only [reconcile, if_pos (show s.distance.total < r by omega),
    if_neg (show ¬ r - s.distance.total ≤ 5000 by omega)]

/-- A recorder distance that is not ahead changes no distance; more than 1 km behind it counts toward H7 (R115). -/
theorem reconcile_behind {r : Nat} {s : State} (hbehind : r ≤ s.distance.total) :
    reconcile r s = if s.distance.total ≤ r + 100 then s else count 7 s := by
  simp only [reconcile, if_neg (Nat.not_lt.mpr hbehind)]

/-- What the recorder's distance leaves in any case: the accumulator; and a total behind it becomes it. -/
theorem reconcile_distance (r : Nat) (s : State) :
    (reconcile r s).distance.accumulator = s.distance.accumulator
      ∧ (s.distance.total < r → (reconcile r s).distance.total = r) := by
  by_cases hahead : s.distance.total < r
  · have hne : r ≠ s.distance.total := by omega
    by_cases hnear : r ≤ s.distance.total + 5000
    · rw [reconcile_near hahead hnear, (putDistance_spec hne).1]
      exact ⟨rfl, fun _ => rfl⟩
    · rw [reconcile_far (by omega), (putDistance_spec (s := count 7 s) (by simpa using hne)).1]
      exact ⟨rfl, fun _ => rfl⟩
  · rw [reconcile_behind (by omega)]
    refine ⟨?_, fun h => absurd h hahead⟩
    split
    · rfl
    · simp

section
variable {s u t : State} {r : Nat} (hnow : u.now = s.now) (htables : u.tables = s.tables)
  (hdriver : u.driver = s.driver) (hdistance : u.distance = s.distance) (hstore : u.store = s.store)
  (hmonitor : u.monitor = s.monitor) (htdistance : t.distance = (reconcile r u).distance)
  (htstore : t.store = (reconcile r u).store)
  (htmonitor : t.monitor[(7 : Fin 10)] = (reconcile r u).monitor[(7 : Fin 10)])
include hnow hdriver hdistance hstore hmonitor htdistance htstore htmonitor

/-- The recorder's distance at most 50 km ahead. -/
theorem recorderAhead_near (hahead : s.distance.total < r) (hnear : r ≤ s.distance.total + 5000) :
    t.distance.tripA = (s.distance.tripA + (r - s.distance.total)) % 10000000
      ∧ t.distance.tripB = (s.distance.tripB + (r - s.distance.total)) % 10000000
      ∧ t.monitor[(7 : Fin 10)] = s.monitor[(7 : Fin 10)]
      ∧ (s.distance.reference + 100 ≤ r →
          t.store = (requestWrite { s with distance := { t.distance with reference := s.distance.reference } }).store)
      ∧ (r < s.distance.reference + 100 → t.store = s.store) := by
  rw [reconcile_near (by rwa [hdistance]) (by rwa [hdistance])] at htdistance htstore htmonitor
  obtain ⟨hd, hm, hwrite, hkeep⟩ := putDistance_spec (s := u) (d := { u.distance with
    total := r
    tripA := advanceTrip u.distance.tripA (r - u.distance.total)
    tripB := advanceTrip u.distance.tripB (r - u.distance.total) }) (by rw [hdistance]; exact (Nat.ne_of_lt hahead).symm)
  have htd := htdistance.trans hd
  simp only [hdistance] at htd hwrite hkeep
  refine ⟨by rw [htd]; rfl, by rw [htd]; rfl, ?_, fun htrigger => ?_, fun hno => ?_⟩
  · rw [htmonitor, hm 7 (by decide), hmonitor]
  · rw [htstore]
    simp only [hdistance]
    rw [hwrite htrigger]
    refine requestWrite_store_congr (by simpa using hnow) (by simpa using hstore) ?_ ?_ ?_ (by simp [hdriver])
      (by simpa using hmonitor)
    · simp [htd]
    · simp [htd]
    · simp [htd]
  · rw [htstore]
    simp only [hdistance]
    rw [hkeep hno, hstore]

include htables

/-- The recorder's distance more than 50 km ahead. -/
theorem recorderAhead_far (hfar : s.distance.total + 5000 < r) :
    t.distance.tripA = s.distance.tripA ∧ t.distance.tripB = s.distance.tripB
               ∧ t.monitor[(7 : Fin 10)].raw = oneMore s.monitor[(7 : Fin 10)].raw
               ∧ (r < s.distance.reference + 100 → t.store = s.store)
               ∧ (s.distance.reference + 100 ≤ r → ∀ u, u = { s with
                     distance := { s.distance with total := r },
                     monitor := s.monitor.set 7
                       (countedAttribute s.tables.health[(7 : Fin 10)] s.monitor[(7 : Fin 10)]) } →
                   t.store = (requestWrite u).store
                   ∧ (s.store.state = .failed → t.store = s.store)
                   ∧ (s.store.state ≠ .failed → s.store.write.isSome = true →
                       t.store = { s.store with requestPending := true })
                   ∧ (s.store.state ≠ .failed → s.store.write = none → s.store.newestSequence < 4294967295 →
                       (∃ i : Fin 20, s.store.newest ≠ some i ∧ slotLive s.store.retired i.val = true) →
                       (∃ w, t.store = { s.store with write := some w, attempts := s.store.attempts + 1 }
                         ∧ writeBegun u w)
                       ∧ t.distance = { s.distance with total := r, reference := r })) := by
  rw [reconcile_far (by rwa [hdistance])] at htdistance htstore htmonitor
  obtain ⟨hd, hm, hwrite, hkeep⟩ := putDistance_spec (s := count 7 u) (d := { u.distance with total := r })
    (by simp only [count_frame, hdistance]; omega)
  have htd := htdistance.trans hd
  simp only [hdistance] at htd hwrite hkeep htdistance htstore
  refine ⟨by rw [htd], by rw [htd], ?_, fun hno => ?_, fun htrigger v hv => ?_⟩
  · rw [htmonitor, hm 7 (by decide), count_monitor_raw, hmonitor]
  · rw [htstore, hkeep hno]
    simpa using hstore
  · rw [hwrite htrigger] at htdistance htstore
    have hreq : t.store = (requestWrite v).store := by
      rw [htstore, hv]
      exact requestWrite_store_congr (by simpa using hnow) (by simpa using hstore) (by simp) (by simp) (by simp)
        (by simp [hdriver]) (by simp [hmonitor, htables])
    refine ⟨hreq, fun hfailed => ?_, fun hworks hbusy => ?_, fun hworks hidle hsequence hlive => ?_⟩
    · rw [hreq, hv]
      simp [requestWrite, hfailed]
    · rw [hreq, hv]
      simp [requestWrite, hworks, hbusy]
    · have hstart : requestWrite v = startWrite v := by
        rw [hv]
        simp [requestWrite, hworks, hidle]
      have hstart' : requestWrite (refreshScreen ((count 7 u).setDistance { s.distance with total := r }))
          = startWrite (refreshScreen ((count 7 u).setDistance { s.distance with total := r })) := by
        simp [requestWrite, hstore, hworks, hidle]
      obtain ⟨hbegun, -⟩ := startWrite_begun (s := v) (by rw [hv]; exact hsequence) (by rw [hv]; exact hlive)
      obtain ⟨-, hreference⟩ := startWrite_begun
        (s := refreshScreen ((count 7 u).setDistance { s.distance with total := r })) (by simpa [hstore] using hsequence)
        (by simpa [hstore] using hlive)
      refine ⟨?_, ?_⟩
      · rw [hreq, hstart]
        rwa [show v.store = s.store by rw [hv]] at hbegun
      · rw [htdistance, hstart', hreference]
        simp

omit hnow hdriver htables

/-- The recorder's distance not ahead. -/
theorem recorderBehind (hbehind : r ≤ s.distance.total) :
    (s.distance.total ≤ r + 100 →
        t.distance = s.distance ∧ t.monitor[(7 : Fin 10)] = s.monitor[(7 : Fin 10)] ∧ t.store = s.store)
      ∧ (r + 100 < s.distance.total → t.distance = s.distance ∧ t.store = s.store
        ∧ t.monitor[(7 : Fin 10)].raw = oneMore s.monitor[(7 : Fin 10)].raw) := by
  rw [reconcile_behind (by rwa [hdistance]), hdistance] at htdistance htstore htmonitor
  refine ⟨fun hnear => ?_, fun hfar => ?_⟩
  · rw [if_pos hnear] at htdistance htstore htmonitor
    exact ⟨htdistance.trans hdistance, htmonitor.trans (by rw [hmonitor]), htstore.trans hstore⟩
  · rw [if_neg (Nat.not_le.mpr hfar)] at htdistance htstore htmonitor
    refine ⟨by simpa [hdistance] using htdistance, by simpa [hstore] using htstore, ?_⟩
    rw [htmonitor, count_monitor_raw, hmonitor]

end

end Sys2Proof.Proofs

/-! Proofs. O35: the frames of the recorder. -/

namespace Sys2Proof.Proofs

open Sys2Proof Sys2Proof.Machine Sys2Proof.Claims

theorem treatEntry_status {sender : Nat} {payload : List Byte} {s : State} {e : IntakeEntry} {n : Fin 2}
    (h : e.sink = statusSink n) : treatEntry sender payload s e = driverStatus n payload s := by
  by_cases hn : n = 0
  · subst hn
    simp [treatEntry, h, statusSink]
  · have hn' : n = 1 := by omega
    subst hn'
    simp [treatEntry, h, statusSink]

/-- A payload that is short for its sink counts toward H4 and changes nothing there (R9, R153). -/
theorem treatEntry_short {sender : Nat} {payload : List Byte} {s : State} {e : IntakeEntry} (h :
    ((∃ n, e.sink = statusSink n) ∨ e.sink = .recorderNotice) ∧ payload.length < 8
      ∨ e.sink = .recorderDistance ∧ payload.length < 4) : treatEntry sender payload s e = count 4 s := by
  obtain ⟨⟨n, hsink⟩ | hsink, hlen⟩ | ⟨hsink, hlen⟩ := h
  · rw [treatEntry_status hsink, driverStatus, if_pos hlen]
  · simp [treatEntry, hsink, recorderNotice, hlen]
  · simp [treatEntry, hsink, recorderDistance, hlen]

/-- Settles O35: a frame of the recorder does what its sink does once its sender has been heard, and the end of the
command keeps the driver unit, the distances, the store and every health value but H9. -/
theorem recorderBulletinsAreTaken : Obligations.RecorderBulletinsAreTaken := by
  unfold Obligations.RecorderBulletinsAreTaken
  refine ⟨fun f e s htaken _ => ⟨_, exec_takenBy htaken, ?_⟩, decodeDriverStatus_fields, decodeNotice_fields⟩
  generalize hu : hearStation (keySender f.key) (lineHeard s) = u
  have hnow : u.now = s.now := by simp [← hu]
  have htables : u.tables = s.tables := by simp [← hu]
  have hdriver : u.driver = s.driver := by simp [← hu]
  have hdistance : u.distance = s.distance := by simp [← hu]
  have hstore : u.store = s.store := by simp [← hu]
  have hmonitor : u.monitor = s.monitor := by simp [← hu]
  have hshort : treatEntry (keySender f.key) f.payload u e = count 4 u →
      (finish (treatEntry (keySender f.key) f.payload u e)).monitor[(4 : Fin 10)].raw
        = oneMore s.monitor[(4 : Fin 10)].raw := by
    intro h
    rw [finish_monitor_other _ (by decide), h, count_monitor_raw, hmonitor]
  refine ⟨fun hsink hlen => ?_, fun hsink hlen => ?_, fun n hsink hlen hlaw p hp => ?_, fun hsink hlen n hn => ?_,
    fun hsink hlen r hr => ?_⟩
  · have htreat := treatEntry_short (sender := keySender f.key) (s := u) (.inl ⟨hsink, hlen⟩)
    exact ⟨by simp [htreat, hdriver], hshort htreat⟩
  · have htreat := treatEntry_short (sender := keySender f.key) (s := u) (.inr ⟨hsink, hlen⟩)
    exact ⟨by simp [htreat, hdistance], hshort htreat⟩
  · rw [treatEntry_status hsink]
    exact driverStatus_spec hlen hnow htables hdriver hlaw (by simp) p hp
  · have htreat : treatEntry (keySender f.key) f.payload u e = recorderNotice f.payload u := by
      simp [treatEntry, hsink]
    rw [htreat]
    obtain ⟨hmailbox, hzero, hempty, hassembling, hfull⟩ :=
      recorderNotice_spec hlen hnow hdriver (t := finish (recorderNotice f.payload u)) (by simp) n hn
    refine ⟨hmailbox, hzero, hempty, hassembling, hfull, fun id cls text hposted hchanged hpresent hroom => ?_⟩
    have hreports : u.reports = [] := by
      rw [← hu]
      exact requestHeard_reports _ _ hpresent
    exact recorderNotice_posts hlen hdriver hreports (by simpa [← hu] using hroom) (by simpa using hposted)
      (by simpa using hchanged)
  · have htreat : treatEntry (keySender f.key) f.payload u e = reconcile r u := by
      simp [treatEntry, hsink, recorderDistance, Nat.not_lt.mpr hlen, hr]
    rw [htreat]
    have htd : (finish (reconcile r u)).distance = (reconcile r u).distance := by simp
    have hts : (finish (reconcile r u)).store = (reconcile r u).store := by simp
    have htm := finish_monitor_other (reconcile r u) (h := 7) (by decide)
    obtain ⟨haccumulator, htotal⟩ := reconcile_distance r u
    rw [hdistance] at haccumulator htotal
    refine ⟨htd ▸ haccumulator, fun h => htd ▸ htotal h,
      recorderAhead_near hnow hdriver hdistance hstore hmonitor htd hts htm,
      recorderAhead_far hnow htables hdriver hdistance hstore hmonitor htd hts htm, fun hbehind => ?_, fun hfar => ?_⟩
    · exact (recorderBehind hdistance hstore hmonitor htd hts htm hbehind).1
    · exact (recorderBehind hdistance hstore hmonitor htd hts htm (by omega)).2 hfar

end Sys2Proof.Proofs

/-! Proofs. What the operations of the Gauge Engine keep of every channel: its place on the dial (R27), and UNHOMED. -/

namespace Sys2Proof.Proofs

open Sys2Proof Sys2Proof.Machine Sys2Proof.Claims

/-! ## The place of a pointer -/

/-- The pointer's position is known and stands on the dial. -/
def placed (fullScale : Nat) (c : Channel) : Prop := ∃ p, c.position = some p ∧ p ≤ fullScale

theorem moveBy_le (fullScale p n : Nat) (upward : Bool) : moveBy fullScale p n upward ≤ fullScale := by
  unfold moveBy
  split <;> exact Nat.min_le_left _ _

/-- The motion rule clamps every move to the dial (R27). -/
theorem moveStep_position_le (fullScale v a goal : Nat) (m : Motion) :
    (moveStep fullScale v a goal m).position ≤ fullScale := by
  unfold moveStep
  split
  · exact Nat.min_le_left _ _
  · exact moveBy_le _ _ _ _

theorem placed_moveTo (r : GaugeRecord) (goal : Nat) (c : Channel) : placed r.fullScale (c.moveTo r goal) :=
  ⟨_, rfl, moveStep_position_le _ _ _ _ _⟩

theorem placed_homed (fullScale : Nat) (c : Channel) : placed fullScale c.homed := ⟨0, rfl, Nat.zero_le _⟩

/-! ## Operations that leave the position -/

/-- A channel is parked where it stands at 0, so its position stays (R38). -/
@[simp] theorem parkOrParked_position (c : Channel) : c.parkOrParked.position = c.position := by
  unfold Channel.parkOrParked
  split
  · next h => exact h.symm
  · rfl

@[simp] theorem hold_position (now holdTime : Nat) (c : Channel) : (c.hold now holdTime).position = c.position := by
  unfold Channel.hold
  split <;> rfl

@[simp] theorem calledChannel_position (s : State) (g : Fin 6) (c : Channel) :
    (calledChannel s g c).position = c.position := by
  unfold calledChannel
  repeat' split
  all_goals simp [Channel.goto, Channel.restWith, Channel.overrideTo]

@[simp] theorem ignitionOff_position (c : Channel) : c.ignitionOff.position = c.position := by
  unfold Channel.ignitionOff
  split <;> simp

@[simp] theorem startOverride_position (position : Nat) (c : Channel) :
    (c.startOverride position).position = c.position := by
  unfold Channel.startOverride
  split <;> rfl

/-! ## A channel that keeps its place -/

/-- A channel that follows another has not left the dial, nor UNHOMED. -/
structure KeepsPlace (fullScale : Nat) (c c' : Channel) : Prop where
  dial : c.onDial fullScale → c'.onDial fullScale
  unhomed : c.state = .unhomed → c'.state = .unhomed

/-- A channel of another state than UNHOMED that is placed on the dial. -/
theorem KeepsPlace.of_placed {fullScale : Nat} {c c' : Channel} (hstate : c.state ≠ .unhomed)
    (h : placed fullScale c') : KeepsPlace fullScale c c' := ⟨fun _ _ => h, fun k => absurd k hstate⟩

/-- A channel of another state than UNHOMED whose position becomes unknown. -/
theorem KeepsPlace.of_unknown {fullScale : Nat} {c c' : Channel} (hstate : c.state ≠ .unhomed)
    (h : knowsPosition c'.state = false) : KeepsPlace fullScale c c' :=
  ⟨fun _ k => by simp [h] at k, fun k => absurd k hstate⟩

/-- A channel that keeps its position, and its state where the position is not known. -/
theorem KeepsPlace.of_position {fullScale : Nat} {c c' : Channel} (hposition : c'.position = c.position)
    (hstate : knowsPosition c.state = false → c'.state = c.state) : KeepsPlace fullScale c c' := by
  refine ⟨fun hdial k => ?_, fun k => (hstate (by rw [k]; rfl)).trans k⟩
  rw [hposition]
  cases hknows : knowsPosition c.state with
  | false => rw [hstate hknows, hknows] at k; cases k
  | true => exact hdial hknows

/-- Ignition off and the override move only channels of known position. -/
theorem ignitionOff_unknown {c : Channel} (h : knowsPosition c.state = false) : c.ignitionOff = c := by
  cases hstate : c.state <;> simp_all [knowsPosition, Channel.ignitionOff]

theorem startOverride_unknown {c : Channel} (h : knowsPosition c.state = false) (position : Nat) :
    c.startOverride position = c := by
  cases hstate : c.state <;> simp_all [knowsPosition, Channel.startOverride]

theorem keepsPlace_ignitionOff (fullScale : Nat) (c : Channel) : KeepsPlace fullScale c c.ignitionOff :=
  .of_position (ignitionOff_position c) fun h => by rw [ignitionOff_unknown h]

theorem keepsPlace_startOverride (fullScale position : Nat) (c : Channel) :
    KeepsPlace fullScale c (c.startOverride position) :=
  .of_position (startOverride_position position c) fun h => by rw [startOverride_unknown h]

/-- The state called for, of a channel whose position is known. -/
theorem keepsPlace_calledChannel (fullScale : Nat) {c : Channel} (h : knowsPosition c.state = true) (s : State)
    (g : Fin 6) : KeepsPlace fullScale c (calledChannel s g c) :=
  .of_position (calledChannel_position s g c) fun k => by rw [h] at k; cases k

theorem keepsPlace_channelEvent (fullScale holdTime now : Nat) (ev : SlotEvent) (c : Channel) :
    KeepsPlace fullScale c (channelEvent holdTime now ev c) := by
  refine .of_position (channelEvent_frame now ev c holdTime).1 fun h => ?_
  obtain ⟨-, -, hother⟩ := channelEvent_states holdTime now ev c
  refine (hother ?_ ?_ ?_).1 <;> rintro k <;> simp [k, knowsPosition] at h

theorem keepsPlace_standstillEvent (fullScale : Nat) (threshold : Int) (now : Nat) (ev : SlotEvent) (e : Int)
    (c : Channel) : KeepsPlace fullScale c (standstillEvent threshold now ev e c) := by
  obtain ⟨hposition, -, hstate, -⟩ := standstillEvent_frame now ev e c threshold
  exact .of_position hposition fun _ => hstate

/-! ## An invariant of the channels -/

/-- An invariant of the gauges, the tables and LOADING: what has to be shown of it. Every operation but START entry and
the expiry of the never-grace timer moves a channel through `putChannel` or `putBand`; the tables change in LOADING
alone. -/
structure GaugeInvariant (P : State → Prop) : Prop where
  frame : ∀ s t : State, t.tables = s.tables → t.gauges = s.gauges →
    (t.control.part = .loading → s.control.part = .loading) → P s → P t
  put : ∀ (s : State) (g : Fin 6) (c : Channel), KeepsPlace (gaugeRecord s g).fullScale (channelOf s g) c → P s →
    P (putChannel g c s)
  band : ∀ (s : State) (g : Fin 6) (i : Fin 2) (b : BandState), P s → P (putBand g i b s)
  start : ∀ s : State, s.control.part ≠ .loading → P s → P (startGauges s)
  grace : ∀ s : State, P s → P (expireGrace s)
  tables : ∀ s t : State, s.control.part = .loading → t.gauges = s.gauges → P s → P t

end Sys2Proof.Proofs

/-! Proofs. O6 and the channels' part of O14: what every step keeps of the channels. -/

namespace Sys2Proof.Proofs

open Sys2Proof Sys2Proof.Machine Sys2Proof.Claims

/-! ## LOADING is not entered -/

theorem loading_of_checkRun {s : State} (h : (checkRun s).control.part = .loading) : s.control.part = .loading := by
  unfold checkRun at h
  split at h
  · cases h
  · exact h

theorem loading_of_reportStartDone {g : Fin 6} {s : State} (h : (reportStartDone g s).control.part = .loading) :
    s.control.part = .loading := by
  unfold reportStartDone at h
  split at h
  · simpa using loading_of_checkRun h
  · exact h

theorem loading_of_reportProvingEnd {s : State} (h : (reportProvingEnd s).control.part = .loading) :
    s.control.part = .loading := by
  unfold reportProvingEnd at h
  split at h
  · simpa using loading_of_checkRun h
  · exact h

theorem loading_of_trySleep {s : State} (h : (trySleep s).control.part = .loading) : s.control.part = .loading := by
  unfold trySleep at h
  split at h
  · simp at h
  · exact h

theorem loading_of_wakeByLine {s : State} (h : (wakeByLine s).control.part = .loading) :
    s.control.part = .loading := by
  unfold wakeByLine at h
  split at h
  · simp [wakeToListening, restartStatus, restartDistanceReport] at h
  · exact h

/-! ## The part state through the work of the Record Store and the Distance Unit -/

@[simp] theorem setErrorIndication_part (s : State) : (setErrorIndication s).control.part = s.control.part := by
  simp [setErrorIndication]

@[simp] theorem changeStoreState_part (st : StoreState) (s : State) :
    (changeStoreState st s).control.part = s.control.part := by
  simp only [changeStoreState]
  repeat' split
  all_goals simp

@[simp] theorem beginAttempt_part (w : Write) (s : State) : (beginAttempt w s).control.part = s.control.part := by
  simp [beginAttempt]

@[simp] theorem startWrite_part (s : State) : (startWrite s).control.part = s.control.part := by
  simp only [startWrite]
  repeat' split
  all_goals simp

@[simp] theorem requestWrite_part (s : State) : (requestWrite s).control.part = s.control.part := by
  simp only [requestWrite]
  repeat' split
  all_goals simp

@[simp] theorem endWrite_part (s : State) : (endWrite s).control.part = s.control.part := by
  simp only [endWrite]
  repeat' split
  all_goals simp

@[simp] theorem programmingDone_part (attempt : Nat) (s : State) :
    (programmingDone attempt s).control.part = s.control.part := by
  simp only [programmingDone]
  repeat' split
  all_goals simp

@[simp] theorem verifyWrite_part (w : Write) (s : State) : (verifyWrite w s).control.part = s.control.part := by
  simp [verifyWrite]

@[simp] theorem rewrite_part (w : Write) (s : State) : (rewrite w s).control.part = s.control.part := by
  simp only [rewrite]
  repeat' split
  all_goals simp

@[simp] theorem retireSlot_part (w : Write) (s : State) : (retireSlot w s).control.part = s.control.part := by
  simp only [retireSlot]
  repeat' split
  all_goals simp

@[simp] theorem failAttempt_part (w : Write) (s : State) : (failAttempt w s).control.part = s.control.part := by
  simp only [failAttempt]
  repeat' split
  all_goals simp

@[simp] theorem readBack_part (attempt : Nat) (bytes : List Byte) (s : State) :
    (readBack attempt bytes s).control.part = s.control.part := by
  simp only [readBack]
  repeat' split
  all_goals simp

@[simp] theorem attemptTimedOut_part (s : State) : (attemptTimedOut s).control.part = s.control.part := by
  simp only [attemptTimedOut]
  repeat' split
  all_goals simp

@[simp] theorem storeTrigger_part (s : State) : (storeTrigger s).control.part = s.control.part := by
  simp only [storeTrigger]
  repeat' split
  all_goals simp

@[simp] theorem putDistance_part (d : Distance) (s : State) : (putDistance d s).control.part = s.control.part := by
  simp only [putDistance]
  repeat' split
  all_goals simp

@[simp] theorem distanceSampleAt_part (due : Nat) (s : State) :
    (distanceSampleAt due s).control.part = s.control.part := by
  simp only [distanceSampleAt]
  repeat' split
  all_goals simp

@[simp] theorem reconcile_part (r : Nat) (s : State) : (reconcile r s).control.part = s.control.part := by
  simp only [reconcile]
  repeat' split
  all_goals simp

@[simp] theorem recorderDistance_part (payload : List Byte) (s : State) :
    (recorderDistance payload s).control.part = s.control.part := by
  simp only [recorderDistance]
  repeat' split
  all_goals simp

@[simp] theorem supplyLowEvent_part (s : State) : (supplyLowEvent s).control.part = s.control.part := by
  simp only [supplyLowEvent]
  repeat' split
  all_goals simp

/-! ## Reports, postings and the override -/

namespace GaugeInvariant

variable {P : State → Prop} (h : GaugeInvariant P)
include h

/-- What leaves gauges, tables and State Controller keeps the invariant. -/
theorem idle {s t : State} (htables : t.tables = s.tables) (hgauges : t.gauges = s.gauges)
    (hcontrol : t.control = s.control) (hs : P s) : P t :=
  h.frame s t htables hgauges (by rw [hcontrol]; exact id) hs

/-- An operation that leaves gauges, tables and State Controller keeps the invariant. -/
theorem leaves (f : State → State) (hf : ∀ t, (f t).tables = t.tables ∧ (f t).gauges = t.gauges
    ∧ (f t).control = t.control) (s : State) (hs : P s) : P (f s) := by
  obtain ⟨htables, hgauges, hcontrol⟩ := hf s
  exact h.idle htables hgauges hcontrol hs

theorem enterCalled {g : Fin 6} {c : Channel} {s : State}
    (hplace : KeepsPlace (gaugeRecord s g).fullScale (channelOf s g) (calledChannel s g c)) (hs : P s) :
    P (enterCalled g c s) := h.put s g _ hplace hs

theorem endOverride (s : State) (hs : P s) : P (endOverride s) := by
  unfold Machine.endOverride
  split
  · refine foldl_inv P _ (fun t g ht => ?_) _ _ (h.idle (by simp) (by simp) (by simp) hs)
    unfold endGaugeOverride
    split
    · next hstate => exact h.enterCalled (keepsPlace_calledChannel _ (by rw [hstate]; rfl) t g) ht
    · exact ht
  · exact hs

theorem startOverride (p : Pattern) (fraction : Nat) (beep : Bool) (s : State) (hs : P s) :
    P (startOverride p fraction beep s) := by
  have hgauges : ∀ t, P t → P (startGaugesOverride t) := by
    refine foldl_inv P _ (fun t g ht => ?_) _
    unfold startGaugeOverride
    split
    · exact h.put t g _ (keepsPlace_startOverride _ _ _) ht
    · exact ht
  simp only [Machine.startOverride]
  split
  · exact h.leaves (postChime .test .notice) (by simp) _ (hgauges _ (h.idle (by simp) (by simp) (by simp) hs))
  · exact hgauges _ (h.idle (by simp) (by simp) (by simp) hs)

theorem reportReds (changes : List DemandChange) (s : State) (hs : P s) :
    P (changes.foldl (fun t c => reportRed c t) s) := by
  refine foldl_inv P _ (fun t c ht => ?_) _ _ hs
  unfold reportRed
  split
  · exact h.endOverride t ht
  · exact ht

theorem applyConditions (f : Demand → Bool) (s : State) (hs : P s) : P (applyConditions f s) := by
  simp only [Machine.applyConditions]
  exact foldl_inv P _ (fun t c => h.leaves (announce c) (by simp) t) _ _
    (h.reportReds _ _ (h.idle (by simp) (by simp) (by simp) hs))

theorem takeSource (src : Source) (on : Bool) (s : State) (hs : P s) : P (takeSource src on s) :=
  h.applyConditions _ _ (h.idle (by simp) (by simp) (by simp) hs)

theorem finish (s : State) (hs : P s) : P (finish s) :=
  finish_inv P (fun s x => h.idle (by simp) (by simp) (by simp)) h.takeSource
    (fun s => h.frame _ _ (by simp) (by simp) loading_of_trySleep)
    (fun s => h.idle (by simp) (by simp) (by simp)) s hs

theorem beginEvaluating (s : State) (hs : P s) : P (beginEvaluating s) :=
  h.reportReds _ _ (h.idle (by simp) (by simp) (by simp) hs)

/-! ## Notifications and frames -/

theorem notifyBand (g : Fin 6) (i : Fin 2) (ev : SlotEvent) (e : Int) (s : State) (hs : P s) :
    P (notifyBand g i ev e s) := by
  unfold Machine.notifyBand
  split
  · exact hs
  · cases ev <;> exact h.band _ _ _ _ hs

theorem gaugeSlot (slot : Fin 64) (ev : SlotEvent) (e : Int) (s : State) (hs : P s) : P (gaugeSlot slot ev e s) := by
  have hsource : ∀ t g, P t → P (notifySource g ev e t) := by
    intro t g ht
    unfold notifySource
    refine h.notifyBand _ _ _ _ _ (h.notifyBand _ _ _ _ _ ?_)
    split
    · exact h.put t g _ (keepsPlace_channelEvent _ _ _ _ _) ht
    · exact ht
  have hstandstill : ∀ t g, P t → P (notifyStandstill g slot ev e t) := by
    intro t g ht
    unfold notifyStandstill
    split
    · split
      · exact h.put t g _ (keepsPlace_standstillEvent _ _ _ _ _ _) ht
      · exact ht
    · exact ht
  refine foldl_inv P _ (fun t g ht => hstandstill _ g ?_) _ _ hs
  split
  · exact hsource t g ht
  · exact ht

theorem notifyConsumers (slot : Fin 64) (ev : SlotEvent) (s : State) (hs : P s) : P (notifyConsumers slot ev s) := by
  have htold := h.applyConditions (slotCondition slot s.slots[slot].value s.slots[slot].quality) _
    (h.gaugeSlot slot ev s.slots[slot].value s hs)
  exact h.leaves (rosterSlot slot s.slots[slot].value s.slots[slot].quality) (by simp) _ htold

theorem treatDescriptor (sender limit : Nat) (payload : List Byte) (s : State) (d : Descriptor) (hs : P s) :
    P (treatDescriptor sender limit payload s d) := by
  have hput : ∀ x, P (putSlot d.target x s) := fun x => h.leaves (putSlot d.target x) (by simp [putSlot]) s hs
  simp only [Machine.treatDescriptor]
  repeat' split
  · exact h.idle (by simp) (by simp) (by simp) hs
  · exact h.notifyConsumers _ _ _ (hput _)
  · exact hs

theorem staleSlot (slot : Fin 64) (s : State) (hs : P s) : P (staleSlot slot s) :=
  have hput : ∀ x, P (putSlot slot x s) := fun x => h.leaves (putSlot slot x) (by simp [putSlot]) s hs
  h.notifyConsumers slot .staled _ (hput _)

theorem treatEntry (sender : Nat) (payload : List Byte) (s : State) (e : IntakeEntry) (hs : P s) :
    P (treatEntry sender payload s e) := by
  unfold Machine.treatEntry
  split
  · exact foldl_inv P _ (fun t d => h.treatDescriptor _ _ _ t d) _ _ hs
  all_goals exact h.frame s _ (by simp) (by simp) (by simp) hs

theorem executeRequest (code : Nat) (args : List Byte) (s : State) (hs : P s) : P (executeRequest code args s).2 :=
  executeRequest_inv P (fun t => h.frame t _ (by simp) (by simp) (by simp)) (fun p n b t _ => h.startOverride p n b t)
    h.endOverride (fun t => h.frame _ _ (by simp) (by simp) id) code args s hs

theorem goodFrame (key : Key) (payload : List Byte) (s : State) (hs : P s) : P (goodFrame key payload s) :=
  goodFrame_inv P (fun _ t => h.idle (by simp) (by simp) (by simp)) (fun t => h.idle (by simp) (by simp) (by simp))
    (fun _ t => h.idle (by simp) (by simp) (by simp)) (fun _ _ _ t => h.idle (by simp) (by simp) (by simp))
    (fun _ n p t => foldl_inv P _ (fun t e => h.treatEntry n p t e) _ t)
    (takeRequest_inv P (fun t => h.idle (by simp) (by simp) (by simp)) h.executeRequest
      (fun _ _ _ t => h.idle (by simp) (by simp) (by simp))) key payload s hs

theorem receiveGood (urgency topic : Nat) (sender : BitVec 6) (payload : List Byte) (s : State) (hs : P s) :
    P (receiveGood urgency topic sender payload s) :=
  receive_inv P (fun t => h.idle (by simp) (by simp) (by simp)) _ (h.goodFrame _ _) s hs

theorem judgeFrame (f : Frame) (s : State) (hs : P s) : P (judgeFrame f s) := by
  unfold Machine.judgeFrame
  split
  · exact h.goodFrame _ _ _ hs
  · exact h.idle (by simp) (by simp) (by simp) hs

/-! ## Motion and stalls -/

theorem setErrorIndication (s : State) (hs : P s) : P (setErrorIndication s) :=
  h.frame s _ (by simp) (by simp) (by simp) hs

theorem reportStartDone (g : Fin 6) (s : State) (hs : P s) : P (reportStartDone g s) :=
  h.frame s _ (by simp) (by simp) loading_of_reportStartDone hs

theorem endHoming {g : Fin 6} {c : Channel} {s : State} (hstate : (channelOf s g).state ≠ .unhomed) (hs : P s) :
    P (endHoming g c.homed s) := by
  have hplaced : placed (gaugeRecord s g).fullScale c.homed := placed_homed _ c
  have hcalled : P (Machine.enterCalled g c.homed s) :=
    h.enterCalled (.of_placed hstate (by simpa [placed] using hplaced)) hs
  unfold Machine.endHoming
  repeat' split
  · exact hcalled
  · exact h.reportStartDone g _ hcalled
  · exact h.put s g _ (.of_placed hstate hplaced) hs
  · exact h.reportStartDone g _ hcalled
  · exact hcalled

theorem motionWork (g : Fin 6) (due : Nat) (s : State) (hs : P s) : P (motionWork g due s) := by
  have hmoved : ∀ (c : Channel) (goal : Nat), (channelOf s g).state ≠ .unhomed →
      KeepsPlace (gaugeRecord s g).fullScale (channelOf s g) (c.moveTo (gaugeRecord s g) goal) :=
    fun c goal hstate => .of_placed hstate (placed_moveTo _ goal c)
  simp only [Machine.motionWork]
  split
  case h_1 hstate =>
    have hstate' : (channelOf s g).state ≠ .unhomed := by simp [hstate]
    simp only [homingPeriod]
    split
    · exact h.endHoming hstate' hs
    · refine h.put s g _ (.of_unknown hstate' ?_) hs
      simp [hstate, knowsPosition]
  case h_2 hstate =>
    have hstate' : (channelOf s g).state ≠ .unhomed := by simp [hstate]
    simp only [sweepPeriod]
    split
    · split
      · exact h.reportStartDone g _ (h.enterCalled (.of_placed hstate' (by simpa [placed] using placed_moveTo _ 0 _))
          hs)
      · exact h.put s g _ (hmoved _ _ hstate') hs
    · refine h.put s g _ (.of_placed hstate' ?_) hs
      split <;> exact placed_moveTo _ _ _
    · exact h.put s g _ (hmoved _ _ hstate') hs
  case h_3 hstate | h_4 hstate | h_5 hstate | h_6 hstate =>
    refine h.put s g _ (hmoved _ _ ?_) hs
    simp [hstate]
  case h_7 hstate =>
    have hstate' : (channelOf s g).state ≠ .unhomed := by simp [hstate]
    simp only [parkingPeriod]
    refine h.put s g _ (.of_placed hstate' ?_) hs
    split
    · exact ⟨0, rfl, Nat.zero_le _⟩
    · exact placed_moveTo _ _ _
  all_goals exact hs

theorem stallChannel (g : Fin 6) (s : State) (hs : P s) : P (stallChannel g s) := by
  have hcount : P (count 0 s) := h.idle (by simp) (by simp) (by simp) hs
  have hchannel : channelOf (count 0 s) g = channelOf s g := by simp [channelOf]
  simp only [Machine.stallChannel]
  split
  · exact hs
  · next hstall =>
    have hstate : (channelOf (count 0 s) g).state ≠ .unhomed := by
      rw [hchannel]
      intro k
      exact hstall (.inr (.inl (by rw [k]; rfl)))
    split
    · exact h.put _ g (Channel.rehome _) (.of_unknown hstate rfl) hcount
    · have hfail : ∀ c : Channel, P (putChannel g c.fail (count 0 s)) :=
        fun c => h.put _ g _ (.of_unknown hstate (by rfl)) hcount
      exact h.reportStartDone g _ (h.setErrorIndication _ (hfail _))

theorem endHoldOf (g : Fin 6) (s : State) (hs : P s) : P (endHoldOf g s) := by
  unfold Machine.endHoldOf
  split
  · next hstate => exact h.put s g _ (.of_position rfl fun k => by simp [hstate, knowsPosition] at k) hs
  · exact hs

theorem standstillOn (g : Fin 6) (s : State) (hs : P s) : P (standstillOn g s) :=
  h.put s g _ (.of_position rfl fun _ => rfl) hs

/-! ## Part states -/

theorem ignitionOffGauges (s : State) (hs : P s) : P (ignitionOffGauges s) := by
  refine foldl_inv P _ (fun t g ht => ?_) _ _ hs
  unfold ignitionOffGauge
  split
  · exact h.put t g _ (keepsPlace_ignitionOff _ _) ht
  · exact ht

theorem restartStatus (period : Nat) (s : State) (hs : P s) : P (restartStatus period s) :=
  h.frame s _ (by simp) (by simp) (by simp [Machine.restartStatus]) hs

theorem restartDistanceReport (s : State) (hs : P s) : P (restartDistanceReport s) :=
  h.frame s _ (by simp) (by simp) (by simp [Machine.restartDistanceReport]) hs

theorem enterStart (s : State) (hs : P s) : P (enterStart s) :=
  h.restartStatus _ _ (h.leaves (fun t => startRoster (startReadout (clearChime true (startTelltale t)))) (by simp) _
    (h.start (startControl s) (by simp [startControl])
      (h.frame _ _ (by simp [startControl]) (by simp) (by simp [startControl]) hs)))

theorem enterAfterRun (s : State) (hs : P s) : P (enterAfterRun s) :=
  h.endOverride _ (h.leaves (fun t => pageHome (clearChime false (ignitionOffTelltale t))) (by simp) _
    (h.ignitionOffGauges _ (h.frame _ _ (by simp) (by simp) (by simp) hs)))

theorem enterListening (s : State) (hs : P s) : P (enterListening s) :=
  h.restartStatus _ _ (h.leaves (enterLamps .off) (by simp) _ (h.frame s _ (by simp) (by simp) (by simp) hs))

theorem wakeToListening (s : State) (hs : P s) : P (wakeToListening s) :=
  h.restartDistanceReport _ (h.restartStatus _ _ (h.frame s _ (by simp) (by simp) (by simp) hs))

theorem debounced (s : State) (hs : P s) : P (if s.control.ignition then ignitionOn s else ignitionOff s) := by
  split
  · unfold ignitionOn
    split
    case h_1 | h_2 => exact h.enterStart s hs
    case h_3 => exact h.restartDistanceReport _ (h.enterStart _ (h.leaves wakeLine (by simp) s hs))
    all_goals exact hs
  · unfold ignitionOff
    split
    case h_1 | h_2 => exact h.enterAfterRun s hs
    all_goals exact hs

theorem finishLoading (s : State) (hs : P s) : P (finishLoading s) := by
  unfold Machine.finishLoading
  extract_lets line s1 driver s2 distance s3 readout s4 s5 s6 s7
  have h5 : P s5 := h.beginEvaluating s4 (h.idle (s := s) (by simp [s4, s3, s2, s1]) (by simp [s4, s3, s2, s1])
    (by simp [s4, s3, s2, s1]) hs)
  have h6 : P s6 := by
    simp only [s6]
    split
    · exact h.leaves (postPopup 56 .urgent false) (by simp) s5 h5
    · exact h5
  have h7 : P s7 := by
    simp only [s7]
    split
    · exact h.setErrorIndication s6 h6
    · exact h6
  exact h.leaves (fun t => pageHome (firstWrite t)) (by simp) s7 h7

theorem tryEndLoading (s : State) (hs : P s) : P (tryEndLoading s) :=
  tryEndLoading_inv P h.finishLoading h.enterStart h.enterListening h.restartDistanceReport s hs

theorem restoreDone (readable : Bool) (s : State) (hs : P s) : P (restoreDone readable s) :=
  h.tryEndLoading _ (h.frame s _ (by simp) (by simp) (by simp) hs)

theorem imageRead (area : List Byte) (s : State) (hs : P s) : P (imageRead area s) := by
  by_cases hloading : s.control.part = .loading
  · exact h.tables s _ hloading (by simp) hs
  · simpa [Machine.imageRead, loadingPhase, hloading] using hs

theorem restoreSlot (bytes : List Byte) (s : State) (hs : P s) : P (restoreSlot bytes s) := by
  simp only [Machine.restoreSlot]
  repeat' split
  · exact h.restoreDone true _ (h.idle (by simp) (by simp) (by simp) hs)
  · exact h.frame s _ (by simp) (by simp) (by simp) hs
  · exact hs

theorem loadingReadFailed (s : State) (hs : P s) : P (loadingReadFailed s) := by
  unfold Machine.loadingReadFailed
  repeat' split
  · next hloading => exact h.tables s _ (by simp [loadingPhase] at hloading; exact hloading.1) (by simp) hs
  · exact h.restoreDone false s hs
  · exact hs

theorem debounceIgnition (s : State) (hs : P s) : P (debounceIgnition s) := by
  simp only [Machine.debounceIgnition]
  split
  · exact h.tryEndLoading _ (h.frame s _ (by simp) (by simp) (by simp) hs)
  · exact h.tryEndLoading _ (h.debounced _ (h.frame s _ (by simp) (by simp) (by simp) hs))

theorem buttonPressed (b : Button) (s : State) (hs : P s) : P (buttonPressed b s) := by
  simp only [Machine.buttonPressed]
  split
  · exact h.wakeToListening _ (h.idle (by simp) (by simp) (by simp) hs)
  · exact h.idle (by simp) (by simp) (by simp) hs

theorem debounceButton (b : Button) (s : State) (hs : P s) : P (debounceButton b s) := by
  simp only [Machine.debounceButton]
  repeat' split
  · exact h.idle (by simp) (by simp) (by simp) hs
  · exact h.buttonPressed b s hs
  · exact h.idle (by simp) (by simp) (by simp) hs

/-! ## Commands -/

theorem timer (due : Option Nat) (f : Nat → State → State) (hf : ∀ d t, P t → P (f d t)) (s : State) (hs : P s) :
    P (onExpiry due f s) :=
  onExpiry_inv P due f hf (fun _ t => h.idle (by simp) (by simp) (by simp)) s hs

/-- Every command but POWER_ON keeps the invariant before its end. -/
theorem effectOf (c : Instr) (s : State) (hs : P s) : P (effectOf c s) := by
  cases c
  case powerOn => exact hs
  case configImageRead area => exact h.imageRead area s hs
  case restoreSlotRead bytes => exact h.restoreSlot bytes s hs
  case memoryReadTimeout => exact h.timer _ _ (fun _ => h.loadingReadFailed) s hs
  case ignitionDebounceExpiry => exact h.timer _ _ (fun _ => h.debounceIgnition) s hs
  case afterRunExpiry =>
    exact h.timer _ _ (fun _ t ht => h.enterListening _ (h.frame t _ (by simp) (by simp) (by simp) ht)) s hs
  case lineWake => exact h.frame s _ (by simp [Machine.effectOf]) (by simp [Machine.effectOf]) loading_of_wakeByLine hs
  case frameReceived f =>
    exact receive_inv P (fun t => h.idle (by simp) (by simp) (by simp)) _ (h.judgeFrame f) s hs
  case timeMark | presence | readState | readSlot | readRoster | readHealth | clearHealth | readDistance
      | testOverride | endOverride | ackErrorIndication | unknownRequest =>
    exact h.receiveGood _ _ _ _ s hs
  case overrideExpiry => exact h.timer _ _ (fun _ => h.endOverride) s hs
  case staleExpiry slot =>
    exact h.timer _ _ (fun _ => h.staleSlot slot) s hs
  case motionPeriod g => exact h.timer _ _ (h.motionWork g) s hs
  case stall g => exact h.stallChannel g s hs
  case holdExpiry g => exact h.timer _ _ (fun _ => h.endHoldOf g) s hs
  case standstillExpiry g => exact h.timer _ _ (fun _ => h.standstillOn g) s hs
  case neverGraceExpiry => exact h.timer _ _ (fun _ => h.grace) s hs
  case persistenceExpiry g i => exact h.timer _ _ (fun _ t ht => h.band t g i .active ht) s hs
  case provingExpiry =>
    exact h.timer _ _ (fun _ t => h.frame t _ (by simp) (by simp)
      fun k => by simpa using loading_of_reportProvingEnd k) s hs
  case buttonDebounceExpiry b => exact h.timer _ _ (fun _ => h.debounceButton b) s hs
  case supplyLow => exact h.frame s _ (by simp [Machine.effectOf]) (by simp [Machine.effectOf]) (by simp
      [Machine.effectOf]) hs
  case ignitionInputChange level =>
    refine h.frame s _ (by simp [Machine.effectOf]) (by simp [Machine.effectOf]) ?_ hs
    simp only [Machine.effectOf, ignitionInput]
    split <;> simp
  case writeAttemptTimeout | distanceSample | clusterStatusTimer | distanceReportTimer =>
    exact h.timer _ _ (fun _ t => h.frame t _ (by simp) (by simp) (by simp [statusExpiry, distanceReportExpiry])) s hs
  case programmingComplete | readBackComplete =>
    exact h.frame s _ (by simp [Machine.effectOf]) (by simp [Machine.effectOf]) (by simp [Machine.effectOf]) hs
  case presenceReplyDelayEnd | mutingExpiry | peerSilenceExpiry | lampPhaseExpiry | chimePatternTimer
      | longPressExpiry | listeningWindowExpiry | driverStaleExpiry | secondMark | driverSpeedSample | slewStep
      | holdoverExpiry | silenceMark | lossMark | censusClose =>
    exact h.timer _ _ (fun _ t => h.idle (by simp) (by simp) (by simp)) s hs
  all_goals exact h.idle (by simp [Machine.effectOf]) (by simp [Machine.effectOf]) (by simp [Machine.effectOf]) hs

end GaugeInvariant

end Sys2Proof.Proofs

/-! Proofs. The operations that go through all gauges: what they make of each channel. -/

namespace Sys2Proof.Proofs

open Sys2Proof Sys2Proof.Machine Sys2Proof.Claims

/-! ## An operation on the gauges in turn -/

/-- What the operations on channels read besides the channel is the same in two states. -/
structure SameInputs (s t : State) : Prop where
  now : t.now = s.now
  tables : t.tables = s.tables
  control : t.control = s.control
  slots : t.slots = s.slots
  service : t.service = s.service
  grace : t.gauges.grace = s.gauges.grace

theorem SameInputs.refl (s : State) : SameInputs s s := ⟨rfl, rfl, rfl, rfl, rfl, rfl⟩

theorem SameInputs.trans {s t u : State} (h : SameInputs s t) (k : SameInputs t u) : SameInputs s u :=
  ⟨k.now.trans h.now, k.tables.trans h.tables, k.control.trans h.control, k.slots.trans h.slots,
    k.service.trans h.service, k.grace.trans h.grace⟩

theorem SameInputs.record {s t : State} (h : SameInputs s t) (g : Fin 6) : gaugeRecord t g = gaugeRecord s g :=
  gaugeRecord_congr h.tables g

theorem sameInputs_putChannel (g : Fin 6) (c : Channel) (s : State) : SameInputs s (putChannel g c s) :=
  ⟨by simp, by simp, by simp, by simp, by simp, putChannel_grace g c s⟩

theorem sameInputs_putBand (g : Fin 6) (i : Fin 2) (b : BandState) (s : State) : SameInputs s (putBand g i b s) :=
  ⟨by simp, by simp, by simp, by simp, by simp, by rw [putBand_gauges]⟩

/-- The state called for reads no more than these inputs. -/
theorem SameInputs.calledChannel {s t : State} (h : SameInputs s t) (g : Fin 6) (c : Channel) :
    calledChannel t g c = calledChannel s g c := by
  have hsource : sourceSlot t g = sourceSlot s g := by simp only [sourceSlot, h.record g, h.slots]
  have hposition : overridePositionOf t g = overridePositionOf s g := by
    simp only [overridePositionOf, h.record g, h.service]
  simp only [Machine.calledChannel, h.control, h.service, h.now, h.record g, hsource, hposition]

/-- An operation at one gauge: it moves the gauge's own channel alone. -/
structure MovesOwn (s : State) (f : State → Fin 6 → State) (move : Fin 6 → Channel → Channel) : Prop where
  inputs : ∀ t g, SameInputs s t → SameInputs s (f t g)
  own : ∀ t g, SameInputs s t → channelOf (f t g) g = move g (channelOf t g)
  others : ∀ t g g', SameInputs s t → g' ≠ g → channelOf (f t g) g' = channelOf t g'

theorem MovesOwn.foldl {s : State} {f : State → Fin 6 → State} {move : Fin 6 → Channel → Channel}
    (h : MovesOwn s f move) : ∀ (l : List (Fin 6)) (t : State), l.Nodup → SameInputs s t →
      SameInputs s (l.foldl f t)
      ∧ ∀ g, channelOf (l.foldl f t) g = if g ∈ l then move g (channelOf t g) else channelOf t g
  | [], _, _, ht => ⟨ht, fun _ => by simp⟩
  | g :: l, t, hnodup, ht => by
    obtain ⟨hg, hl⟩ := List.nodup_cons.mp hnodup
    obtain ⟨hinputs, ih⟩ := h.foldl l (f t g) hl (h.inputs t g ht)
    refine ⟨hinputs, fun g' => ?_⟩
    rw [List.foldl_cons, ih g']
    by_cases hg' : g' = g
    · subst hg'
      simp [hg, h.own t g' ht]
    · simp [hg', h.others t g g' ht hg']

/-- An operation on all gauges in turn moves each channel as it stood before. -/
theorem MovesOwn.all {s : State} {f : State → Fin 6 → State} {move : Fin 6 → Channel → Channel}
    (h : MovesOwn s f move) : SameInputs s (allGauges.foldl f s)
      ∧ ∀ g, channelOf (allGauges.foldl f s) g = move g (channelOf s g) := by
  obtain ⟨hinputs, hchannels⟩ := h.foldl allGauges s (by decide) (.refl s)
  refine ⟨hinputs, fun g => ?_⟩
  rw [hchannels g, if_pos (by revert g; decide)]

/-- Putting a channel at each gauge where a test holds. -/
theorem movesOwn_putChannel (s : State) {f : State → Fin 6 → State} {move : Fin 6 → Channel → Channel}
    (h : ∀ t g, SameInputs s t → (∃ c, f t g = putChannel g c t
        ∧ withFault (gaugeRecord s g) s.gauges.grace c = move g (channelOf t g))
      ∨ f t g = t ∧ move g (channelOf t g) = channelOf t g) : MovesOwn s f move where
  inputs t g ht := by
    rcases h t g ht with ⟨c, hput, -⟩ | ⟨hsame, -⟩
    · rw [hput]
      exact ht.trans (sameInputs_putChannel g c t)
    · rwa [hsame]
  own t g ht := by
    rcases h t g ht with ⟨c, hput, hmove⟩ | ⟨hsame, hmove⟩
    · rw [hput, channelOf_putChannel_same, channelFault_withFault, ht.record g, ht.grace, hmove]
    · rw [hsame, hmove]
  others t g g' ht hg' := by
    rcases h t g ht with ⟨c, hput, -⟩ | ⟨hsame, -⟩
    · rw [hput, channelOf_putChannel_other hg']
    · rw [hsame]

/-! ## START entry, grace, ignition off, override -/

/-- A channel after START entry (R30, R43). -/
def startedChannel (r : GaugeRecord) (now : Nat) (c : Channel) : Channel :=
  let c1 := { c with bands := (c.bands.set 0 .inactive).set 1 .inactive }
  if r.enabled then withFault r (.running (now + graceMs)) (c1.restart now) else c1

/-- The bands of a gauge go INACTIVE (R43). -/
theorem bandsInactive_channels (g : Fin 6) (t : State) :
    SameInputs t (putBand g 1 .inactive (putBand g 0 .inactive t))
    ∧ channelOf (putBand g 1 .inactive (putBand g 0 .inactive t)) g
      = { channelOf t g with bands := ((channelOf t g).bands.set 0 .inactive).set 1 .inactive }
    ∧ ∀ g', g' ≠ g → channelOf (putBand g 1 .inactive (putBand g 0 .inactive t)) g' = channelOf t g' := by
  refine ⟨(sameInputs_putBand _ _ _ _).trans (sameInputs_putBand _ _ _ _), ?_, fun g' hg' => ?_⟩
  · simp [channelOf, putBand_gauges]
  · have hval : g.val ≠ g'.val := fun e => hg' (Fin.ext e.symm)
    simp [channelOf, putBand_gauges, hval]

theorem movesOwn_startGauge {s : State} (hgrace : s.gauges.grace = .running (s.now + graceMs)) :
    MovesOwn s startGauge (fun g => startedChannel (gaugeRecord s g) s.now) := by
  refine ⟨fun t g ht => ?_, fun t g ht => ?_, fun t g g' ht hg' => ?_⟩ <;>
    obtain ⟨hinputs, hown, hothers⟩ := bandsInactive_channels g t <;>
    generalize hu : putBand g 1 .inactive (putBand g 0 .inactive t) = u at hinputs hown hothers <;>
    simp only [startGauge, hu, ht.record g] <;> split
  · exact (ht.trans hinputs).trans (sameInputs_putChannel _ _ _)
  · exact ht.trans hinputs
  · next henabled =>
    rw [channelOf_putChannel_same, channelFault_withFault, (ht.trans hinputs).record g, (ht.trans hinputs).grace,
      (ht.trans hinputs).now, hown, hgrace, startedChannel, if_pos henabled]
  · next henabled => rw [hown, startedChannel, if_neg henabled]
  · rw [channelOf_putChannel_other hg', hothers g' hg']
  · exact hothers g' hg'

/-- What START entry makes of each channel (R30, R40, R43). -/
theorem startGauges_channels (s : State) : (startGauges s).gauges.grace = .running (s.now + graceMs)
    ∧ ∀ g, channelOf (startGauges s) g = startedChannel (gaugeRecord s g) s.now (channelOf s g) := by
  obtain ⟨u, hu⟩ : ∃ u, u = s.setGauges { s.gauges with grace := .running (s.now + graceMs) } := ⟨_, rfl⟩
  have hstart : startGauges s = allGauges.foldl startGauge u := by rw [hu]; rfl
  obtain ⟨hinputs, hchannels⟩ := (movesOwn_startGauge (s := u) (by simp [hu])).all
  rw [hstart]
  refine ⟨hinputs.grace.trans (by simp [hu]), fun g => ?_⟩
  rw [hchannels g, hu]
  rfl

/-- What the expiry of the never-grace timer makes of each channel (R40). -/
theorem expireGrace_channels (s : State) : (expireGrace s).gauges.grace = .expired
    ∧ ∀ g, channelOf (expireGrace s) g = withFault (gaugeRecord s g) .expired (channelOf s g) := by
  obtain ⟨u, hu⟩ : ∃ u, u = s.setGauges { s.gauges with grace := .expired } := ⟨_, rfl⟩
  have hexpire : expireGrace s = allGauges.foldl reviewFault u := by rw [hu]; rfl
  have hmoves : MovesOwn u reviewFault (fun g => withFault (gaugeRecord u g) u.gauges.grace) :=
    movesOwn_putChannel u fun t g _ => .inl ⟨channelOf t g, rfl, rfl⟩
  obtain ⟨hinputs, hchannels⟩ := hmoves.all
  rw [hexpire]
  refine ⟨hinputs.grace.trans (by simp [hu]), fun g => ?_⟩
  rw [hchannels g, hu]
  rfl

/-- What ignition off makes of each channel (R38). -/
theorem ignitionOffGauges_channels (s : State) : SameInputs s (ignitionOffGauges s)
    ∧ ∀ g, channelOf (ignitionOffGauges s) g = if (gaugeRecord s g).enabled then
        withFault (gaugeRecord s g) s.gauges.grace (channelOf s g).ignitionOff else channelOf s g := by
  refine (movesOwn_putChannel s (f := ignitionOffGauge) (move := fun g c => if (gaugeRecord s g).enabled then
    withFault (gaugeRecord s g) s.gauges.grace c.ignitionOff else c) fun t g ht => ?_).all
  simp only [ignitionOffGauge, ht.record g]
  split
  · exact .inl ⟨_, rfl, rfl⟩
  · exact .inr ⟨rfl, rfl⟩

/-- What the start of the override makes of each channel (R21, R41). -/
theorem startGaugesOverride_channels (s : State) : SameInputs s (startGaugesOverride s)
    ∧ ∀ g, channelOf (startGaugesOverride s) g = if (gaugeRecord s g).enabled = true ∧ s.control.fallback = false then
        withFault (gaugeRecord s g) s.gauges.grace ((channelOf s g).startOverride (overridePositionOf s g))
        else channelOf s g := by
  refine (movesOwn_putChannel s (f := startGaugeOverride) (move := fun g c =>
    if (gaugeRecord s g).enabled = true ∧ s.control.fallback = false then
      withFault (gaugeRecord s g) s.gauges.grace (c.startOverride (overridePositionOf s g)) else c) fun t g ht =>
          ?_).all
  have hposition : overridePositionOf t g = overridePositionOf s g := by
    simp only [overridePositionOf, ht.record g, ht.service]
  simp only [startGaugeOverride, ht.record g, ht.control, hposition]
  split
  · exact .inl ⟨_, rfl, rfl⟩
  · exact .inr ⟨rfl, rfl⟩

/-- What the end of the override makes of each channel (R42). -/
theorem endGaugesOverride_called (s : State) : SameInputs s (endGaugesOverride s)
    ∧ ∀ g, channelOf (endGaugesOverride s) g = if (channelOf s g).state = .overridden then
        withFault (gaugeRecord s g) s.gauges.grace (calledChannel s g (channelOf s g)) else channelOf s g := by
  refine (movesOwn_putChannel s (f := endGaugeOverride) (move := fun g c => if c.state = .overridden then
    withFault (gaugeRecord s g) s.gauges.grace (calledChannel s g c) else c) fun t g ht => ?_).all
  simp only [endGaugeOverride, enterCalled, ht.calledChannel]
  split
  · exact .inl ⟨_, rfl, rfl⟩
  · exact .inr ⟨rfl, rfl⟩

end Sys2Proof.Proofs

/-! Proofs. O6, and the laws of O14 about channels and tables. -/

namespace Sys2Proof.Proofs

open Sys2Proof Sys2Proof.Machine Sys2Proof.Claims

/-! ## Every step -/

/-- Every step keeps an invariant of the channels that holds at power-on. -/
theorem GaugeInvariant.step {P : State → Prop} (h : GaugeInvariant P) (hpower : ∀ l, P (State.powerOn l)) {s t : State}
    (hs : P s) (hstep : step s = .next t) : P t :=
  step_inv P (fun s _ => h.idle (by simp) (by simp) (by simp)) (fun s _ => h.idle (by simp) (by simp) (by simp))
    (fun s _ => h.idle (by simp) (by simp) (by simp)) (fun s _ => h.idle (by simp) (by simp) (by simp)) hpower h.finish
    (fun c _ => h.effectOf c) hstep hs

/-- No command but POWER_ON leads into LOADING. -/
theorem loading_of_effectOf {c : Instr} {s : State} (h : (effectOf c s).control.part = .loading) :
    s.control.part = .loading := by
  have hinv : GaugeInvariant fun t => t.control.part = .loading → s.control.part = .loading :=
    { frame := fun _ _ _ _ hpart ht k => ht (hpart k)
      put := fun t g c _ ht k => ht (by simpa using k)
      band := fun t g i b ht k => ht (by simpa using k)
      start := fun t _ ht k => ht (by simpa using k)
      grace := fun t ht k => ht (by simpa using k)
      tables := fun t _ hpart _ ht _ => ht hpart }
  exact hinv.effectOf c s id h

/-! ## The first law -/

theorem channelOf_powerOn (l : InputLevels) (g : Fin 6) : channelOf (State.powerOn l) g = Channel.initial := by
  simp [channelOf, State.powerOn]

/-- A channel put in its place, seen from every gauge. -/
theorem forall_channelOf_putChannel {Q : Fin 6 → Channel → Prop} {g : Fin 6} {c : Channel} {s : State}
    (hown : Q g { c with fault := channelFault s g c }) (hothers : ∀ g', Q g' (channelOf s g')) (g' : Fin 6) :
    Q g' (channelOf (putChannel g c s) g') := by
  by_cases hg : g' = g
  · subst hg
    rwa [channelOf_putChannel_same]
  · rw [channelOf_putChannel_other hg]
    exact hothers g'

/-- A band changes nothing else of its channel, and no other channel. -/
theorem channelOf_putBand (g : Fin 6) (i : Fin 2) (b : BandState) (s : State) (g' : Fin 6) :
    channelOf (putBand g i b s) g' = { channelOf s g' with
      bands := if g' = g then (channelOf s g').bands.set i b else (channelOf s g').bands } := by
  by_cases hg : g' = g
  · subst hg
    simp [channelOf, putBand_gauges]
  · have hval : g.val ≠ g'.val := fun e => hg (Fin.ext e.symm)
    simp [channelOf, putBand_gauges, hg, hval]

/-- START entry leaves no channel with a position. -/
theorem startedChannel_onDial {r : GaugeRecord} {c : Channel} (h : c.onDial r.fullScale) (now : Nat) :
    (startedChannel r now c).onDial r.fullScale := by
  unfold startedChannel
  split
  · intro k
    simp [withFault, Channel.restart, Channel.goto, knowsPosition] at k
  · exact h

theorem pointerLaw_invariant : GaugeInvariant PointerLaw where
  frame s t htables hgauges hpart := by
    rintro ⟨hdial, hunhomed⟩
    have hchannel : ∀ g, channelOf t g = channelOf s g := fun g => by rw [channelOf, channelOf, hgauges]
    refine ⟨fun g => ?_, fun k g => ?_⟩
    · rw [hchannel, gaugeRecord_congr htables]
      exact hdial g
    · rw [hchannel]
      exact hunhomed (hpart k) g
  put s g c hplace := by
    rintro ⟨hdial, hunhomed⟩
    refine ⟨fun g' => ?_, fun k g' => ?_⟩
    · rw [gaugeRecord_congr (by simp : (putChannel g c s).tables = s.tables)]
      exact forall_channelOf_putChannel (Q := fun g' c' => c'.onDial (gaugeRecord s g').fullScale)
        (hplace.dial (hdial g)) hdial g'
    · have hloading : s.control.part = .loading := by simpa using k
      exact forall_channelOf_putChannel (Q := fun _ c' => c'.state = .unhomed)
        (hplace.unhomed (hunhomed hloading g)) (hunhomed hloading) g'
  band s g i b := by
    rintro ⟨hdial, hunhomed⟩
    refine ⟨fun g' => ?_, fun k g' => ?_⟩
    · rw [gaugeRecord_congr (by simp : (putBand g i b s).tables = s.tables), channelOf_putBand]
      exact hdial g'
    · rw [channelOf_putBand]
      exact hunhomed (by simpa using k) g'
  start s hpart := by
    rintro ⟨hdial, -⟩
    refine ⟨fun g => ?_, fun k => absurd (by simpa using k) hpart⟩
    rw [gaugeRecord_congr (by simp : (startGauges s).tables = s.tables), (startGauges_channels s).2 g]
    exact startedChannel_onDial (hdial g) s.now
  grace s := by
    rintro ⟨hdial, hunhomed⟩
    refine ⟨fun g => ?_, fun k g => ?_⟩
    · rw [gaugeRecord_congr (by simp : (expireGrace s).tables = s.tables), (expireGrace_channels s).2 g]
      exact hdial g
    · rw [(expireGrace_channels s).2 g]
      exact hunhomed (by simpa using k) g
  tables s t hpart hgauges := by
    rintro ⟨-, hunhomed⟩
    have hstate : ∀ g, (channelOf t g).state = .unhomed := fun g => by
      rw [channelOf, hgauges]
      exact hunhomed hpart g
    exact ⟨fun g k => by simp [hstate g, knowsPosition] at k, fun _ => hstate⟩

theorem pointerLaw_powerOn (l : InputLevels) : PointerLaw (State.powerOn l) := by
  refine ⟨fun g k => ?_, fun _ g => ?_⟩
  · rw [channelOf_powerOn] at k
    cases k
  · rw [channelOf_powerOn]
    rfl

/-- Settles O6: a pointer is moved by operations that keep its place on the dial. -/
theorem stepKeepsPointerLaw : Obligations.StepKeepsPointerLaw :=
  fun _ _ hs hstep => pointerLaw_invariant.step pointerLaw_powerOn hs hstep

/-! ## The GAUGE-FAULT conditions -/

/-- A channel that is put has its condition evaluated, and evaluation looks at state and rest reason alone. -/
theorem faultLaw_invariant : GaugeInvariant FaultLaw where
  frame s t htables hgauges hpart := by
    rintro ⟨hfault, hunhomed⟩
    have hchannel : ∀ g, channelOf t g = channelOf s g := fun g => by rw [channelOf, channelOf, hgauges]
    refine ⟨fun g => ?_, fun k g => ?_⟩
    · rw [hchannel, hfault g]
      simp only [channelFault, gaugeRecord_congr htables, hgauges]
    · rw [hchannel]
      exact hunhomed (hpart k) g
  put s g c hplace := by
    rintro ⟨hfault, hunhomed⟩
    refine ⟨fun g' => ?_, fun k g' => ?_⟩
    · have hsame : ∀ c', channelFault (putChannel g c s) g' c' = channelFault s g' c' := fun c' => by
        simp only [channelFault, gaugeRecord_congr (by simp : (putChannel g c s).tables = s.tables), putChannel_grace]
      rw [hsame]
      exact forall_channelOf_putChannel (Q := fun g' c' => c'.fault = channelFault s g' c') rfl hfault g'
    · have hloading : s.control.part = .loading := by simpa using k
      exact forall_channelOf_putChannel (Q := fun _ c' => c'.state = .unhomed)
        (hplace.unhomed (hunhomed hloading g)) (hunhomed hloading) g'
  band s g i b := by
    rintro ⟨hfault, hunhomed⟩
    have hinputs := sameInputs_putBand g i b s
    refine ⟨fun g' => ?_, fun k g' => ?_⟩
    · simp only [channelFault, hinputs.record g', hinputs.grace, channelOf_putBand]
      exact hfault g'
    · rw [channelOf_putBand]
      exact hunhomed (by simpa using k) g'
  start s hpart := by
    rintro ⟨hfault, -⟩
    refine ⟨fun g => ?_, fun k => absurd (by simpa using k) hpart⟩
    obtain ⟨hgrace, hchannels⟩ := startGauges_channels s
    simp only [channelFault, gaugeRecord_congr (by simp : (startGauges s).tables = s.tables), hgrace, hchannels g,
      startedChannel]
    split
    · rfl
    · next henabled =>
      have hold := hfault g
      simp only [channelFault] at hold
      simpa [henabled] using hold
  grace s := by
    rintro ⟨hfault, hunhomed⟩
    obtain ⟨hgrace, hchannels⟩ := expireGrace_channels s
    refine ⟨fun g => ?_, fun k g => ?_⟩
    · simp only [channelFault, gaugeRecord_congr (by simp : (expireGrace s).tables = s.tables), hgrace, hchannels g]
      rfl
    · rw [hchannels g]
      exact hunhomed (by simpa using k) g
  tables s t hpart hgauges := by
    rintro ⟨hfault, hunhomed⟩
    have hchannel : ∀ g, channelOf t g = channelOf s g := fun g => by rw [channelOf, channelOf, hgauges]
    refine ⟨fun g => ?_, fun _ g => by rw [hchannel]; exact hunhomed hpart g⟩
    rw [hchannel, hfault g]
    simp [channelFault, hunhomed hpart g, faultCondition]

theorem faultLaw_powerOn (l : InputLevels) : FaultLaw (State.powerOn l) := by
  refine ⟨fun g => ?_, fun _ g => ?_⟩
  · simp [channelFault, channelOf_powerOn, Channel.initial, faultCondition]
  · rw [channelOf_powerOn]
    rfl

theorem step_keeps_faultLaw {s t : State} (hs : FaultLaw s) (hstep : step s = .next t) : FaultLaw t :=
  faultLaw_invariant.step faultLaw_powerOn hs hstep

end Sys2Proof.Proofs

/-! Proofs. The laws of O14 about tables and lamps, which change their tables in LOADING alone. -/

namespace Sys2Proof.Proofs

open Sys2Proof Sys2Proof.Machine Sys2Proof.Claims

/-! ## The tables in force -/

/-- What hands out tables: the image that has been read, or the fallback where none came. -/
theorem effectOf_tables (c : Instr) (s : State) : (effectOf c s).tables = s.tables
    ∨ ∃ (t : State) (tables : Tables) (fallback : Bool), effectOf c s = handOut tables fallback t
      ∧ (tables = fallbackTables ∨ ∃ area, checkImage area = some tables) := by
  cases c
  case configImageRead area =>
    simp only [effectOf, imageRead]
    split
    · refine .inr ⟨s, _, _, takeImage_eq area s, ?_⟩
      cases himage : checkImage area with
      | none => exact .inl rfl
      | some tables => exact .inr ⟨area, himage⟩
    · exact .inl rfl
  case memoryReadTimeout =>
    simp only [effectOf, onExpiry, loadingReadFailed]
    repeat' split
    · exact .inr ⟨_, _, _, rfl, .inl rfl⟩
    all_goals exact .inl (by simp)
  all_goals
    left
    simp only [effectOf, receiveRequest, receiveGood]
  case ignitionDebounceExpiry | afterRunExpiry | presenceReplyDelayEnd | overrideExpiry
      | mutingExpiry | peerSilenceExpiry | clusterStatusTimer | distanceReportTimer | staleExpiry | motionPeriod
      | holdExpiry | standstillExpiry | neverGraceExpiry | persistenceExpiry | provingExpiry | lampPhaseExpiry
      | chimePatternTimer | buttonDebounceExpiry | longPressExpiry | listeningWindowExpiry | driverStaleExpiry
      | secondMark | driverSpeedSample | slewStep | holdoverExpiry | distanceSample | writeAttemptTimeout
      | silenceMark | lossMark | censusClose =>
    exact onExpiry_keeps (·.tables) _ _ (fun _ _ => by simp) (fun _ _ => by simp) s
  case frameReceived | timeMark | presence | readState | readSlot | readRoster | readHealth | clearHealth
      | readDistance | testOverride | endOverride | ackErrorIndication | unknownRequest =>
    unfold receive
    split <;> simp
  all_goals simp

/-- The fallback's tables obey the limits of the image check (R160). -/
theorem gaugeWithinLimits_fallback (g : Fin 6) : gaugeWithinLimits fallbackTables.gauges[g] := by
  revert g
  decide

theorem tablesLaw_of_tables {s t : State} (htables : t.tables = s.tables) (hs : TablesLaw s) : TablesLaw t := by
  simpa only [TablesLaw, gaugeRecord, htables] using hs

theorem tablesLaw_powerOn (l : InputLevels) : TablesLaw (State.powerOn l) :=
  ⟨by simp [State.powerOn, fallbackTables], gaugeWithinLimits_fallback⟩

/-- The tables that are handed out obey the limits of the image check, or are the fallback's. -/
theorem tablesLaw_handOut (t : State) {tables : Tables} (fallback : Bool)
    (h : tables = fallbackTables ∨ ∃ area, checkImage area = some tables) : TablesLaw (handOut tables fallback t) := by
  rcases h with rfl | ⟨area, himage⟩
  · exact ⟨by simp [handOut, fallbackTables], gaugeWithinLimits_fallback⟩
  · obtain ⟨-, -, -, -, -, hadmitted⟩ := checkImage_admits himage
    exact ⟨hadmitted.own, fun g => (hadmitted.gauges g).1⟩

theorem step_keeps_tablesLaw {s t : State} (hs : TablesLaw s) (hstep : step s = .next t) : TablesLaw t := by
  refine step_inv TablesLaw (fun s _ => tablesLaw_of_tables (by simp)) (fun s _ => tablesLaw_of_tables (by simp))
    (fun s _ => tablesLaw_of_tables (by simp)) (fun s _ => tablesLaw_of_tables (by simp)) tablesLaw_powerOn
    (fun s => tablesLaw_of_tables (by simp)) (fun c _ s hs => ?_) hstep hs
  rcases effectOf_tables c s with htables | ⟨u, tables, fallback, heffect, hfrom⟩
  · exact tablesLaw_of_tables htables hs
  · rw [heffect]
    exact tablesLaw_handOut u fallback hfrom

/-! ## The outputs of the lamps -/

@[simp] theorem follow_output (now : Nat) (l : Lamp) : (l.follow now).output = l.output := by
  unfold Lamp.follow
  split <;> rfl

@[simp] theorem enter_output (now : Nat) (st : LampState) (l : Lamp) : (l.enter now st).output = l.output := rfl

@[simp] theorem endLampOverride_output (now : Nat) (l : Lamp) : (endLampOverride now l).output = l.output := by
  unfold endLampOverride
  split <;> rfl

@[simp] theorem endLampProving_output (now : Nat) (l : Lamp) : (endLampProving now l).output = l.output := by
  unfold endLampProving
  split <;> rfl

@[simp] theorem overrideLamp_output (now : Nat) (p : Pattern) (l : Lamp) :
    (overrideLamp now p l).output = l.output := by
  unfold overrideLamp
  split <;> rfl

@[simp] theorem nextPhase_output (due : Nat) (l : Lamp) : (l.nextPhase due).output = l.output := by
  unfold Lamp.nextPhase
  split <;> rfl

@[simp] theorem restart_output (now : Nat) (l : Lamp) : (l.restart now).output = l.output := rfl

/-- The outputs stay where every lamp keeps its own. -/
theorem map_output {f : Lamp → Lamp} (h : ∀ l, (f l).output = l.output) (ls : List Lamp) :
    (ls.map f).map (fun l => l.output) = ls.map (fun l => l.output) := by
  rw [List.map_map]
  exact List.map_congr_left fun l _ => h l

@[simp] theorem enterLamps_outputs (st : LampState) (s : State) :
    (enterLamps st s).telltale.lamps.map (fun l => l.output) = s.telltale.lamps.map (fun l => l.output) := by
  simp [enterLamps, Function.comp_def]

@[simp] theorem endTelltaleOverride_outputs (s : State) :
    (endTelltaleOverride s).telltale.lamps.map (fun l => l.output) = s.telltale.lamps.map (fun l => l.output) := by
  simp [endTelltaleOverride, Function.comp_def]

@[simp] theorem endOverride_outputs (s : State) :
    (endOverride s).telltale.lamps.map (fun l => l.output) = s.telltale.lamps.map (fun l => l.output) := by
  unfold endOverride
  split <;> simp

@[simp] theorem updateFlags_outputs (s : State) :
    (updateFlags s).telltale.lamps.map (fun l => l.output) = s.telltale.lamps.map (fun l => l.output) := by
  simp only [updateFlags]
  split <;> simp

@[simp] theorem reportRed_outputs (c : DemandChange) (s : State) :
    (reportRed c s).telltale.lamps.map (fun l => l.output) = s.telltale.lamps.map (fun l => l.output) := by
  unfold reportRed
  split <;> simp

@[simp] theorem foldl_reportRed_outputs (l : List DemandChange) (s : State) :
    (l.foldl (fun t c => reportRed c t) s).telltale.lamps.map (fun l => l.output)
      = s.telltale.lamps.map (fun l => l.output) :=
  foldl_keeps (fun t => t.telltale.lamps.map (fun l => l.output)) _ (fun _ _ => by simp) l s

@[simp] theorem applyConditions_outputs (f : Demand → Bool) (s : State) :
    (applyConditions f s).telltale.lamps.map (fun l => l.output) = s.telltale.lamps.map (fun l => l.output) := by
  simp only [applyConditions]
  split <;> simp [Lamp.withConditions, Function.comp_def]

@[simp] theorem takeSource_outputs (src : Source) (on : Bool) (s : State) :
    (takeSource src on s).telltale.lamps.map (fun l => l.output) = s.telltale.lamps.map (fun l => l.output) := by
  simp [takeSource]

@[simp] theorem ackTelltale_outputs (s : State) :
    (ackTelltale s).telltale.lamps.map (fun l => l.output) = s.telltale.lamps.map (fun l => l.output) := by
  simp [ackTelltale, Function.comp_def]

@[simp] theorem startTelltale_outputs (s : State) :
    (startTelltale s).telltale.lamps.map (fun l => l.output) = s.telltale.lamps.map (fun l => l.output) := by
  simp [startTelltale, Function.comp_def]

@[simp] theorem ignitionOffTelltale_outputs (s : State) :
    (ignitionOffTelltale s).telltale.lamps.map (fun l => l.output) = s.telltale.lamps.map (fun l => l.output) := by
  simp [ignitionOffTelltale]

@[simp] theorem endProving_outputs (s : State) :
    (endProving s).telltale.lamps.map (fun l => l.output) = s.telltale.lamps.map (fun l => l.output) := by
  simp [endProving, Function.comp_def]

@[simp] theorem beginEvaluating_outputs (s : State) :
    (beginEvaluating s).telltale.lamps.map (fun l => l.output) = s.telltale.lamps.map (fun l => l.output) := by
  simp [beginEvaluating, Function.comp_def]

@[simp] theorem startLampOverride_outputs (p : Pattern) (s : State) :
    (startLampOverride p s).telltale.lamps.map (fun l => l.output) = s.telltale.lamps.map (fun l => l.output) := by
  unfold startLampOverride
  split <;> simp [Function.comp_def]

@[simp] theorem startOverride_outputs (p : Pattern) (fraction : Nat) (beep : Bool) (s : State) :
    (startOverride p fraction beep s).telltale.lamps.map (fun l => l.output)
      = s.telltale.lamps.map (fun l => l.output) := by
  simp only [startOverride]
  split <;> simp

@[simp] theorem lampPhase_outputs (output : Fin 32) (due : Nat) (s : State) :
    (lampPhase output due s).telltale.lamps.map (fun l => l.output) = s.telltale.lamps.map (fun l => l.output) := by
  simp only [lampPhase, State.setTelltale_telltale]
  refine map_output (fun l => ?_) _
  split <;> simp

@[simp] theorem loadFault_outputs (output : Fin 32) (kind : LoadKind) (s : State) :
    (loadFault output kind s).telltale.lamps.map (fun l => l.output) = s.telltale.lamps.map (fun l => l.output) := by
  simp only [loadFault]
  repeat' split
  all_goals simp

@[simp] theorem settle_outputs (n : Nat) (s : State) :
    (settle n s).telltale.lamps.map (fun l => l.output) = s.telltale.lamps.map (fun l => l.output) := by
  induction n generalizing s with
  | zero => simp [settle]
  | succ n ih =>
    simp only [settle]
    split
    · rfl
    · rw [ih]
      simp

@[simp] theorem finish_outputs (s : State) :
    (finish s).telltale.lamps.map (fun l => l.output) = s.telltale.lamps.map (fun l => l.output) := by
  simp [finish]

@[simp] theorem notifyConsumers_outputs (slot : Fin 64) (ev : SlotEvent) (s : State) :
    (notifyConsumers slot ev s).telltale.lamps.map (fun l => l.output) = s.telltale.lamps.map (fun l => l.output) := by
  simp [notifyConsumers, telltaleSlot]

@[simp] theorem staleSlot_outputs (slot : Fin 64) (s : State) :
    (staleSlot slot s).telltale.lamps.map (fun l => l.output) = s.telltale.lamps.map (fun l => l.output) := by
  simp [staleSlot]

@[simp] theorem treatDescriptor_outputs (sender limit : Nat) (payload : List Byte) (d : Descriptor) (s : State) :
    (treatDescriptor sender limit payload s d).telltale.lamps.map (fun l => l.output)
      = s.telltale.lamps.map (fun l => l.output) := by
  simp only [treatDescriptor]
  repeat' split
  all_goals simp

@[simp] theorem treatEntry_outputs (sender : Nat) (payload : List Byte) (e : IntakeEntry) (s : State) :
    (treatEntry sender payload s e).telltale.lamps.map (fun l => l.output)
      = s.telltale.lamps.map (fun l => l.output) := by
  unfold treatEntry
  split
  · exact foldl_inv (fun t => t.telltale.lamps.map (fun l => l.output) = s.telltale.lamps.map (fun l => l.output)) _
      (fun t d ht => by simpa using ht) _ s rfl
  all_goals simp

@[simp] theorem takeData_outputs (topic sender : Nat) (payload : List Byte) (s : State) :
    (takeData topic sender payload s).telltale.lamps.map (fun l => l.output)
      = s.telltale.lamps.map (fun l => l.output) := by
  exact foldl_inv (fun t => t.telltale.lamps.map (fun l => l.output) = s.telltale.lamps.map (fun l => l.output)) _
    (fun t e ht => by simpa using ht) _ s rfl

@[simp] theorem takeRequest_outputs (sender : Nat) (payload : List Byte) (s : State) :
    (takeRequest sender payload s).telltale.lamps.map (fun l => l.output)
      = s.telltale.lamps.map (fun l => l.output) := by
  exact takeRequest_inv (fun t => t.telltale.lamps.map (fun l => l.output)
      = s.telltale.lamps.map (fun l => l.output)) (fun t ht => by simpa using ht)
    (fun c a t ht => executeRequest_inv (fun t => t.telltale.lamps.map
        (fun l => l.output) = s.telltale.lamps.map (fun l => l.output))
      (fun t ht => by simpa using ht) (fun _ _ _ t _ ht => by simpa using ht)
      (fun t ht => by simpa using ht) (fun t ht => by simpa using ht) c a t ht) (fun _ _ _ t ht => by simpa using ht)
    sender payload s rfl

@[simp] theorem goodFrame_outputs (key : Key) (payload : List Byte) (s : State) :
    (goodFrame key payload s).telltale.lamps.map (fun l => l.output) = s.telltale.lamps.map (fun l => l.output) := by
  exact goodFrame_inv (fun t => t.telltale.lamps.map (fun l => l.output)
      = s.telltale.lamps.map (fun l => l.output)) (fun _ t ht => by simpa using ht) (fun t ht => by simpa using ht)
    (fun _ t ht => by simpa using ht) (fun _ _ _ t ht => by simpa using ht) (fun _ _ _ t ht => by simpa using ht)
    (fun _ _ t ht => by simpa using ht) key payload s rfl

@[simp] theorem judgeFrame_outputs (f : Frame) (s : State) :
    (judgeFrame f s).telltale.lamps.map (fun l => l.output) = s.telltale.lamps.map (fun l => l.output) := by
  unfold judgeFrame
  split <;> simp

@[simp] theorem enterStart_outputs (s : State) :
    (enterStart s).telltale.lamps.map (fun l => l.output) = s.telltale.lamps.map (fun l => l.output) := by
  simp [enterStart]

@[simp] theorem enterAfterRun_outputs (s : State) :
    (enterAfterRun s).telltale.lamps.map (fun l => l.output) = s.telltale.lamps.map (fun l => l.output) := by
  simp [enterAfterRun]

@[simp] theorem enterListening_outputs (s : State) :
    (enterListening s).telltale.lamps.map (fun l => l.output) = s.telltale.lamps.map (fun l => l.output) := by
  simp [enterListening]

@[simp] theorem endAfterRun_outputs (s : State) :
    (endAfterRun s).telltale.lamps.map (fun l => l.output) = s.telltale.lamps.map (fun l => l.output) := by
  simp [endAfterRun]

@[simp] theorem ignitionOn_outputs (s : State) :
    (ignitionOn s).telltale.lamps.map (fun l => l.output) = s.telltale.lamps.map (fun l => l.output) := by
  unfold ignitionOn
  split <;> simp [wakeByIgnition]

@[simp] theorem ignitionOff_outputs (s : State) :
    (ignitionOff s).telltale.lamps.map (fun l => l.output) = s.telltale.lamps.map (fun l => l.output) := by
  unfold ignitionOff
  split <;> simp

@[simp] theorem finishLoading_outputs (s : State) :
    (finishLoading s).telltale.lamps.map (fun l => l.output) = s.telltale.lamps.map (fun l => l.output) := by
  simp only [finishLoading]
  repeat' split
  all_goals simp

@[simp] theorem tryEndLoading_outputs (s : State) :
    (tryEndLoading s).telltale.lamps.map (fun l => l.output) = s.telltale.lamps.map (fun l => l.output) := by
  exact tryEndLoading_inv (fun t => t.telltale.lamps.map (fun l => l.output)
      = s.telltale.lamps.map (fun l => l.output)) (fun t ht => by simpa using ht)
    (fun t ht => by simpa using ht) (fun t ht => by simpa using ht) (fun t ht => by simpa using ht) s rfl

@[simp] theorem restoreDone_outputs (readable : Bool) (s : State) :
    (restoreDone readable s).telltale.lamps.map (fun l => l.output) = s.telltale.lamps.map (fun l => l.output) := by
  simp [restoreDone]

@[simp] theorem restoreSlot_outputs (bytes : List Byte) (s : State) :
    (restoreSlot bytes s).telltale.lamps.map (fun l => l.output) = s.telltale.lamps.map (fun l => l.output) := by
  simp only [restoreSlot]
  repeat' split
  all_goals simp

@[simp] theorem debounceIgnition_outputs (s : State) :
    (debounceIgnition s).telltale.lamps.map (fun l => l.output) = s.telltale.lamps.map (fun l => l.output) := by
  simp only [debounceIgnition]
  repeat' split
  all_goals simp

@[simp] theorem ackShort_outputs (s : State) :
    (ackShort s).telltale.lamps.map (fun l => l.output) = s.telltale.lamps.map (fun l => l.output) := by
  unfold ackShort
  repeat' split
  all_goals simp [ackEvent]

@[simp] theorem debounceButton_outputs (b : Button) (s : State) :
    (debounceButton b s).telltale.lamps.map (fun l => l.output) = s.telltale.lamps.map (fun l => l.output) := by
  simp only [debounceButton, buttonReleased]
  repeat' split
  all_goals (cases b <;> simp [shortPress])

/-- A command that hands out no tables keeps the outputs. -/
theorem effectOf_outputs {c : Instr} (hread : ∀ area, c ≠ .configImageRead area) (hfailed : c ≠ .memoryReadTimeout)
    (s : State) : (effectOf c s).telltale.lamps.map (fun l => l.output) = s.telltale.lamps.map (fun l => l.output) := by
  cases c
  case configImageRead area => exact absurd rfl (hread area)
  case memoryReadTimeout => exact absurd rfl hfailed
  all_goals simp only [effectOf, receiveRequest, receiveGood]
  case ignitionDebounceExpiry | afterRunExpiry | presenceReplyDelayEnd | overrideExpiry
      | mutingExpiry | peerSilenceExpiry | clusterStatusTimer | distanceReportTimer | staleExpiry | motionPeriod
      | holdExpiry | standstillExpiry | neverGraceExpiry | persistenceExpiry | provingExpiry | lampPhaseExpiry
      | chimePatternTimer | buttonDebounceExpiry | longPressExpiry | listeningWindowExpiry | driverStaleExpiry
      | secondMark | driverSpeedSample | slewStep | holdoverExpiry | distanceSample | writeAttemptTimeout
      | silenceMark | lossMark | censusClose =>
    exact onExpiry_inv (fun t => t.telltale.lamps.map (fun l => l.output)
      = s.telltale.lamps.map (fun l => l.output)) _ _
      (fun _ t ht => by simpa using ht) (fun _ t ht => by simpa using ht) s rfl
  case frameReceived | timeMark | presence | readState | readSlot | readRoster | readHealth | clearHealth
      | readDistance | testOverride | endOverride | ackErrorIndication | unknownRequest =>
    exact receive_inv (fun t => t.telltale.lamps.map (fun l => l.output) = s.telltale.lamps.map (fun l => l.output))
      (fun t ht => by simpa using ht) _ (fun t ht => by simpa using ht) s rfl
  all_goals simp

/-- Lamps made of tables that the image check lets pass stand in strict order of output (R46). -/
theorem outputsLaw_handOut (t : State) {tables : Tables} (fallback : Bool)
    (h : tables = fallbackTables ∨ ∃ area, checkImage area = some tables) : OutputsLaw (handOut tables fallback t) := by
  obtain ⟨hperm, hsorted⟩ := liveLamps_perm_sorted tables.lamps
  have hnodup : ((liveLamps tables.lamps).map (fun l => l.output)).Nodup := by
    have hrecords : (tables.lamps.map (fun l => l.output)).Nodup := by
      rcases h with rfl | ⟨area, himage⟩
      · exact .nil
      · obtain ⟨-, -, -, -, -, hadmitted⟩ := checkImage_admits himage
        exact hadmitted.outputs
    refine ((hperm.map (fun l => l.output)).nodup_iff).mpr ?_
    rwa [List.map_map]
  have hboth := hsorted.and (List.pairwise_map.mp hnodup)
  exact List.pairwise_map.mpr (hboth.imp fun hlm => lt_of_le_of_ne hlm.1 hlm.2)

theorem step_keeps_outputsLaw {s t : State} (hs : OutputsLaw s) (hstep : step s = .next t) : OutputsLaw t := by
  have hkeep : ∀ u v : State, v.telltale.lamps.map (fun l => l.output) = u.telltale.lamps.map (fun l => l.output) →
      OutputsLaw u → OutputsLaw v := fun u v huv hu => by rwa [OutputsLaw, huv]
  refine step_inv OutputsLaw (fun s _ => hkeep _ _ (by simp)) (fun s _ => hkeep _ _ (by simp))
    (fun s _ => hkeep _ _ (by simp)) (fun s _ => hkeep _ _ (by simp)) (fun l => .nil)
    (fun s => hkeep _ _ (by simp)) (fun c _ s hs => ?_) hstep hs
  by_cases hread : ∃ area, c = .configImageRead area
  · obtain ⟨area, rfl⟩ := hread
    simp only [effectOf, imageRead]
    split
    · rw [takeImage_eq]
      refine outputsLaw_handOut s _ ?_
      cases himage : checkImage area with
      | none => exact .inl rfl
      | some tables => exact .inr ⟨area, himage⟩
    · exact hs
  by_cases hfailed : c = .memoryReadTimeout
  · subst hfailed
    refine onExpiry_inv OutputsLaw _ _ (fun _ t ht => ?_) (fun _ t => hkeep _ _ (by simp)) s hs
    unfold loadingReadFailed
    repeat' split
    · exact outputsLaw_handOut t _ (.inl rfl)
    · exact hkeep t _ (by simp) ht
    · exact ht
  exact hkeep s _ (effectOf_outputs (fun area h => hread ⟨area, h⟩) hfailed s) hs

end Sys2Proof.Proofs

/-! Proofs. The laws of O14 about the line in LOADING, SLEEP and the drivers' snapshots; O14. -/

namespace Sys2Proof.Proofs

open Sys2Proof Sys2Proof.Machine Sys2Proof.Claims

/-! ## The line in LOADING -/

theorem placeFrame_line_listenOnly {kind : TxKind} {payload : List Byte} {s : State}
    (h : s.line.state = .listenOnly) : (placeFrame kind payload s).line = s.line := by
  simp [placeFrame, h]

/-- The end of LOADING is the entry to START or LISTENING (R159). -/
theorem endLoading_part (s : State) : (endLoading s).control.part ≠ .loading := by
  simp only [endLoading]
  split <;> simp [enterStart, enterListening, restartDistanceReport, restartStatus, startControl]

/-- Where LOADING does not end, nothing is done about its end. -/
theorem tryEndLoading_of_loading {s : State} (h : (tryEndLoading s).control.part = .loading) :
    tryEndLoading s = s := by
  unfold tryEndLoading at h ⊢
  split at h
  · exact absurd h (endLoading_part s)
  · next hnot => rw [if_neg hnot]

theorem tryEndLoading_line {s : State} (h : (tryEndLoading s).control.part = .loading) :
    (tryEndLoading s).line = s.line := by rw [tryEndLoading_of_loading h]

/-- The restore leaves the line to the end of LOADING. -/
theorem restoreDone_line {readable : Bool} {s : State} (h : (restoreDone readable s).control.part = .loading) :
    (restoreDone readable s).line = s.line := (tryEndLoading_line h).trans (by simp)

theorem loadingReadFailed_line {s : State} (h : (loadingReadFailed s).control.part = .loading) :
    (loadingReadFailed s).line = s.line := by
  unfold loadingReadFailed at h ⊢
  repeat' split
  · simp
  · next hphase hrestoring =>
    rw [if_neg hphase, if_pos hrestoring] at h
    exact restoreDone_line h
  · rfl

theorem restoreSlot_line {bytes : List Byte} {s : State} (h : (restoreSlot bytes s).control.part = .loading) :
    (restoreSlot bytes s).line = s.line := by
  simp only [restoreSlot] at h ⊢
  repeat' split
  · next hphase hlast =>
    rw [if_pos hphase, if_pos hlast] at h
    exact (restoreDone_line h).trans (by simp)
  · simp
  · rfl

/-- The State Controller once the debounced level has been taken, before it is acted on (R159). -/
def levelTaken (c : Control) : Control :=
  { c with ignition := c.ignitionRaw, ignitionDue := none, debounced := true }

/-- What the debounce expiry does: the level is taken, and where it has changed it is acted on (R159, R161). -/
theorem debounceIgnition_eq (s : State) : debounceIgnition s = tryEndLoading (
    if s.control.ignitionRaw = s.control.ignition then s.setControl (levelTaken s.control)
    else if s.control.ignitionRaw then ignitionOn (s.setControl (levelTaken s.control))
    else ignitionOff (s.setControl (levelTaken s.control))) := by
  simp only [debounceIgnition, levelTaken]
  split
  · next hsame => simp only [State.setControl_control] at hsame; simp [hsame]
  · next hsame =>
    simp only [State.setControl_control] at hsame
    simp only [hsame, if_false, State.setControl_control]
    cases s.control.ignitionRaw <;> rfl

/-- In LOADING the debounced ignition is taken, and acted on when LOADING ends (R159). -/
theorem debounceIgnition_loading {s : State} (hloading : s.control.part = .loading) :
    debounceIgnition s = tryEndLoading (s.setControl (levelTaken s.control)) := by
  rw [debounceIgnition_eq]
  congr 1
  repeat' split
  · rfl
  · simp [ignitionOn, levelTaken, hloading]
  · simp [ignitionOff, levelTaken, hloading]

theorem debounceIgnition_line {s : State} (hloading : s.control.part = .loading)
    (h : (debounceIgnition s).control.part = .loading) : (debounceIgnition s).line = s.line := by
  rw [debounceIgnition_loading hloading] at h ⊢
  exact (tryEndLoading_line h).trans (by simp)

theorem debounceButton_line {b : Button} {s : State} (hloading : s.control.part = .loading) :
    (debounceButton b s).line = s.line := by
  simp only [debounceButton, buttonPressed, hloading]
  repeat' split
  all_goals simp_all

/-- A part that stays in LOADING leaves the line of LOADING as it is: it receives and sends nothing, no timer of the
line runs, and only the end of LOADING takes the line up (R140, R146). -/
theorem effectOf_line_loading {c : Instr} {s : State} (hlaw : LoadingLineLaw s)
    (hstay : (effectOf c s).control.part = .loading) : (effectOf c s).line = s.line := by
  have hloading : s.control.part = .loading := loading_of_effectOf hstay
  obtain ⟨hstate, hqueue, -, hmuting, hsilence, -⟩ := hlaw hloading
  have htimer : ∀ (due : Option Nat) (f : Nat → State → State),
      (∀ d t, t.control.part = .loading → t.line = s.line → (f d t).control.part = .loading → (f d t).line = s.line) →
      (onExpiry due f s).control.part = .loading → (onExpiry due f s).line = s.line := by
    intro due f hf k
    cases due with
    | none => rfl
    | some d => exact hf d (reach d s) (by simpa using hloading) (by simp) k
  cases c
  case mutingExpiry => simp [effectOf, onExpiry, hmuting]
  case peerSilenceExpiry => simp [effectOf, onExpiry, hsilence]
  case peerStartMark => simp [effectOf, peerStart, hloading, PartState.awake]
  case quietLine => simp [effectOf, lineQuiet, hloading, PartState.awake]
  case oscillatorSettled => simp [effectOf, oscillatorReady, hloading, PartState.awake]
  case transmissionEnd => simp [effectOf, endTransmission, hqueue, sentEntry]
  case lineWake => simp [effectOf, wakeByLine, hloading]
  case frameReceived | timeMark | presence | readState | readSlot | readRoster | readHealth | clearHealth
      | readDistance | testOverride | endOverride | ackErrorIndication | unknownRequest =>
    simp [effectOf, receiveRequest, receiveGood, receive, hearing, hloading, PartState.awake]
  case clusterStatusTimer | distanceReportTimer | presenceReplyDelayEnd =>
    exact htimer _ _ (fun _ t _ ht _ =>
      (placeFrame_line_listenOnly (by simpa [ht] using hstate)).trans (by simpa using ht)) hstay
  case restoreSlotRead bytes => exact restoreSlot_line hstay
  case memoryReadTimeout => exact htimer _ _ (fun _ t _ ht k => (loadingReadFailed_line k).trans ht) hstay
  case ignitionDebounceExpiry =>
    exact htimer _ _ (fun _ t hpart ht k => (debounceIgnition_line hpart k).trans ht) hstay
  case buttonDebounceExpiry b => exact htimer _ _ (fun _ t hpart ht _ => (debounceButton_line hpart).trans ht) hstay
  case afterRunExpiry =>
    refine htimer _ _ (fun _ t _ _ k => ?_) hstay
    simp [endAfterRun, enterListening, restartStatus] at k
  case overrideExpiry | staleExpiry | motionPeriod | holdExpiry | standstillExpiry | neverGraceExpiry
      | persistenceExpiry | provingExpiry | lampPhaseExpiry | chimePatternTimer | longPressExpiry
      | listeningWindowExpiry | driverStaleExpiry | secondMark | driverSpeedSample | slewStep | holdoverExpiry
      | distanceSample | writeAttemptTimeout | silenceMark | lossMark | censusClose =>
    exact htimer _ _ (fun _ t _ ht _ => by simpa using ht) hstay
  all_goals simp [effectOf]

theorem step_keeps_loadingLineLaw {s t : State} (hs : LoadingLineLaw s) (hstep : step s = .next t) :
    LoadingLineLaw t := by
  have hkeep : ∀ u v : State, (v.control.part = .loading → u.control.part = .loading ∧ v.line = u.line) →
      LoadingLineLaw u → LoadingLineLaw v := by
    intro u v huv hu k
    obtain ⟨hpart, hline⟩ := huv k
    rw [hline]
    exact hu hpart
  refine step_inv LoadingLineLaw (fun s _ => hkeep _ _ (by simp)) (fun s _ => hkeep _ _ (by simp))
    (fun s _ => hkeep _ _ (by simp)) (fun s _ => hkeep _ _ (by simp)) (fun l _ => ⟨rfl, rfl, rfl, rfl, rfl, rfl⟩)
    (fun s => finish_inv LoadingLineLaw (fun s _ => hkeep _ _ (by simp)) (fun _ _ s => hkeep _ _ (by simp))
      (fun s => hkeep _ _ fun k => ?_) (fun s => hkeep _ _ (by simp)) s)
    (fun c _ s hs => hkeep s _ (fun k => ⟨loading_of_effectOf k, effectOf_line_loading hs k⟩) hs) hstep hs
  have hpart := loading_of_trySleep k
  rw [trySleep_of_awake (awake_of_loading hpart)]
  exact ⟨hpart, rfl⟩

/-! ## SLEEP -/

/-- The screen is no condition of SLEEP. -/
theorem sleepReady_refreshScreen (s : State) : sleepReady (refreshScreen s) = sleepReady s := by
  simp only [sleepReady, storeIdle, readoutLit, (toldKeeps_refreshScreen s).window]
  simp

/-- Every command ends with the test for SLEEP (R163). -/
theorem awake_finish (s : State) : sleepReady (finish s) = false := by
  rw [finish, sleepReady_refreshScreen]
  unfold trySleep
  split
  · simp [sleepReady]
  · next h => simpa using h

/-- A tick changes no condition of SLEEP. -/
theorem sleepReady_advance (d : Nat) (s : State) : sleepReady (advance d s) = sleepReady s := by
  have hwindow : (advance d s).readout.windowDue = s.readout.windowDue := by
    simp only [advance]
    split <;> rfl
  simp only [sleepReady, storeIdle, readoutLit, hwindow]
  simp

theorem step_keeps_awakeLaw {s t : State} (hs : AwakeLaw s) (hstep : step s = .next t) : AwakeLaw t := by
  rcases step_cases hstep with ⟨-, rfl⟩ | ⟨c, rest, -, hexec⟩
  · rcases tick_cases s with ⟨i, c, -, h⟩ | ⟨-, h⟩ <;> rw [h]
    · exact hs
    · exact (sleepReady_advance 1 s).trans hs
  · rcases exec_cases hexec with ⟨l, -, rfl⟩ | ⟨-, rfl⟩
    · rfl
    · exact awake_finish _

end Sys2Proof.Proofs

/-! Proofs. The law of O14 about the drivers' snapshots; O14. -/

namespace Sys2Proof.Proofs

open Sys2Proof Sys2Proof.Machine Sys2Proof.Claims

/-! ## Operations that leave the driver records as they are -/

@[simp] theorem advance_records (d : Nat) (s : State) : (advance d s).driver.records = s.driver.records := by
  simp only [advance]
  split <;> simp

@[simp] theorem reach_records (d : Nat) (s : State) : (reach d s).driver.records = s.driver.records := by
  unfold reach
  split <;> simp

@[simp] theorem putClock_records (c : Clock) (s : State) : (putClock c s).driver.records = s.driver.records := by
  simp [putClock]

@[simp] theorem consumeNotice_records (s : State) : (consumeNotice s).driver.records = s.driver.records := by
  simp only [consumeNotice]
  split <;> simp

@[simp] theorem settleAssembly_records (a : Assembly) (s : State) :
    (settleAssembly a s).driver.records = s.driver.records := by
  simp only [settleAssembly]
  repeat' split
  all_goals simp

@[simp] theorem retirePopup_records (m : Nat) (s : State) :
    (retirePopup m s).driver.records = s.driver.records := by
  simp only [retirePopup]
  split <;> simp

@[simp] theorem ackPopup_records (s : State) : (ackPopup s).driver.records = s.driver.records := by
  simp only [ackPopup]
  repeat' split
  all_goals simp

@[simp] theorem ackShort_records (s : State) : (ackShort s).driver.records = s.driver.records := by
  unfold ackShort
  repeat' split
  all_goals simp [ackEvent]

@[simp] theorem debounceButton_records (b : Button) (s : State) :
    (debounceButton b s).driver.records = s.driver.records := by
  simp only [debounceButton, buttonReleased]
  repeat' split
  all_goals (cases b <;> simp [shortPress])

@[simp] theorem finishLoading_records (s : State) : (finishLoading s).driver.records = s.driver.records := by
  simp only [finishLoading]
  repeat' split
  all_goals simp

@[simp] theorem tryEndLoading_records (s : State) : (tryEndLoading s).driver.records = s.driver.records := by
  exact tryEndLoading_inv (fun t => t.driver.records = s.driver.records) (fun t ht => by simpa using ht)
    (fun t ht => by simpa using ht) (fun t ht => by simpa using ht) (fun t ht => by simpa using ht) s rfl

@[simp] theorem debounceIgnition_records (s : State) : (debounceIgnition s).driver.records = s.driver.records := by
  rw [debounceIgnition_eq]
  repeat' split
  all_goals simp

@[simp] theorem refreshScreen_records (s : State) : (refreshScreen s).driver.records = s.driver.records := by simp

@[simp] theorem takePart_records (n : NoticeFields) (s : State) : (takePart n s).driver.records = s.driver.records := by
  simp only [takePart]
  repeat' split
  all_goals simp

@[simp] theorem recorderNotice_records (payload : List Byte) (s : State) :
    (recorderNotice payload s).driver.records = s.driver.records := by
  simp only [recorderNotice]
  repeat' split
  all_goals simp

@[simp] theorem takeMark_records (sender : Nat) (payload : List Byte) (s : State) :
    (takeMark sender payload s).driver.records = s.driver.records := by
  simp only [takeMark, acceptMark]
  repeat' split
  all_goals simp

@[simp] theorem takeRequest_records (sender : Nat) (payload : List Byte) (s : State) :
    (takeRequest sender payload s).driver.records = s.driver.records :=
  takeRequest_inv (fun t => t.driver.records = s.driver.records) (fun t ht => by simpa using ht)
    (fun _ _ t ht => by simpa using ht) (fun _ _ _ t ht => by simpa using ht) sender payload s rfl

@[simp] theorem restoreDone_records (readable : Bool) (s : State) :
    (restoreDone readable s).driver.records = s.driver.records := by
  simp [restoreDone]

@[simp] theorem restoreSlot_records (bytes : List Byte) (s : State) :
    (restoreSlot bytes s).driver.records = s.driver.records := by
  simp only [restoreSlot]
  repeat' split
  all_goals simp

@[simp] theorem loadingReadFailed_records (s : State) :
    (loadingReadFailed s).driver.records = s.driver.records := by
  simp only [loadingReadFailed]
  repeat' split
  all_goals simp [handOut]

@[simp] theorem imageRead_records (area : List Byte) (s : State) :
    (imageRead area s).driver.records = s.driver.records := by
  simp only [imageRead, takeImage_eq]
  split <;> simp [handOut]

@[simp] theorem passSecond_records (s : State) : (passSecond s).driver.records = s.driver.records := by
  simp only [passSecond]
  repeat' split
  all_goals simp

@[simp] theorem popupMark_records (m : PopupMark) (s : State) : (popupMark m s).driver.records = s.driver.records := by
  simp only [popupMark]
  repeat' split
  all_goals simp

/-! ## The snapshots of the drivers -/

theorem snapshotLaw_of_records {s t : State} (h : t.driver.records = s.driver.records) (hs : SnapshotLaw s) :
    SnapshotLaw t := by
  simpa only [SnapshotLaw, driverRecord, h] using hs

theorem snapshotLaw_powerOn (l : InputLevels) : SnapshotLaw (State.powerOn l) := by
  intro n p hp
  simp [State.powerOn, driverRecord, DriverRecord.initial] at hp

/-- A driver record is set to one whose snapshot, where it has one, has a sequence number of one byte. -/
theorem snapshotLaw_set {s t : State} {d : Fin 2} {r : DriverRecord}
    (h : t.driver.records = s.driver.records.set d r) (hr : ∀ p, r.snapshot = some p → p.sequence < 256)
    (hs : SnapshotLaw s) : SnapshotLaw t := by
  intro n p hp
  simp only [driverRecord, h] at hp
  by_cases hn : d = n
  · subst hn
    exact hr p (by simpa using hp)
  · exact hs n p (by simpa [driverRecord, Vector.getElem_set_ne, Fin.val_ne_of_ne hn] using hp)

/-- A driver record is set to one that keeps its snapshot. -/
theorem snapshotLaw_keep {s t : State} {d : Fin 2} {r : DriverRecord}
    (h : t.driver.records = s.driver.records.set d r) (hr : r.snapshot = (driverRecord s d).snapshot)
    (hs : SnapshotLaw s) : SnapshotLaw t :=
  snapshotLaw_set h (fun p hp => hs d p (hr ▸ hp)) hs

theorem snapshotLaw_putRecord {s : State} {d : Fin 2} {r : DriverRecord}
    (hr : r.snapshot = (driverRecord s d).snapshot) (hs : SnapshotLaw s) : SnapshotLaw (putRecord d r s) :=
  snapshotLaw_keep rfl hr hs

theorem snapshotLaw_putWarnings {d : Fin 2} {w : Warnings} {s : State} (hs : SnapshotLaw s) :
    SnapshotLaw (putWarnings d w s) := by
  refine snapshotLaw_keep (congrArg (·.records) (putWarnings_driver d w s)) ?_ hs
  rfl

theorem snapshotLaw_reformWarnings {d : Fin 2} {s : State} (hs : SnapshotLaw s) : SnapshotLaw (reformWarnings d s) := by
  refine snapshotLaw_keep (congrArg (·.records) (reformWarnings_driver d s)) ?_ hs
  rfl

/-- A bulletin of a driver's status brings a snapshot whose sequence number is one byte (R96, Table 12-4). -/
theorem snapshotLaw_driverStatus {d : Fin 2} {payload : List Byte} {s : State} (hs : SnapshotLaw s) :
    SnapshotLaw (driverStatus d payload s) := by
  by_cases hshort : payload.length < 8
  · exact snapshotLaw_of_records (by simp [driverStatus, hshort]) hs
  · have hlen : 8 ≤ payload.length := Nat.not_lt.mp hshort
    cases haccept : acceptsSnapshot (driverRecord s d) (decodeDriverStatus payload s.now).sequence with
    | false => rwa [driverStatus_refused hlen haccept]
    | true =>
      refine snapshotLaw_set (by rw [driverStatus_accepted hlen haccept]) (fun p hp => ?_) hs
      cases Option.some.inj hp
      obtain ⟨-, hsequence, -⟩ := decodeDriverStatus_fields payload s.now _ rfl
      rw [hsequence]
      exact bitField_lt _ _ _

theorem snapshotLaw_staleDriver {d : Fin 2} {s : State} (hs : SnapshotLaw s) : SnapshotLaw (staleDriver d s) :=
  snapshotLaw_reformWarnings (snapshotLaw_of_records (refreshScreen_records _) (snapshotLaw_putRecord rfl hs))

theorem snapshotLaw_takeSecondMark {d : Fin 2} {s : State} (hs : SnapshotLaw s) :
    SnapshotLaw (takeSecondMark d s) := by
  have hput := snapshotLaw_putRecord (d := d)
    (r := { driverRecord s d with elapsed := (driverRecord s d).elapsed + 1 }) rfl hs
  simp only [takeSecondMark]
  split
  · exact snapshotLaw_putWarnings (snapshotLaw_of_records (by simp) hput)
  · exact hput

theorem snapshotLaw_driverSampleAt {due : Nat} {s : State} (hs : SnapshotLaw s) :
    SnapshotLaw (driverSampleAt due s) :=
  snapshotLaw_putWarnings (snapshotLaw_putWarnings (snapshotLaw_of_records (by simp) hs))

theorem snapshotLaw_takeData {topic sender : Nat} {payload : List Byte} {s : State} (hs : SnapshotLaw s) :
    SnapshotLaw (takeData topic sender payload s) := by
  refine foldl_inv SnapshotLaw _ (fun t e ht => ?_) _ _ hs
  cases hsink : e.sink with
  | signals =>
    simp only [treatEntry, hsink]
    refine foldl_inv SnapshotLaw _ (fun u d hu => snapshotLaw_of_records ?_ hu) _ _ ht
    simp only [treatDescriptor]
    repeat' split
    all_goals simp
  | driverStatus1 | driverStatus2 =>
    simp only [treatEntry, hsink]
    exact snapshotLaw_driverStatus ht
  | recorderNotice | recorderDistance =>
    simp only [treatEntry, hsink]
    exact snapshotLaw_of_records (by simp) ht

theorem snapshotLaw_takeRequest {sender : Nat} {payload : List Byte} {s : State} (hs : SnapshotLaw s) :
    SnapshotLaw (takeRequest sender payload s) :=
  snapshotLaw_of_records (by simp) hs

theorem snapshotLaw_goodFrame {key : Key} {payload : List Byte} {s : State} (hs : SnapshotLaw s) :
    SnapshotLaw (goodFrame key payload s) := by
  refine goodFrame_inv SnapshotLaw (fun a t => snapshotLaw_of_records (by simp))
    (fun t => snapshotLaw_of_records (by simp)) (fun n t => snapshotLaw_of_records (by simp))
    (fun k n p t => snapshotLaw_of_records ?_) (fun _ _ _ _ => snapshotLaw_takeData)
    (fun _ _ _ => snapshotLaw_takeRequest) key payload s hs
  unfold deliverSystem
  repeat' split
  all_goals simp

theorem snapshotLaw_effectOf {c : Instr} {s : State} (hs : SnapshotLaw s) : SnapshotLaw (effectOf c s) := by
  have hreach : ∀ d t, SnapshotLaw t → SnapshotLaw (reach d t) := fun d t => snapshotLaw_of_records (by simp)
  cases c
  all_goals simp only [effectOf, receiveRequest, receiveGood]
  case driverStaleExpiry => exact onExpiry_inv SnapshotLaw _ _ (fun _ _ => snapshotLaw_staleDriver) hreach s hs
  case secondMark => exact onExpiry_inv SnapshotLaw _ _ (fun _ _ => snapshotLaw_takeSecondMark) hreach s hs
  case driverSpeedSample => exact onExpiry_inv SnapshotLaw _ _ (fun _ _ => snapshotLaw_driverSampleAt) hreach s hs
  case ignitionDebounceExpiry | afterRunExpiry | presenceReplyDelayEnd | overrideExpiry
      | mutingExpiry | peerSilenceExpiry | clusterStatusTimer | distanceReportTimer | staleExpiry | motionPeriod
      | holdExpiry | standstillExpiry | neverGraceExpiry | persistenceExpiry | provingExpiry | lampPhaseExpiry
      | chimePatternTimer | buttonDebounceExpiry | longPressExpiry | listeningWindowExpiry | slewStep
      | holdoverExpiry | distanceSample | writeAttemptTimeout | silenceMark | lossMark | censusClose
      | memoryReadTimeout =>
    exact onExpiry_inv SnapshotLaw _ _ (fun _ t => snapshotLaw_of_records (by simp)) hreach s hs
  case frameReceived f =>
    refine receive_inv SnapshotLaw (fun t => snapshotLaw_of_records (by simp)) _ (fun t ht => ?_) s hs
    unfold judgeFrame
    split
    · exact snapshotLaw_goodFrame ht
    · exact snapshotLaw_of_records (by simp) ht
  case timeMark | presence | readState | readSlot | readRoster | readHealth | clearHealth
      | readDistance | testOverride | endOverride | ackErrorIndication | unknownRequest =>
    exact receive_inv SnapshotLaw (fun t => snapshotLaw_of_records (by simp)) _ (fun _ => snapshotLaw_goodFrame) s hs
  all_goals exact snapshotLaw_of_records (by simp) hs

theorem step_keeps_snapshotLaw {s t : State} (hs : SnapshotLaw s) (hstep : step s = .next t) : SnapshotLaw t :=
  step_inv SnapshotLaw (fun s _ => snapshotLaw_of_records (by simp)) (fun s _ => snapshotLaw_of_records (by simp))
    (fun s _ => snapshotLaw_of_records (by simp)) (fun s _ => snapshotLaw_of_records (by simp))
    snapshotLaw_powerOn (fun s => snapshotLaw_of_records (by simp)) (fun _ _ _ => snapshotLaw_effectOf) hstep hs

/-- Settles O14: each of the six laws is kept by every step. -/
theorem stepKeepsModelInvariants : Obligations.StepKeepsModelInvariants :=
  ⟨fun _ _ => step_keeps_faultLaw, fun _ _ => step_keeps_tablesLaw, fun _ _ => step_keeps_outputsLaw,
    fun _ _ => step_keeps_loadingLineLaw, fun _ _ => step_keeps_awakeLaw, fun _ _ => step_keeps_snapshotLaw⟩

end Sys2Proof.Proofs

/-! Proofs. The laws in the state after reset; O4. -/

namespace Sys2Proof.Proofs

open Sys2Proof Sys2Proof.Machine Sys2Proof.Claims

/-- At power-on no health figure has counted, and each has its threshold off, at or below 99 (R107, R112, log 17). -/
theorem healthLaw_powerOn (l : InputLevels) : HealthLaw (State.powerOn l) := by
  refine ⟨fun h => ?_, by simp [State.powerOn], fun h => ?_, fun hrestored => ?_⟩
  · simp [State.powerOn, Attribute.initial, Attribute.lawful]
  · have hfallback : ∀ h : Fin 10, fallbackTables.health[h].threshold ≤ 99 := by decide
    exact hfallback h
  · exact absurd (hrestored rfl) (by simp [State.powerOn])

/-- Settles O4: after reset the lists are empty, the figures 0 and every channel UNHOMED. -/
theorem resetIsSafe : Obligations.ResetIsSafe where
  pointer := pointerLaw_powerOn _
  distance := by simp [State.reset, State.powerOn, DistanceLaw, totalMax, tripMax, unitSize]
  store := by simp [State.reset, State.powerOn, StoreLaw]
  popups := by simp [State.reset, State.powerOn, PopupLaw, popupsLawful]
  chimes := by simp [State.reset, State.powerOn, ChimeLaw, chimesLawful]
  queue := by simp [State.reset, State.powerOn, QueueLaw, queueLawful]
  roster := by simp [State.reset, State.powerOn, RosterLaw]
  health := healthLaw_powerOn _
  fault := faultLaw_powerOn _
  clock := by simp [State.reset, State.powerOn, ClockLaw]
  tables := tablesLaw_powerOn _
  loadingLine := fun _ => ⟨rfl, rfl, rfl, rfl, rfl, rfl⟩
  lamps := by simp [State.reset, State.powerOn, LampLaw, classActive]
  outputs := List.Pairwise.nil
  awake := rfl
  snapshots := snapshotLaw_powerOn _

end Sys2Proof.Proofs

/-! Proofs. The characteristic, the damping and the motion rule of a channel (O19, O20). -/

namespace Sys2Proof.Proofs

open Sys2Proof Sys2Proof.Machine Sys2Proof.Claims

/-! ## Truncated fractions -/

/-- A truncated quotient by a positive number stands between 0 and the dividend. -/
theorem tdiv_between (x : Int) {b : Int} (hb : 1 ≤ b) :
    (0 ≤ x → 0 ≤ x.tdiv b ∧ x.tdiv b ≤ x) ∧ (x ≤ 0 → x ≤ x.tdiv b ∧ x.tdiv b ≤ 0) := by
  have hpos : ∀ y : Int, 0 ≤ y → 0 ≤ y.tdiv b ∧ y.tdiv b ≤ y := fun y hy =>
    ⟨Int.tdiv_nonneg hy (by omega), Int.tdiv_le_self b hy⟩
  refine ⟨hpos x, fun hx => ?_⟩
  obtain ⟨hlow, hhigh⟩ := hpos (-x) (by omega)
  rw [Int.neg_tdiv] at hlow hhigh
  omega

/-- The truncated fraction `a / b` of a difference, for `a` from 0 to `b`, stands between 0 and the difference. -/
theorem mul_tdiv_between {a b : Int} (d : Int) (ha : 0 ≤ a) (hab : a ≤ b) (hb : 1 ≤ b) :
    (0 ≤ d → 0 ≤ (a * d).tdiv b ∧ (a * d).tdiv b ≤ d) ∧ (d ≤ 0 → d ≤ (a * d).tdiv b ∧ (a * d).tdiv b ≤ 0) := by
  have hpos : ∀ y : Int, 0 ≤ y → 0 ≤ (a * y).tdiv b ∧ (a * y).tdiv b ≤ y := fun y hy => by
    have hmul : a * y ≤ b * y := Int.mul_le_mul_of_nonneg_right hab hy
    refine ⟨Int.tdiv_nonneg (Int.mul_nonneg ha hy) (by omega), ?_⟩
    calc (a * y).tdiv b ≤ (b * y).tdiv b := Int.tdiv_le_tdiv (by omega) hmul
      _ = y := Int.mul_tdiv_cancel_left y (by omega)
  refine ⟨hpos d, fun hd => ?_⟩
  obtain ⟨hlow, hhigh⟩ := hpos (-d) (by omega)
  rw [Int.mul_neg, Int.neg_tdiv] at hlow hhigh
  omega

/-! ## The characteristic -/

/-- Between two breakpoints the target stands between their positions (R24). -/
theorem interpolated_between {e : Int} {p q : Breakpoint} {fullScale : Nat} (hp : p.position ≤ fullScale)
    (hq : q.position ≤ fullScale) (hpe : p.value ≤ e) (heq : e < q.value) :
    0 ≤ (p.position : Int) + ((e - p.value) * ((q.position : Int) - p.position)).tdiv (q.value - p.value)
      ∧ (p.position : Int) + ((e - p.value) * ((q.position : Int) - p.position)).tdiv (q.value - p.value)
          ≤ fullScale := by
  obtain ⟨hup, hdown⟩ := mul_tdiv_between (a := e - p.value) (b := q.value - p.value)
    ((q.position : Int) - p.position) (by omega) (by omega) (by omega)
  omega

/-- From the last breakpoint on, the target is its position (R24). -/
theorem interpolateFrom_last {e : Int} {l : Breakpoint} : ∀ {p : Breakpoint} {ps : List Breakpoint},
    (p :: ps).Pairwise (fun p q => p.value < q.value) → (p :: ps).getLast? = some l → l.value ≤ e →
    interpolateFrom e p ps = l.position
  | p, [], _, hl, _ => by
    cases hl
    rfl
  | p, q :: qs, hsorted, hl, hle => by
    have htail : (q :: qs).Pairwise (fun p q => p.value < q.value) := hsorted.tail
    have hlast : (q :: qs).getLast? = some l := by simpa using hl
    have hql : q.value ≤ l.value := by
      rcases List.mem_cons.mp (List.mem_of_getLast? hlast) with rfl | hmem
      · exact Int.le_refl _
      · exact Int.le_of_lt (List.rel_of_pairwise_cons htail hmem)
    rw [interpolateFrom, if_neg (by omega)]
    exact interpolateFrom_last htail hlast hle

/-- Between two neighbours the target is the truncated interpolation (R24). -/
theorem interpolateFrom_between {e : Int} {fullScale : Nat} {p' q' : Breakpoint} (hpe : p'.value ≤ e)
    (heq : e < q'.value) : ∀ {p : Breakpoint} {ps : List Breakpoint} {k : Nat},
    (p :: ps).Pairwise (fun p q => p.value < q.value) → (∀ b ∈ p :: ps, b.position ≤ fullScale) →
    (p :: ps)[k]? = some p' → (p :: ps)[k + 1]? = some q' →
    (interpolateFrom e p ps : Int)
      = p'.position + ((e - p'.value) * ((q'.position : Int) - p'.position)).tdiv (q'.value - p'.value)
  | p, [], k, _, _, _, hq => by simp at hq
  | p, q :: qs, 0, _, hdial, hp, hq => by
    obtain rfl : p = p' := by simpa using hp
    obtain rfl : q = q' := by simpa using hq
    obtain ⟨hnonneg, -⟩ := interpolated_between (hdial p (by simp)) (hdial q (by simp)) hpe heq
    rw [interpolateFrom, if_pos heq, Int.toNat_of_nonneg hnonneg]
  | p, q :: qs, k + 1, hsorted, hdial, hp, hq => by
    have htail : (q :: qs).Pairwise (fun p q => p.value < q.value) := hsorted.tail
    have hp' : (q :: qs)[k]? = some p' := by simpa using hp
    have hqp : q.value ≤ p'.value := by
      rcases List.mem_cons.mp (List.mem_of_getElem? hp') with rfl | hmem
      · exact Int.le_refl _
      · exact Int.le_of_lt (List.rel_of_pairwise_cons htail hmem)
    rw [interpolateFrom, if_neg (by omega)]
    exact interpolateFrom_between hpe heq htail (fun b hb => hdial b (List.mem_cons_of_mem _ hb)) hp' (by simpa using
        hq)

/-- The interpolation stays on the dial (R24). -/
theorem interpolateFrom_le {e : Int} {fullScale : Nat} : ∀ {p : Breakpoint} {ps : List Breakpoint}, p.value ≤ e →
    (∀ b ∈ p :: ps, b.position ≤ fullScale) → interpolateFrom e p ps ≤ fullScale
  | p, [], _, hdial => hdial p (by simp)
  | p, q :: qs, hpe, hdial => by
    rw [interpolateFrom]
    split
    · next hlt =>
      obtain ⟨-, hle⟩ := interpolated_between (hdial p (by simp)) (hdial q (by simp)) hpe hlt
      exact Int.toNat_le.mpr hle
    · next hge =>
      exact interpolateFrom_le (Int.not_lt.mp hge) fun b hb => hdial b (List.mem_cons_of_mem _ hb)

/-- Settles O19, by the walk along the breakpoints. -/
theorem characteristicInterpolates : Obligations.CharacteristicInterpolates := by
  intro points fullScale e hsorted hdial
  cases points with
  | nil => exact ⟨by simp, by simp, by simp, Nat.zero_le _⟩
  | cons first rest =>
    have hfirst : ∀ b ∈ first :: rest, first.value ≤ b.value := by
      intro b hb
      rcases List.mem_cons.mp hb with rfl | hmem
      · exact Int.le_refl _
      · exact Int.le_of_lt (List.rel_of_pairwise_cons hsorted hmem)
    refine ⟨fun p hp he => ?_, fun p hp he => ?_, fun k p q hp hq hpe heq => ?_, ?_⟩
    · obtain rfl : first = p := by simpa using hp
      simp [characteristic, he]
    · by_cases hle : e ≤ first.value
      · have hsame : rest = [] := by
          cases rest with
          | nil => rfl
          | cons second others =>
            have hlast : p ∈ second :: others := List.mem_of_getLast? (by simpa using hp)
            have := List.rel_of_pairwise_cons hsorted hlast
            omega
        subst hsame
        obtain rfl : first = p := by simpa using hp
        simp [characteristic, hle]
      · rw [characteristic, if_neg hle]
        exact interpolateFrom_last hsorted hp he
    · by_cases hle : e ≤ first.value
      · obtain rfl : first = p := by
          rcases List.mem_cons.mp (List.mem_of_getElem? hp) with rfl | hmem
          · rfl
          · have := List.rel_of_pairwise_cons hsorted hmem
            omega
        have hzero : e - first.value = 0 := by omega
        simp [characteristic, hle, hzero]
      · rw [characteristic, if_neg hle]
        exact interpolateFrom_between hpe heq hsorted hdial hp hq
    · rw [characteristic]
      split
      · exact hdial first (by simp)
      · next hlt => exact interpolateFrom_le (by omega) hdial

/-! ## Damping -/

/-- One period of damping, without the cut at 0, which never takes effect (R25). -/
theorem damp_eq (shift target damped : Nat) :
    (damp shift target damped : Int) = damped + (256 * (target : Int) - damped).tdiv (2 ^ shift) := by
  obtain ⟨hup, hdown⟩ := tdiv_between (256 * (target : Int) - damped) (b := 2 ^ shift)
    (by exact_mod_cast Nat.one_le_two_pow)
  unfold damp
  omega

/-- Damping that has come to rest rounds to its target: what is left is less than half a microstep (R25). -/
theorem goalOf_of_damp_rests {shift target damped : Nat} (hshift : shift ≤ 7)
    (h : damp shift target damped = damped) : goalOf damped = target := by
  have heq := damp_eq shift target damped
  have hpow : (2 : Int) ^ shift ≤ 2 ^ 7 := by exact_mod_cast Nat.pow_le_pow_right (by decide) hshift
  have hzero : (256 * (target : Int) - damped).tdiv (2 ^ shift) = 0 := by omega
  have hsmall : (256 * (target : Int) - damped).natAbs < 2 ^ shift := by
    have habs := Int.natAbs_tdiv (256 * (target : Int) - damped) (2 ^ shift)
    rw [hzero, Int.natAbs_zero, Int.natAbs_pow] at habs
    exact Nat.lt_of_div_eq_zero (Nat.two_pow_pos shift) habs.symm
  have hlimit : 2 ^ shift ≤ 2 ^ 7 := Nat.pow_le_pow_right (by decide) hshift
  unfold goalOf
  omega

theorem damp_within (shift target damped : Nat) :
    (damp shift target damped : Int) = damped + (256 * (target : Int) - damped).tdiv (2 ^ shift)
      ∧ (damped ≤ 256 * target → damped ≤ damp shift target damped ∧ damp shift target damped ≤ 256 * target)
      ∧ (256 * target ≤ damped → 256 * target ≤ damp shift target damped ∧ damp shift target damped ≤ damped)
      ∧ damp 0 target damped = 256 * target
      ∧ (shift ≤ 7 → damp shift target damped = damped → goalOf damped = target) := by
  have heq := damp_eq shift target damped
  obtain ⟨hup, hdown⟩ := tdiv_between (256 * (target : Int) - damped) (b := 2 ^ shift)
    (by exact_mod_cast Nat.one_le_two_pow)
  refine ⟨heq, fun hbelow => by omega, fun habove => by omega, ?_, goalOf_of_damp_rests⟩
  have hzero := damp_eq 0 target damped
  rw [pow_zero, Int.tdiv_one] at hzero
  omega

/-! ## The motion rule -/

/-- The stopping distance is the sum of its terms (R27). -/
theorem stopDistance_eq (a : Nat) : ∀ n s : Nat,
    stopDistance a n s = ((List.range n).map (fun i => s - (i + 1) * a)).sum
  | 0, _ => rfl
  | n + 1, s => by
    have hterm : ∀ i, s - a - (i + 1) * a = s - (i + 1 + 1) * a := fun i => by
      rw [Nat.sub_sub, Nat.succ_mul (i + 1) a, Nat.add_comm]
    rw [stopDistance, stopDistance_eq a n (s - a), List.range_succ_eq_map]
    simp [hterm, Function.comp_def]

theorem speedFits_iff {a dist s : Nat} : speedFits a dist s = true ↔ s + stopping a s ≤ dist := by
  simp [speedFits, stopping, stopDistance_eq]

/-- The speed chosen over a distance is that of case 3 of R27. -/
theorem chooseSpeed_caseThree {v a s : Nat} (dist : Nat) (hv : s ≤ v) :
    caseThreeSpeed v a s dist (chooseSpeed v a s dist) := by
  have hmin : s ≤ min (s + a) v := by omega
  simp only [chooseSpeed]
  by_cases hfast : speedFits a dist (min (s + a) v) = true
  · rw [if_pos hfast]
    rw [speedFits_iff] at hfast
    refine ⟨_, by simp, fun _ => ⟨hfast, fun c hc _ => ?_⟩, fun hnone => ?_, rfl⟩
    · simp only [List.mem_cons, List.not_mem_nil, or_false] at hc
      omega
    · exact absurd hfast (Nat.not_le.mpr (hnone _ (by simp)))
  rw [if_neg hfast]
  rw [speedFits_iff] at hfast
  by_cases hsame : speedFits a dist s = true
  · rw [if_pos hsame]
    rw [speedFits_iff] at hsame
    refine ⟨_, by simp, fun _ => ⟨hsame, fun c hc hfits => ?_⟩, fun hnone => ?_, rfl⟩
    · simp only [List.mem_cons, List.not_mem_nil, or_false] at hc
      rcases hc with rfl | rfl | rfl
      · exact absurd hfits hfast
      · exact Nat.le_refl _
      · exact Nat.sub_le _ _
    · exact absurd hsame (Nat.not_le.mpr (hnone _ (by simp)))
  rw [if_neg hsame]
  rw [speedFits_iff] at hsame
  refine ⟨_, by simp, fun ⟨c, hc, hfits⟩ => ?_, fun _ => rfl, rfl⟩
  have honly : ∀ b ∈ [min (s + a) v, s, s - a], b + stopping a b ≤ dist → b = s - a := by
    intro b hb hfits
    simp only [List.mem_cons, List.not_mem_nil, or_false] at hb
    rcases hb with rfl | rfl | rfl
    · exact absurd hfits hfast
    · exact absurd hfits hsame
    · rfl
  exact ⟨honly c hc hfits ▸ hfits, fun b hb hb' => (honly b hb hb').le⟩

/-- The speed chosen is within v and within a of the speed before (R27, R28). -/
theorem chooseSpeed_within {v a s : Nat} (dist : Nat) (hv : s ≤ v) :
    chooseSpeed v a s dist ≤ v ∧ chooseSpeed v a s dist ≤ s + a ∧ s ≤ chooseSpeed v a s dist + a := by
  obtain ⟨x, hx, -, -, hchosen⟩ := chooseSpeed_caseThree (a := a) dist hv
  simp only [List.mem_cons, List.not_mem_nil, or_false] at hx
  rw [hchosen]
  split <;> omega

/-- The goal lies against the direction of a pointer that still moves (R27). -/
def reverses (goal : Nat) (m : Motion) : Prop :=
  0 < m.speed ∧ (m.position < goal ∧ m.upward = false ∨ goal < m.position ∧ m.upward = true)

/-- At the goal the pointer stands still. -/
theorem moveStep_at {fullScale v a : Nat} {m : Motion} (hp : m.position ≤ fullScale) :
    moveStep fullScale v a m.position m = { m with speed := 0 } := by
  simp [moveStep, Nat.min_eq_right hp]

/-- A reversal brakes by a and moves on in dir (R27). -/
theorem moveStep_reverses {fullScale v a goal : Nat} {m : Motion} (hne : m.position ≠ goal)
    (hrev : reverses goal m) :
    moveStep fullScale v a goal m =
      { position := moveBy fullScale m.position (m.speed - a) m.upward,
        speed := if moveBy fullScale m.position (m.speed - a) m.upward = goal then 0 else m.speed - a,
        upward := m.upward } := by
  obtain ⟨hspeed, hagainst⟩ := hrev
  have hreversal : (decide (0 < m.speed) && (decide (m.position < goal) != m.upward)) = true := by
    rcases hagainst with ⟨hlt, hup⟩ | ⟨hgt, hup⟩
    · simp [hspeed, hlt, hup]
    · simp [hspeed, Nat.not_lt.mpr hgt.le, hup]
  simp [moveStep, Ne.symm hne, hreversal]

/-- Without a reversal the pointer moves toward the goal at the chosen speed (R27). -/
theorem moveStep_toward {fullScale v a goal : Nat} {m : Motion} (hne : m.position ≠ goal)
    (hrev : ¬ reverses goal m) :
    moveStep fullScale v a goal m =
      let n := chooseSpeed v a m.speed ((goal : Int) - m.position).natAbs
      { position := moveBy fullScale m.position n (decide (m.position < goal)),
        speed := if moveBy fullScale m.position n (decide (m.position < goal)) = goal then 0 else n,
        upward := decide (m.position < goal) } := by
  have hreversal : (decide (0 < m.speed) && (decide (m.position < goal) != m.upward)) = false := by
    by_cases hspeed : 0 < m.speed
    · cases hup : m.upward <;> simp [reverses, hspeed, hup] at hrev ⊢ <;> omega
    · simp [hspeed]
  have hdist : (if decide (m.position < goal) = true then goal - m.position else m.position - goal)
      = ((goal : Int) - m.position).natAbs := by
    split <;> simp_all <;> omega
  simp only [moveStep, Ne.symm hne, hreversal, hdist, if_false, Bool.false_eq_true]

theorem moveBy_moved {fullScale p : Nat} (n : Nat) (upward : Bool) :
    moved fullScale p n upward (moveBy fullScale p n upward) := by
  cases upward <;> simp [moved, moveBy] <;> omega

theorem moveBy_within {fullScale p : Nat} (n : Nat) (upward : Bool) (hp : p ≤ fullScale) :
    moveBy fullScale p n upward ≤ p + n ∧ p ≤ moveBy fullScale p n upward + n := by
  cases upward <;> simp [moveBy] <;> omega

/-- A period of the motion rule moves the pointer by a speed within v and within a of the speed before, and leaves it
with that speed, or at the goal with speed 0 (R27, R28). -/
theorem moveStep_speed {fullScale v a goal : Nat} {m : Motion} (hv : m.speed ≤ v)
    (hne : m.position ≠ goal) : ∃ n upward, n ≤ v ∧ n ≤ m.speed + a ∧ m.speed ≤ n + a
      ∧ (moveStep fullScale v a goal m).position = moveBy fullScale m.position n upward
      ∧ (moveStep fullScale v a goal m).speed
          = if (moveStep fullScale v a goal m).position = goal then 0 else n := by
  by_cases hrev : reverses goal m
  · rw [moveStep_reverses hne hrev]
    exact ⟨m.speed - a, m.upward, by omega, by omega, by omega, rfl, rfl⟩
  · rw [moveStep_toward hne hrev]
    obtain ⟨hmax, hup, hdown⟩ := chooseSpeed_within (a := a) ((goal : Int) - m.position).natAbs hv
    exact ⟨_, _, hmax, hup, hdown, rfl, rfl⟩

/-- R27, R28: a period stays on the dial and within v and a, and stands still at the goal. -/
theorem moveStep_within {fullScale v a goal : Nat} {m : Motion} (hp : m.position ≤ fullScale) (hv : m.speed ≤ v) :
    (moveStep fullScale v a goal m).position ≤ fullScale
      ∧ (moveStep fullScale v a goal m).speed ≤ v
      ∧ (moveStep fullScale v a goal m).position ≤ m.position + v
      ∧ m.position ≤ (moveStep fullScale v a goal m).position + v
      ∧ ((moveStep fullScale v a goal m).position = goal → (moveStep fullScale v a goal m).speed = 0)
      ∧ (moveStep fullScale v a goal m).speed ≤ m.speed + a
      ∧ ((moveStep fullScale v a goal m).position ≠ goal →
          m.speed ≤ (moveStep fullScale v a goal m).speed + a) := by
  refine ⟨moveStep_position_le _ _ _ _ _, ?_⟩
  by_cases hgoal : m.position = goal
  · subst hgoal
    rw [moveStep_at hp]
    simp
  · obtain ⟨n, upward, hmax, hup, hdown, hposition, hspeed⟩ :=
      moveStep_speed (fullScale := fullScale) (a := a) hv hgoal
    obtain ⟨hhigh, hlow⟩ := moveBy_within n upward hp
    rw [hspeed]
    split <;> omega

/-- R27: the three cases of the motion rule. -/
theorem moveStep_cases {fullScale v a goal : Nat} {m u : Motion} (hp : m.position ≤ fullScale) (hv : m.speed ≤ v)
    (hu : u = moveStep fullScale v a goal m) :
    (m.position = goal → u = { m with speed := 0 })
      ∧ (m.position ≠ goal → reverses goal m →
          u.upward = m.upward ∧ moved fullScale m.position (m.speed - a) m.upward u.position
          ∧ u.speed = if u.position = goal then 0 else m.speed - a)
      ∧ (m.position ≠ goal → ¬ reverses goal m →
          u.upward = decide (m.position < goal)
          ∧ ∃ chosen, caseThreeSpeed v a m.speed ((goal : Int) - m.position).natAbs chosen
            ∧ moved fullScale m.position chosen u.upward u.position
            ∧ u.speed = if u.position = goal then 0 else chosen) := by
  refine ⟨fun hgoal => ?_, fun hne hrev => ?_, fun hne hrev => ?_⟩
  · rw [hu, ← hgoal, moveStep_at hp]
  · rw [hu, moveStep_reverses hne hrev]
    exact ⟨rfl, moveBy_moved _ _, rfl⟩
  · rw [hu, moveStep_toward hne hrev]
    exact ⟨rfl, _, chooseSpeed_caseThree _ hv, moveBy_moved _ _, rfl⟩

/-- Settles O20, by the cases of the motion rule. -/
theorem dampingAndMotionStayWithinLimits : Obligations.DampingAndMotionStayWithinLimits := by
  refine ⟨damp_within, fun fullScale v a goal m _ _ hp _ hv => moveStep_within hp hv, ?_⟩
  intro fullScale v a goal m u _ _ hp _ hv hu reversal hreversal
  rw [hreversal]
  exact moveStep_cases hp hv hu

end Sys2Proof.Proofs

/-! Proofs. The end of a command of the Gauge Engine, its timers and the stall (O46, O47). -/

namespace Sys2Proof.Proofs

open Sys2Proof Sys2Proof.Machine Sys2Proof.Claims

/-! ## A timer that has come due -/

/-- A command whose timer has come due is its work, and the end of a command. -/
theorem exec_of_due {c : Instr} {due : Option Nat} {f : Nat → State → State} {s : State} {d : Nat}
    (hc : ∀ l, c ≠ .powerOn l) (heffect : effectOf c (s.setReports []) = onExpiry due f (s.setReports []))
    (hdue : due = some d) (hnow : d ≤ s.now) : exec c s = .next (finish (f d (s.setReports []))) := by
  rw [exec_eq_complete c hc, complete, heffect, onExpiry_due hdue (by simpa using hnow)]

/-- A command whose timer is stopped changes nothing but the composition of the screen. -/
theorem exec_of_stopped {c : Instr} {due : Option Nat} {f : Nat → State → State} {s : State}
    (hc : ∀ l, c ≠ .powerOn l) (heffect : effectOf c (s.setReports []) = onExpiry due f (s.setReports []))
    (hdue : due = none) : exec c s = .next (finish (s.setReports [])) := by
  rw [exec_eq_complete c hc, complete, heffect, hdue, onExpiry]

/-! ## Staying awake -/

/-- SLEEP is a matter of the part state, the line, the store and the listening window (R163). -/
theorem sleepReady_congr {s t : State} (hpart : t.control.part = s.control.part) (hline : t.line = s.line)
    (hstore : t.store = s.store) (hwindow : t.readout.windowDue = s.readout.windowDue) :
    sleepReady t = sleepReady s := by
  simp only [sleepReady, storeIdle, readoutLit, hpart, hline, hstore, hwindow]

theorem window_of_core {s t : State} (h : readoutCore t.readout = readoutCore s.readout) :
    t.readout.windowDue = s.readout.windowDue := by
  have h' := congrArg Readout.windowDue h
  exact h'

/-- A part stays awake where State Controller, line, store and Readout Unit stay. -/
theorem awake_of_kept {changed : List Block} {s t : State} (h : sleepReady s = false) (hkept : Kept changed s t)
    (hout : ∀ b ∈ [Block.control, .line, .store, .readout], b ∉ changed) : sleepReady t = false := by
  have hcontrol : t.control = s.control := hkept .control (hout _ (by simp))
  have hline : t.line = s.line := hkept .line (hout _ (by simp))
  have hstore : t.store = s.store := hkept .store (hout _ (by simp))
  rw [sleepReady_congr (by rw [hcontrol]) hline hstore (window_of_core (hkept .readout (hout _ (by simp)))), h]

/-- The screen apart, a command that leaves no report changes what its work changes. -/
theorem kept_finish_idle {changed : List Block} {s t : State} (hkept : Kept changed s t) (hreports : t.reports = [])
    (hawake : sleepReady t = false) : Kept changed s (finish t) ∧ (finish t).gauges = t.gauges := by
  rw [finish_idle hreports hawake]
  exact ⟨Kept.trans hkept (kept_refreshScreen _ _), by simp⟩

/-- Where nothing is done, nothing but the composition of the screen changes. -/
theorem finish_untouched {s : State} (hawake : AwakeLaw s) :
    Kept [] s (finish (s.setReports [])) ∧ (finish (s.setReports [])).gauges = s.gauges :=
  kept_finish_idle (kept_setReports [] s []) rfl hawake

/-- The end of a command adds what reports can reach to what its work changes. -/
theorem kept_finish_told {changed : List Block} {s t : State} (hkept : Kept changed s t)
    (hsub : ∀ b ∈ told, b ∈ changed) (hawake : sleepReady t = false) : Kept changed s (finish t) :=
  Kept.trans hkept (Kept.mono (kept_finish hawake) hsub)

/-- The end of a command leaves a channel that is not OVERRIDDEN. -/
theorem channelOf_finish {s : State} {g : Fin 6} (hawake : sleepReady s = false)
    (hstate : (channelOf s g).state ≠ .overridden) : channelOf (finish s) g = channelOf s g :=
  (toldKeeps_finish hawake).channels g hstate

/-! ## The never-grace timer and the reports -/

theorem endOverride_grace (s : State) : (endOverride s).gauges.grace = s.gauges.grace := by
  unfold endOverride
  split
  · rw [(endGaugesOverride_called _).1.grace]
    simp [putOverride]
  · rfl

theorem takeSource_grace (src : Source) (on : Bool) (s : State) :
    (takeSource src on s).gauges.grace = s.gauges.grace := by
  have hred : ∀ (t : State) (c : DemandChange), t.gauges.grace = s.gauges.grace →
      (reportRed c t).gauges.grace = s.gauges.grace := by
    intro t c ht
    unfold reportRed
    split
    · rw [endOverride_grace, ht]
    · exact ht
  simp only [takeSource, applyConditions]
  exact foldl_inv (fun t => t.gauges.grace = s.gauges.grace) _ (fun t c ht => by simpa using ht) _ _
    (foldl_inv (fun t => t.gauges.grace = s.gauges.grace) _ (fun t c => hred t c) _ _ (by simp))

/-- No report touches the never-grace timer. -/
theorem finish_grace (s : State) : (finish s).gauges.grace = s.gauges.grace := by
  have hsettle : (settle (settleFuel s) s).gauges.grace = s.gauges.grace :=
    settle_inv (fun t => t.gauges.grace = s.gauges.grace) (fun t x ht => by simpa using ht)
      (fun src on t ht => (takeSource_grace src on t).trans ht) _ _ rfl
  simpa [finish] using hsettle

/-! ## Putting a channel -/

theorem kept_putChannel (g : Fin 6) (c : Channel) (s : State) : Kept [.gauges] s (putChannel g c s) := by
  intro b hb
  cases b
  case gauges => exact absurd (by decide) hb
  all_goals simp [agree]

theorem kept_putBand (g : Fin 6) (i : Fin 2) (b : BandState) (s : State) : Kept [.gauges] s (putBand g i b s) := by
  intro b hb
  cases b
  case gauges => exact absurd (by decide) hb
  all_goals simp [agree]

/-- A channel that is put without a change of its GAUGE-FAULT condition reports nothing. -/
theorem putChannel_reports {g : Fin 6} {c : Channel} {s : State} (h : channelFault s g c = (channelOf s g).fault) :
    (putChannel g c s).reports = s.reports := by
  simp [putChannel, h]

theorem awake_putChannel {s : State} (h : sleepReady s = false) (g : Fin 6) (c : Channel) :
    sleepReady (putChannel g c s) = false := awake_of_kept h (kept_putChannel g c s) (by decide)

/-- The channel that a command puts, where its GAUGE-FAULT condition stays: nothing else changes. -/
theorem finish_putChannel_quiet {g : Fin 6} {c : Channel} {s : State} (hawake : AwakeLaw s)
    (hfault : channelFault s g c = (channelOf s g).fault) :
    channelOf (finish (putChannel g c (s.setReports []))) g = { c with fault := (channelOf s g).fault }
      ∧ (∀ g', g' ≠ g → channelOf (finish (putChannel g c (s.setReports []))) g' = channelOf s g')
      ∧ (finish (putChannel g c (s.setReports []))).gauges.grace = s.gauges.grace
      ∧ Kept [.gauges] s (finish (putChannel g c (s.setReports []))) := by
  obtain ⟨hkept, hgauges⟩ := kept_finish_idle (Kept.trans (kept_setReports _ s []) (kept_putChannel g c _))
    (putChannel_reports (s := s.setReports []) hfault) (awake_putChannel (s := s.setReports []) hawake g c)
  refine ⟨?_, fun g' hg' => ?_, finish_grace _ |>.trans (putChannel_grace _ _ _), hkept⟩
  · rw [channelOf, hgauges, ← channelOf, channelOf_putChannel_same, ← hfault]
    rfl
  · rw [channelOf, hgauges, ← channelOf, channelOf_putChannel_other hg']
    rfl

/-- The channel that a command puts in a state other than OVERRIDDEN, with its GAUGE-FAULT condition evaluated and
reported: what reports can reach changes besides. -/
theorem finish_putChannel_told {g : Fin 6} {c : Channel} {s : State} (hawake : AwakeLaw s)
    (hstate : c.state ≠ .overridden) :
    channelOf (finish (putChannel g c (s.setReports []))) g = withFault (gaugeRecord s g) s.gauges.grace c
      ∧ Kept told s (finish (putChannel g c (s.setReports []))) := by
  have hput : sleepReady (putChannel g c (s.setReports []))
      = false := awake_putChannel (s := s.setReports []) hawake g c
  have hchannel := channelOf_putChannel_same g c (s.setReports [])
  refine ⟨?_, kept_finish_told (Kept.trans (kept_setReports _ s []) (Kept.mono (kept_putChannel g c _) (by decide)))
    (by decide) hput⟩
  rw [channelOf_finish hput (by rw [hchannel]; exact hstate), hchannel]
  rfl

/-! ## O47 -/

/-- The first part of O47: the hold ends in HOLDING alone (R34). -/
theorem holdExpiry_spec {g : Fin 6} {s : State} {d : Nat} (hawake : AwakeLaw s) (hdue : cameDue (.holdExpiry g) d s) :
    ∃ t, exec (.holdExpiry g) s = .next t
      ∧ ((channelOf s g).state = .holding →
          channelOf t g = withFault (gaugeRecord s g) s.gauges.grace (channelOf s g).endHold ∧ Kept told s t)
      ∧ ((channelOf s g).state ≠ .holding → Kept [] s t) := by
  obtain ⟨htimer, hnow⟩ := hdue
  refine ⟨_, exec_of_due (by simp) rfl (Option.some.inj htimer) hnow, fun hholding => ?_, fun hnot => ?_⟩
  · have hwork : endHoldOf g (s.setReports []) = putChannel g (channelOf s g).endHold (s.setReports []) :=
      if_pos hholding
    rw [hwork]
    exact finish_putChannel_told hawake (by simp [Channel.endHold, Channel.restWith])
  · have hwork : endHoldOf g (s.setReports []) = s.setReports [] := if_neg hnot
    rw [hwork]
    exact (finish_untouched hawake).1

/-- The second part of O47: the standstill mode is no state, so no GAUGE-FAULT condition changes (R26). -/
theorem standstillExpiry_spec {g : Fin 6} {s : State} {d : Nat} (hawake : AwakeLaw s) (hfault : FaultLaw s)
    (hdue : cameDue (.standstillExpiry g) d s) : ∃ t, exec (.standstillExpiry g) s = .next t
      ∧ channelOf t g = { channelOf s g with standDue := none, standMode := true }
      ∧ (∀ g', g' ≠ g → channelOf t g' = channelOf s g') ∧ Kept [.gauges] s t := by
  obtain ⟨htimer, hnow⟩ := hdue
  obtain ⟨hown, hothers, -, hkept⟩ := finish_putChannel_quiet (g := g)
    (c := { channelOf s g with standDue := none, standMode := true }) hawake (hfault.1 g).symm
  exact ⟨_, exec_of_due (by simp) rfl (Option.some.inj htimer) hnow, hown, hothers, hkept⟩

/-- The third part of O47: from the expiry on RESTING with reason NEVER is a fault of an enabled channel (R40). -/
theorem graceExpiry_spec {s : State} {d : Nat} (hawake : AwakeLaw s) (hdue : cameDue .neverGraceExpiry d s) :
    ∃ t, exec .neverGraceExpiry s = .next t ∧ t.gauges.grace = .expired
      ∧ (∀ g, (gaugeRecord s g).enabled = true → (channelOf s g).state = .resting →
          (channelOf s g).rest = some .never → (channelOf t g).fault = true)
      ∧ Kept told s t := by
  obtain ⟨htimer, hnow⟩ := hdue
  obtain ⟨hgrace, hchannels⟩ := expireGrace_channels (s.setReports [])
  have hkept : Kept [.gauges] s (expireGrace (s.setReports [])) := by
    refine Kept.trans (kept_setReports _ s []) fun b hb => ?_
    cases b
    case gauges => exact absurd (by decide) hb
    all_goals simp [agree]
  have hwork : sleepReady (expireGrace (s.setReports [])) = false := awake_of_kept hawake hkept (by decide)
  refine ⟨_, exec_of_due (by simp) rfl (Option.some.inj htimer) hnow, (finish_grace _).trans hgrace,
    fun g henabled hstate hrest => ?_, kept_finish_told (Kept.mono hkept (by decide)) (by decide) hwork⟩
  have hchannel : channelOf (expireGrace (s.setReports [])) g
      = withFault (gaugeRecord s g) .expired (channelOf s g) := hchannels g
  rw [channelOf_finish hwork (by simp [hchannel, withFault, hstate]), hchannel]
  simp [withFault, faultCondition, henabled, hstate, hrest]

/-- The fourth part of O47: the persistence timer runs out, and its band is ACTIVE (R44). -/
theorem persistenceExpiry_spec {g : Fin 6} {i : Fin 2} {s : State} {d : Nat}
    (hdue : cameDue (.persistenceExpiry g i) d s)
    (hawake : AwakeLaw s) : ∃ t, exec (.persistenceExpiry g i) s = .next t
      ∧ (channelOf t g).bands[i] = .active
      ∧ (∀ (g' : Fin 6) (i' : Fin 2), g' ≠ g ∨ i' ≠ i →
          (channelOf t g').bands[i'] = (channelOf s g').bands[i'])
      ∧ Kept told s t := by
  obtain ⟨htimer, hnow⟩ := hdue
  have hkept : Kept [.gauges] s (putBand g i .active (s.setReports [])) :=
    Kept.trans (kept_setReports _ s []) (kept_putBand g i .active _)
  have hwork : sleepReady (putBand g i .active (s.setReports [])) = false := awake_of_kept hawake hkept (by decide)
  have hbands : ∀ g', (channelOf (finish (putBand g i .active (s.setReports []))) g').bands
      = if g' = g then (channelOf s g').bands.set i .active else (channelOf s g').bands := by
    intro g'
    rw [(toldKeeps_finish hwork).bands g', channelOf_putBand]
    rfl
  refine ⟨_, exec_of_due (by simp) rfl (Option.some.inj htimer) hnow, ?_, fun g' i' hother => ?_,
    kept_finish_told (Kept.mono hkept (by decide)) (by decide) hwork⟩
  · simp [hbands]
  · rw [hbands]
    split
    · next hg =>
      have hi : i.val ≠ i'.val := fun e => hother.elim (fun k => k hg) (fun k => k (Fin.ext e.symm))
      simp [hi]
    · rfl

/-- Settles O47, timer by timer. -/
theorem gaugeTimersExpire : Obligations.GaugeTimersExpire := by
  refine ⟨fun s d hawake hfault => ⟨fun g hdue => ?_, fun g => standstillExpiry_spec hawake hfault,
    graceExpiry_spec hawake⟩, fun g i s d => persistenceExpiry_spec⟩
  obtain ⟨t, hexec, hheld, hnot⟩ := holdExpiry_spec hawake hdue
  refine ⟨t, hexec, fun hholding => ?_, hnot⟩
  obtain ⟨hchannel, hkept⟩ := hheld hholding
  rw [hchannel]
  exact ⟨rfl, rfl, rfl, rfl, by simp [withFault, Channel.endHold, Channel.restWith, faultCondition], hkept⟩

end Sys2Proof.Proofs

/-! Proofs. The start-sequence report and the stall (O46). -/

namespace Sys2Proof.Proofs

open Sys2Proof Sys2Proof.Machine Sys2Proof.Claims

/-! ## The start-sequence report -/

/-- What a start-sequence report makes of the State Controller's items (R32, R161). -/
theorem reportStartDone_control (g : Fin 6) (s : State) :
    (reportStartDone g s).control = afterStartReport s.tables.gauges g s.control := by
  have hall : allGauges.all (fun g' => !s.tables.gauges[g'].enabled || (s.control.startDone.set g true)[g'])
      = true ↔ ∀ g' : Fin 6, s.tables.gauges[g'].enabled = true → g' = g ∨ s.control.startDone[g'] = true := by
    have hmem : ∀ g' : Fin 6, g' ∈ allGauges := by decide
    have hset : ∀ g' : Fin 6, (s.control.startDone.set g true)[g'] = true
        ↔ g' = g ∨ s.control.startDone[g'] = true := by
      intro g'
      by_cases hg : g' = g
      · subst hg
        simp
      · have hval : g.val ≠ g'.val := fun e => hg (Fin.ext e.symm)
        simp [hval, hg]
    simp only [List.all_eq_true, hmem, true_implies, Bool.or_eq_true, Bool.not_eq_true', hset]
    exact forall_congr' fun g' => by cases s.tables.gauges[g'].enabled <;> simp
  unfold reportStartDone afterStartReport
  split
  · next hstart =>
    simp only [checkRun, State.setControl_control, State.setControl_tables, hstart, hall, true_and]
    split <;> simp
  · rfl

/-- The start-sequence report leaves all but the State Controller. -/
theorem kept_reportStartDone (g : Fin 6) (s : State) : Kept [.control] s (reportStartDone g s) := by
  intro b hb
  cases b
  case control => exact absurd (by decide) hb
  all_goals simp [agree]

/-- No start-sequence report brings SLEEP about: it moves START and RUN alone. -/
theorem awake_reportStartDone {s : State} (h : sleepReady s = false) (g : Fin 6) :
    sleepReady (reportStartDone g s) = false := by
  by_cases hstart : s.control.part = .start
  · have hpart : (reportStartDone g s).control.part ≠ .listening := by
      rw [reportStartDone_control, afterStartReport, if_pos hstart]
      split <;> simp [hstart]
    simp [sleepReady, hpart]
  · rw [reportStartDone, if_neg hstart, h]

/-! ## The stall -/

/-- A channel whose stall has been sensed: its stall count and its hold (R34, R36). -/
def stallCounted (now : Nat) (c : Channel) : Channel := { c.spendHold now with stalls := c.stalls + 1 }

/-- A channel after a stall: the fourth since START entry fails it, any other re-homes it (R36, R37). -/
def stalledChannel (now : Nat) (c : Channel) : Channel :=
  if c.stalls < 3 then (stallCounted now c).rehome else (stallCounted now c).fail

theorem stalledChannel_state (now : Nat) (c : Channel) : (stalledChannel now c).state ≠ .overridden := by
  unfold stalledChannel
  split <;> simp [Channel.rehome, Channel.fail, Channel.goto]

/-- A stall that is sensed (R36): the gauge is enabled, its channel in a state that senses stalls and stepping. -/
abbrev stallTaken (s : State) (g : Fin 6) : Prop :=
  (gaugeRecord s g).enabled = true ∧ (channelOf s g).state.stallSensed = true ∧ (channelOf s g).stepping = true

/-- The work of a stall that is sensed (R36, R37). -/
theorem stallChannel_taken {s : State} {g : Fin 6} (h : stallTaken s g) : stallChannel g s
    = if (channelOf s g).stalls < 3 then putChannel g (stalledChannel s.now (channelOf s g)) (count 0 s)
      else reportStartDone g (setErrorIndication
        (putChannel g (stalledChannel s.now (channelOf s g)) (count 0 s))) := by
  obtain ⟨henabled, hsensed, hstepping⟩ := h
  simp only [stallChannel, henabled, hsensed, hstepping, Bool.true_eq_false, or_self, if_false,
      Nat.add_lt_add_iff_right,
    show (4 : Nat) = 3 + 1 from rfl, stalledChannel, stallCounted]
  split <;> rfl

theorem stallChannel_refused {s : State} {g : Fin 6} (h : ¬ stallTaken s g) : stallChannel g s = s := by
  simp only [stallChannel]
  rw [if_pos]
  by_contra hno
  simp only [not_or, Bool.not_eq_false] at hno
  exact h hno

/-- A channel with its stall counted and its period of homing or its end, put in the counted state. -/
theorem stall_put {s : State} {g : Fin 6} (hawake : AwakeLaw s) :
    ∃ u, u = putChannel g (stalledChannel s.now (channelOf s g)) (count 0 (s.setReports []))
      ∧ channelOf u g = withFault (gaugeRecord s g) s.gauges.grace (stalledChannel s.now (channelOf s g))
      ∧ u.monitor[(0 : Fin 10)].raw = oneMore s.monitor[(0 : Fin 10)].raw
      ∧ u.control = s.control ∧ u.tables = s.tables ∧ Kept told s u ∧ sleepReady u = false := by
  have hkept : Kept told s (putChannel g (stalledChannel s.now (channelOf s g)) (count 0 (s.setReports []))) :=
    Kept.trans (kept_setReports _ s [])
      (Kept.trans (kept_count 0 _ (by decide)) (Kept.mono (kept_putChannel g _ _) (by decide)))
  refine ⟨_, rfl, ?_, ?_, by simp, by simp, hkept, ?_⟩
  · rw [channelOf_putChannel_same, channelFault_withFault, gaugeRecord_congr (s := s) (by simp)]
    simp
  · have hraw := count_monitor_raw 0 (s.setReports [])
    simpa using hraw
  · exact (sleepReady_congr (by simp) (by simp) (by simp) (by simp)).trans hawake

/-- The first part of O46. -/
theorem stall_spec {g : Fin 6} {s : State} (hawake : AwakeLaw s) : ∃ t, exec (.stall g) s = .next t
    ∧ (stallTaken s g →
        channelOf t g = withFault (gaugeRecord s g) s.gauges.grace (stalledChannel s.now (channelOf s g))
        ∧ t.monitor[(0 : Fin 10)].raw = oneMore s.monitor[(0 : Fin 10)].raw
        ∧ ((channelOf s g).stalls < 3 → Kept told s t)
        ∧ (3 ≤ (channelOf s g).stalls →
            t.control = afterStartReport s.tables.gauges g { s.control with errorIndication := true }
            ∧ Kept ([.control] ++ told) s t))
    ∧ (¬ stallTaken s g → Kept [] s t) := by
  refine ⟨_, exec_eq_complete _ (by simp) s, fun htaken => ?_, fun hrefused => ?_⟩
  · obtain ⟨u, hu, hchannel, hraw, hcontrol, htables, hkept, hput⟩ := stall_put (g := g) hawake
    have hstate : (channelOf u g).state ≠ .overridden := by
      rw [hchannel]
      exact stalledChannel_state _ _
    have hwork := stallChannel_taken (s := s.setReports []) htaken
    have hmonitor : ∀ v, v.monitor = u.monitor →
        (finish v).monitor[(0 : Fin 10)].raw = oneMore s.monitor[(0 : Fin 10)].raw := by
      intro v hv
      rw [finish_monitor_other v (by decide), hv, hraw]
    by_cases hfew : (channelOf s g).stalls < 3
    · have hw : effectOf (.stall g) (s.setReports []) = u := by
        rw [hu]
        exact hwork.trans (if_pos hfew)
      rw [hw]
      exact ⟨(channelOf_finish hput hstate).trans hchannel, hmonitor u rfl,
        fun _ => kept_finish_told hkept (fun _ => id) hput, fun h => absurd hfew (Nat.not_lt.mpr h)⟩
    · have hw : effectOf (.stall g) (s.setReports []) = reportStartDone g (setErrorIndication u) := by
        rw [hu]
        exact hwork.trans (if_neg hfew)
      have hset : sleepReady (setErrorIndication u) = false :=
        (sleepReady_congr rfl rfl rfl rfl).trans hput
      have hdone := awake_reportStartDone hset g
      have hkeptSet : Kept ([.control] ++ told) u (setErrorIndication u) := by
        intro b hb
        cases b
        case control => exact absurd (by decide) hb
        all_goals simp [agree]
      rw [hw]
      refine ⟨?_, hmonitor _ (by simp), fun h => absurd h hfew, fun _ => ⟨?_, ?_⟩⟩
      · rw [channelOf_finish hdone (by simpa [channelOf] using hstate), ← hchannel]
        simp [channelOf]
      · rw [(finish_awake_frame hdone).1, reportStartDone_control]
        simp [setErrorIndication, hcontrol, htables]
      · exact kept_finish_told (Kept.trans (Kept.mono hkept (by decide)) (Kept.trans hkeptSet
          (Kept.mono (kept_reportStartDone g _) (by decide)))) (by decide) hdone
  · rw [effectOf, stallChannel_refused (s := s.setReports []) hrefused]
    exact (finish_untouched hawake).1

/-- The items of a channel after a stall (R34, R36, R37). -/
theorem stalledChannel_items (now : Nat) (c : Channel) :
    (stalledChannel now c).stalls = c.stalls + 1 ∧ (stalledChannel now c).position = none
      ∧ (stalledChannel now c).holdDue = none ∧ (stalledChannel now c).damped = c.damped
      ∧ ((stalledChannel now c).holdSpent = true ↔ c.holdSpent = true
          ∨ c.state = .holding ∧ ∃ d, c.holdDue = some d ∧ d ≤ now) := by
  have hspent : (c.spendHold now).holdSpent = true ↔ c.holdSpent = true
      ∨ c.state = .holding ∧ ∃ d, c.holdDue = some d ∧ d ≤ now := by
    rw [Channel.spendHold_eq]
    cases c.holdDue <;> simp
  rw [← hspent]
  unfold stalledChannel
  split <;> simp [stallCounted, Channel.rehome, Channel.fail, Channel.goto]

/-- A stall that does not fail its channel begins a homing run (R36). -/
theorem stalledChannel_rehomed {now : Nat} {c : Channel} (hfew : c.stalls < 3) :
    (stalledChannel now c).state = .homing ∧ (stalledChannel now c).speed = 0 ∧ (stalledChannel now c).progress = 0
      ∧ (stalledChannel now c).run = if c.state = .sweeping then .afterSweepStall else .rehoming := by
  rw [stalledChannel, if_pos hfew]
  simp [stallCounted, Channel.rehome, Channel.goto, Channel.spendHold_eq]

/-- The fourth stall fails its channel, which keeps its speed (R37). -/
theorem stalledChannel_failed {now : Nat} {c : Channel} (hmany : 3 ≤ c.stalls) :
    (stalledChannel now c).state = .failed ∧ (stalledChannel now c).speed = c.speed
      ∧ (stalledChannel now c).periodDue = none := by
  rw [stalledChannel, if_neg (Nat.not_lt.mpr hmany)]
  simp [stallCounted, Channel.fail, Channel.goto, Channel.spendHold_eq]

/-- A stall of a HOLDING channel whose hold has come due, and one of the same channel after the expiry of its hold,
come to the same channel (R36). -/
theorem stalledChannel_endHold {r : GaugeRecord} {grace grace' : Grace} {now d : Nat} {c : Channel}
    (hstate : c.state = .holding)
    (hdue : c.holdDue = some d) (hnow : d ≤ now) :
    withFault r grace' (stalledChannel now (withFault r grace c.endHold))
        = withFault r grace (stalledChannel now c) := by
  by_cases hfew : c.stalls < 3 <;>
    simp [stalledChannel, stallCounted, Channel.rehome, Channel.fail, Channel.goto, Channel.spendHold_eq, withFault,
      Channel.endHold, Channel.restWith, faultCondition, hfew, hstate, hdue, hnow]

/-- The second part of O46: stall and hold expiry in either order. -/
theorem stall_holdExpiry_spec {g : Fin 6} {s : State} {d : Nat} (hawake : AwakeLaw s)
    (hdue : cameDue (.holdExpiry g) d s) (henabled : (gaugeRecord s g).enabled = true)
    (hholding : (channelOf s g).state = .holding) (hstepping : (channelOf s g).stepping = true) :
    ∃ t u t' u', exec (.stall g) s = .next t ∧ exec (.holdExpiry g) t = .next u
      ∧ exec (.holdExpiry g) s = .next t' ∧ exec (.stall g) t' = .next u'
      ∧ channelOf u g = channelOf u' g ∧ (channelOf u g).holdSpent = true ∧ Kept [] t u := by
  have hholdDue : (channelOf s g).holdDue = some d := Option.some.inj hdue.1
  obtain ⟨t, ht, htaken, -⟩ := stall_spec (g := g) hawake
  obtain ⟨hchannel, -⟩ := htaken ⟨henabled, by rw [hholding]; rfl, hstepping⟩
  obtain ⟨-, -, hstopped, -, hspent⟩ := stalledChannel_items s.now (channelOf s g)
  have htAwake : AwakeLaw t := by
    cases ht
    exact awake_finish _
  have hu : exec (.holdExpiry g) t = .next (finish (t.setReports [])) := exec_of_stopped (by simp) rfl (by
    show (channelOf t g).holdDue = none
    rw [hchannel]
    exact hstopped)
  obtain ⟨hkept, hgauges⟩ := finish_untouched htAwake
  obtain ⟨t', ht', hheld, -⟩ := holdExpiry_spec hawake hdue
  obtain ⟨hchannel', hkept'⟩ := hheld hholding
  have htAwake' : AwakeLaw t' := by
    cases ht'
    exact awake_finish _
  have hrecord : gaugeRecord t' g = gaugeRecord s g := gaugeRecord_congr (hkept' .tables (by decide)) g
  have hnow : t'.now = s.now := hkept' .time (by decide)
  obtain ⟨u', hu', htaken', -⟩ := stall_spec (g := g) htAwake'
  obtain ⟨hafter, -⟩ := htaken' ⟨by rw [hrecord, henabled], by rw [hchannel']; rfl, by rw [hchannel']; exact hstepping⟩
  have hchannelU : channelOf (finish (t.setReports [])) g
      = withFault (gaugeRecord s g) s.gauges.grace (stalledChannel s.now (channelOf s g)) := by
    rw [channelOf, hgauges, ← channelOf, hchannel]
  refine ⟨t, _, t', u', ht, hu, ht', hu', ?_, ?_, hkept⟩
  · rw [hchannelU, hafter, hrecord, hnow, hchannel', stalledChannel_endHold hholding hholdDue hdue.2]
  · rw [hchannelU]
    exact hspent.mpr (.inr ⟨hholding, d, hholdDue, hdue.2⟩)

/-- Settles O46. -/
theorem stallRehomesOrFails : Obligations.StallRehomesOrFails := by
  refine ⟨fun g s hawake => ?_, fun g s d hawake hdue => stall_holdExpiry_spec hawake hdue⟩
  obtain ⟨t, hexec, htaken, hrefused⟩ := stall_spec (g := g) hawake
  refine ⟨t, hexec, fun henabled hsensed hstepping => ?_, fun hno => hrefused fun ⟨henabled, hsensed, hstepping⟩ => ?_⟩
  · obtain ⟨hchannel, hraw, hfew, hmany⟩ := htaken ⟨henabled, hsensed, hstepping⟩
    obtain ⟨hstalls, hposition, hholdDue, hdamped, hspent⟩ := stalledChannel_items s.now (channelOf s g)
    rw [hchannel]
    refine ⟨hraw, hstalls, hposition, hholdDue, hdamped, hspent, fun h => ?_, fun h => ?_⟩
    · obtain ⟨hstate, hspeed, hprogress, hrun⟩ := stalledChannel_rehomed (now := s.now) h
      exact ⟨hstate, hspeed, hprogress, hrun, hfew h⟩
    · obtain ⟨hstate, hspeed, hperiod⟩ := stalledChannel_failed (now := s.now) h
      refine ⟨hstate, hspeed, hperiod, ?_, hmany h⟩
      simp [withFault, henabled, hstate, faultCondition]
  · simp [henabled, hsensed, hstepping] at hno

end Sys2Proof.Proofs

/-! Proofs. A motion period, state by state (O45). -/

namespace Sys2Proof.Proofs

open Sys2Proof Sys2Proof.Machine Sys2Proof.Claims

/-! ## The state that a channel calls for -/

/-- The state called for and its rest reason (R31, Table 2-11). -/
theorem calledChannel_calledFor (s : State) (g : Fin 6) (c : Channel) :
    ((calledChannel s g c).state, (calledChannel s g c).rest) = calledFor s g s.service.override.inForce c := by
  simp only [calledChannel, calledFor, Channel.parkOrParked, Channel.park, Channel.goto, Channel.restWith,
    Channel.overrideTo, Channel.hold, Channel.endHold]
  by_cases hoff : s.control.part.ignitionOff = true
  · simp only [hoff, if_true]
    split <;> rfl
  by_cases hfallback : s.control.fallback = true
  · simp [hoff, hfallback]
  by_cases hforce : s.service.override.inForce = true
  · simp [hoff, hfallback, hforce]
  simp only [hoff, hfallback, hforce]
  cases (sourceSlot s g).quality
  case stale =>
    by_cases hspent : c.holdSpent = true <;> by_cases hzero : (gaugeRecord s g).holdTime = 0 <;> simp [hspent, hzero]
  all_goals rfl

/-- With the ignition on the state called for depends on the channel's hold alone. -/
theorem calledFor_congr {s : State} {c c' : Channel} (g : Fin 6) (inForce : Bool)
    (hignition : s.control.part.ignitionOff = false) (hspent : c'.holdSpent = c.holdSpent) :
    calledFor s g inForce c' = calledFor s g inForce c := by
  simp [calledFor, hignition, hspent]

/-- The other items of a channel in the state it calls for. -/
theorem calledChannel_items (s : State) (g : Fin 6) (c : Channel) :
    (calledChannel s g c).speed = c.speed ∧ (calledChannel s g c).leg = none
      ∧ (calledChannel s g c).damped = if (calledChannel s g c).state = .overridden then
          256 * ((gaugeRecord s g).fullScale * s.service.override.fraction / 255) else c.damped := by
  simp only [calledChannel, Channel.parkOrParked, Channel.park, Channel.goto, Channel.restWith,
    Channel.overrideTo, Channel.hold, Channel.endHold]
  repeat' split
  all_goals simp_all [overridePositionOf, overridePosition]

/-- OVERRIDDEN is no fault, so that a channel without a fault reports nothing on its entry (R40). -/
theorem enterCalled_reports {s : State} {g : Fin 6} {c : Channel} (hfault : (channelOf s g).fault = false)
    (hcalled : (calledChannel s g c).state = .overridden) : (enterCalled g c s).reports = s.reports :=
  putChannel_reports (by simp [channelFault, hcalled, faultCondition, hfault])

/-- The channel of a command that enters the state called for, once its reports have been delivered. -/
theorem channelOf_finish_called {s u : State} {g : Fin 6} {c : Channel} (hfault : (channelOf s g).fault = false)
    (hgauges : u.gauges = (enterCalled g c (s.setReports [])).gauges)
    (hreports : u.reports = (enterCalled g c (s.setReports [])).reports) (hawake : sleepReady u = false) :
    channelOf (finish u) g = withFault (gaugeRecord s g) s.gauges.grace (calledChannel s g c) := by
  have hchannel : channelOf u g = withFault (gaugeRecord s g) s.gauges.grace (calledChannel s g c) := by
    rw [channelOf, hgauges, ← channelOf, enterCalled, channelOf_putChannel_same]
    rfl
  rw [← hchannel]
  by_cases hcalled : (calledChannel s g c).state = .overridden
  · have hnone : u.reports = [] := hreports.trans (enterCalled_reports (s := s.setReports []) hfault hcalled)
    rw [finish_idle hnone hawake]
    simp [channelOf]
  · exact channelOf_finish hawake (by rwa [hchannel])

/-! ## The period's work -/

/-- The damping of a channel that follows its target (R25, R41). -/
def followedDamping (s : State) (g : Fin 6) : Nat :=
  match (channelOf s g).state with
  | .overridden => 256 * ((gaugeRecord s g).fullScale * s.service.override.fraction / 255)
  | .resting => damp (dampingShift (gaugeRecord s g) (channelOf s g)) (gaugeRecord s g).rest (channelOf s g).damped
  | _ => damp (dampingShift (gaugeRecord s g) (channelOf s g))
      (characteristic (gaugeRecord s g).breakpoints (sourceSlot s g).value) (channelOf s g).damped

/-- A channel that follows its target for one period (Table 2-6). -/
def followedChannel (s : State) (g : Fin 6) (d : Nat) : Channel :=
  Channel.moveTo (gaugeRecord s g) (goalOf (followedDamping s g))
    { channelOf s g with periodDue := some (d + 10), damped := followedDamping s g }

theorem goalOf_mul (n : Nat) : goalOf (256 * n) = n := by
  unfold goalOf
  omega

/-- The period of a channel that follows a target. -/
theorem motionWork_follows {s : State} {g : Fin 6} (d : Nat) (hstate : (channelOf s g).state = .tracking
    ∨ (channelOf s g).state = .holding ∨ (channelOf s g).state = .resting ∨ (channelOf s g).state = .overridden) :
    motionWork g d s = putChannel g (followedChannel s g d) s := by
  rcases hstate with h | h | h | h
  case inr.inr.inr =>
    simp only [motionWork, h, followedChannel, followedDamping, goalOf_mul]
    rfl
  all_goals
    simp only [motionWork, h, followedChannel, followedDamping]
    rfl

/-- The motion rule at a known position (R23, R27, R28). -/
theorem moveTo_eq_drivenChannel {r : GaugeRecord} {goal p d : Nat} {c : Channel} (hp : c.position = some p) :
    Channel.moveTo r goal { c with periodDue := some (d + motionMs) } = drivenChannel r goal p d c := by
  simp [Channel.moveTo, drivenChannel, hp, motionMs]

/-- The homing run of a channel after a period that does not end it (R29). -/
theorem motionWork_homing {s : State} {g : Fin 6} (d : Nat) (hstate : (channelOf s g).state = .homing)
    (hshort : (channelOf s g).progress + (gaugeRecord s g).homingSpeed < (gaugeRecord s g).fullScale + 200) :
    motionWork g d s = putChannel g { channelOf s g with
      progress := (channelOf s g).progress + (gaugeRecord s g).homingSpeed
      drive := -((gaugeRecord s g).homingSpeed : Int), stepping := false, periodDue := some (d + 10) } s := by
  have hmin : min (gaugeRecord s g).homingSpeed ((gaugeRecord s g).fullScale + 200 - (channelOf s g).progress)
      = (gaugeRecord s g).homingSpeed := by omega
  simp only [motionWork, hstate, homingPeriod, homingDistance, hmin, if_neg (Nat.not_le.mpr hshort)]

/-- A channel at the end of its homing run (R29). -/
def homedChannel (s : State) (g : Fin 6) (d : Nat) : Channel :=
  let n := min (gaugeRecord s g).homingSpeed ((gaugeRecord s g).fullScale + 200 - (channelOf s g).progress)
  Channel.homed { channelOf s g with
    progress := (channelOf s g).progress + n, drive := -(n : Int), stepping := false, periodDue := some (d + 10) }

/-- The period that ends a homing run (R29). -/
theorem motionWork_homed {s : State} {g : Fin 6} (d : Nat) (hstate : (channelOf s g).state = .homing)
    (hlong : (gaugeRecord s g).fullScale + 200 ≤ (channelOf s g).progress + (gaugeRecord s g).homingSpeed) :
    motionWork g d s = endHoming g (homedChannel s g d) s := by
  have hdone : (gaugeRecord s g).fullScale + 200 ≤ (channelOf s g).progress
      + min (gaugeRecord s g).homingSpeed ((gaugeRecord s g).fullScale + 200 - (channelOf s g).progress) := by omega
  simp only [motionWork, hstate, homingPeriod, homingDistance, if_pos hdone]
  rfl

/-- The channel at whose period the work of the sweep or of parking begins. -/
theorem motionWork_starting {s : State} {g : Fin 6} (d : Nat) :
    ((channelOf s g).state = .sweeping →
      motionWork g d s = sweepPeriod g { channelOf s g with periodDue := some (d + motionMs) } s)
    ∧ ((channelOf s g).state = .parking →
      motionWork g d s = parkingPeriod g { channelOf s g with periodDue := some (d + motionMs) } s) := by
  obtain ⟨c, hc⟩ : ∃ c : Channel, { channelOf s g with periodDue := some (d + motionMs) } = c := ⟨_, rfl⟩
  constructor
  all_goals
    intro h
    simp only [motionWork, hc]
    simp only [h]

/-- The up leg of the sweep (R30). -/
theorem motionWork_sweepUp {s : State} {g : Fin 6} (d : Nat) {p : Nat} (hstate : (channelOf s g).state = .sweeping)
    (hleg : (channelOf s g).leg = some .up) (hp : (channelOf s g).position = some p) :
    motionWork g d s = putChannel g { drivenChannel (gaugeRecord s g) (gaugeRecord s g).fullScale p d (channelOf s g)
        with
      leg := if (drivenChannel (gaugeRecord s g) (gaugeRecord s g).fullScale p d (channelOf s g)).position
          = some (gaugeRecord s g).fullScale then some .down else some .up } s := by
  rw [(motionWork_starting d).1 hstate, sweepPeriod]
  split
  · next h => exact absurd (hleg.symm.trans h) (by simp)
  · have hup : (drivenChannel (gaugeRecord s g) (gaugeRecord s g).fullScale p d (channelOf s g)).leg = some .up := hleg
    simp only [moveTo_eq_drivenChannel hp]
    generalize drivenChannel (gaugeRecord s g) (gaugeRecord s g).fullScale p d (channelOf s g) = c at hup ⊢
    by_cases hend : c.position = some (gaugeRecord s g).fullScale
    · simp only [if_pos hend]
    · simp only [if_neg hend, ← hup]
  · next h => exact absurd (hleg.symm.trans h) (by simp)

/-- The down leg of the sweep (R30). -/
theorem motionWork_sweepDown {s : State} {g : Fin 6} (d : Nat) {p : Nat} (hstate : (channelOf s g).state = .sweeping)
    (hleg : (channelOf s g).leg = some .down) (hp : (channelOf s g).position = some p) :
    motionWork g d s = if (drivenChannel (gaugeRecord s g) 0 p d (channelOf s g)).position = some 0 then
        reportStartDone g (enterCalled g (drivenChannel (gaugeRecord s g) 0 p d (channelOf s g)) s)
      else putChannel g (drivenChannel (gaugeRecord s g) 0 p d (channelOf s g)) s := by
  rw [(motionWork_starting d).1 hstate, sweepPeriod]
  split
  · rw [moveTo_eq_drivenChannel hp]
  · next h => exact absurd (hleg.symm.trans h) (by simp)
  · next h => exact absurd (hleg.symm.trans h) (by simp)

/-- Parking (R39). -/
theorem motionWork_parking {s : State} {g : Fin 6} (d : Nat) {p : Nat} (hstate : (channelOf s g).state = .parking)
    (hp : (channelOf s g).position = some p) :
    motionWork g d s = putChannel g
      (if (drivenChannel (gaugeRecord s g) 0 p d (channelOf s g)).position = some 0 then
        (drivenChannel (gaugeRecord s g) 0 p d (channelOf s g)).park
      else drivenChannel (gaugeRecord s g) 0 p d (channelOf s g)) s := by
  rw [(motionWork_starting d).2 hstate, parkingPeriod, moveTo_eq_drivenChannel hp]

theorem motionWork_still {s : State} {g : Fin 6} (d : Nat) (hstate : (channelOf s g).state.moving = false) :
    motionWork g d s = s := by
  cases h : (channelOf s g).state <;> simp [h, ChannelState.moving] at hstate <;> simp [motionWork, h]

/-! ## A period at a channel whose state stays -/

/-- The GAUGE-FAULT condition follows state and rest reason alone (R40). -/
theorem channelFault_congr {s : State} {g : Fin 6} {c : Channel} (hfault : FaultLaw s)
    (hstate : c.state = (channelOf s g).state) (hrest : c.rest = (channelOf s g).rest) :
    channelFault s g c = (channelOf s g).fault := by
  rw [hfault.1 g, channelFault, channelFault, hstate, hrest]

/-- Neither homing nor the sweep is a fault (R40). -/
theorem fault_of_starting {s : State} {g : Fin 6} (hfault : FaultLaw s)
    (hstate : (channelOf s g).state = .homing ∨ (channelOf s g).state = .sweeping) : (channelOf s g).fault = false := by
  rw [hfault.1 g]
  rcases hstate with h | h <;> simp [channelFault, h, faultCondition]

/-- A period that puts a channel with its state and rest reason: nothing else changes. -/
theorem finish_motion_keeps {s : State} {g : Fin 6} {c : Channel} (hawake : AwakeLaw s) (hfault : FaultLaw s)
    (hstate : c.state = (channelOf s g).state) (hrest : c.rest = (channelOf s g).rest)
    (hsame : c.fault = (channelOf s g).fault) :
    channelOf (finish (putChannel g c (s.setReports []))) g = c
      ∧ (∀ g', g' ≠ g → channelOf (finish (putChannel g c (s.setReports []))) g' = channelOf s g')
      ∧ Kept [.gauges] s (finish (putChannel g c (s.setReports []))) := by
  obtain ⟨hown, hothers, -, hkept⟩ := finish_putChannel_quiet hawake (channelFault_congr hfault hstate hrest)
  exact ⟨hown.trans (by rw [← hsame]), hothers, hkept⟩

/-! ## The end of homing and sweep -/

/-- The channel enters the state it calls for, with its start-sequence report or without. -/
theorem finish_called {s u : State} {g : Fin 6} {c : Channel} (hawake : AwakeLaw s)
    (hfault : (channelOf s g).fault = false)
    (hu : u = enterCalled g c (s.setReports []) ∨ u = reportStartDone g (enterCalled g c (s.setReports []))) :
    channelOf (finish u) g = withFault (gaugeRecord s g) s.gauges.grace (calledChannel s g c)
      ∧ (finish u).control = u.control ∧ Kept ([.control] ++ told) s (finish u) := by
  have hentered : sleepReady (enterCalled g c (s.setReports [])) = false :=
    awake_putChannel (s := s.setReports []) hawake g _
  have hkept : Kept ([.control] ++ told) s (enterCalled g c (s.setReports [])) :=
    Kept.trans (kept_setReports _ s []) (Kept.mono (kept_putChannel g _ _) (by decide))
  have hfinal : sleepReady u = false ∧ u.gauges = (enterCalled g c (s.setReports [])).gauges
      ∧ u.reports = (enterCalled g c (s.setReports [])).reports ∧ Kept ([.control] ++ told) s u := by
    rcases hu with rfl | rfl
    · exact ⟨hentered, rfl, rfl, hkept⟩
    · exact ⟨awake_reportStartDone hentered g, by simp, by simp,
        Kept.trans hkept (Kept.mono (kept_reportStartDone g _) (by decide))⟩
  obtain ⟨hu', hgauges, hreports, hkept'⟩ := hfinal
  exact ⟨channelOf_finish_called hfault hgauges hreports hu', (finish_awake_frame hu').1,
    kept_finish_told hkept' (by decide) hu'⟩

end Sys2Proof.Proofs

/-! Proofs. O45: a motion period with the end of its command. -/

namespace Sys2Proof.Proofs

open Sys2Proof Sys2Proof.Machine Sys2Proof.Claims

/-- The command of a motion period that has come due. -/
theorem exec_motionPeriod {g : Fin 6} {s : State} {d : Nat} (hdue : cameDue (.motionPeriod g) d s) :
    exec (.motionPeriod g) s = .next (finish (motionWork g d (s.setReports []))) :=
  exec_of_due (by simp) rfl (Option.some.inj hdue.1) hdue.2

/-! ## The end of a homing run -/

/-- The first run of a cycle sweeps (R30). -/
theorem endHoming_sweeps {g : Fin 6} {u : State} {c : Channel} (hrun : c.run = .first)
    (hignition : u.control.part.ignitionOff = false) (hnormal : u.control.fallback = false) :
    endHoming g c u = putChannel g { c with state := .sweeping, leg := some .up } u := by
  unfold endHoming
  split
  · rw [if_neg (by simp [hignition]), if_neg (by simp [hnormal])]
  · next h => exact absurd (hrun.symm.trans h) (by simp)
  · next h => exact absurd (hrun.symm.trans h) (by simp)

/-- The end of a homing run that does not sweep: the channel enters the state it calls for, and but for a re-homing
run, or with the ignition off, its start-sequence report is given (R30, R31, R32). -/
theorem endHoming_called {g : Fin 6} {u : State} {c : Channel} (h : c.run ≠ .first ∨ u.control.part.ignitionOff = true
      ∨ u.control.fallback = true) :
    endHoming g c u = enterCalled g c u ∧ (c.run = .rehoming ∨ u.control.part.ignitionOff = true)
      ∨ endHoming g c u = reportStartDone g (enterCalled g c u) ∧ c.run ≠ .rehoming := by
  cases hrun : c.run with
  | first =>
    by_cases hoff : u.control.part.ignitionOff = true
    · simp [endHoming, hrun, hoff]
    · have hfallback : u.control.fallback = true := by simpa [hrun, hoff] using h
      simp [endHoming, hrun, hoff, hfallback]
  | afterSweepStall => simp [endHoming, hrun]
  | rehoming => simp [endHoming, hrun]

section
variable {g : Fin 6} {s : State} {d : Nat} (hawake : AwakeLaw s) (hfault : FaultLaw s)
include hawake hfault

/-! ## Periods that leave the state -/

theorem period_follows (hstate : (channelOf s g).state = .tracking ∨ (channelOf s g).state = .holding
      ∨ (channelOf s g).state = .resting ∨ (channelOf s g).state = .overridden) :
    channelOf (finish (motionWork g d (s.setReports []))) g = followedChannel s g d
      ∧ (∀ g', g' ≠ g → channelOf (finish (motionWork g d (s.setReports []))) g' = channelOf s g')
      ∧ (finish (motionWork g d (s.setReports []))).gauges.grace = s.gauges.grace
      ∧ Kept [.gauges] s (finish (motionWork g d (s.setReports []))) := by
  have hwork : motionWork g d (s.setReports []) = putChannel g (followedChannel s g d) (s.setReports []) :=
    motionWork_follows (s := s.setReports []) d hstate
  obtain ⟨hown, hothers, hkept⟩ := finish_motion_keeps (c := followedChannel s g d) hawake hfault rfl rfl rfl
  rw [hwork]
  exact ⟨hown, hothers, (finish_grace _).trans (putChannel_grace _ _ _), hkept⟩

theorem period_homing (hstate : (channelOf s g).state = .homing)
    (hshort : (channelOf s g).progress + (gaugeRecord s g).homingSpeed < (gaugeRecord s g).fullScale + 200) :
    channelOf (finish (motionWork g d (s.setReports []))) g = { channelOf s g with
        progress := (channelOf s g).progress + (gaugeRecord s g).homingSpeed,
        drive := -((gaugeRecord s g).homingSpeed : Int), stepping := false, periodDue := some (d + 10) }
      ∧ (∀ g', g' ≠ g → channelOf (finish (motionWork g d (s.setReports []))) g' = channelOf s g')
      ∧ Kept [.gauges] s (finish (motionWork g d (s.setReports []))) := by
  rw [motionWork_homing (s := s.setReports []) d hstate hshort]
  exact finish_motion_keeps hawake hfault rfl rfl rfl

theorem period_sweepUp {p : Nat} {c : Channel} (hstate : (channelOf s g).state = .sweeping)
    (hleg : (channelOf s g).leg = some .up) (hp : (channelOf s g).position = some p)
    (hc : c = drivenChannel (gaugeRecord s g) (gaugeRecord s g).fullScale p d (channelOf s g)) :
    channelOf (finish (motionWork g d (s.setReports []))) g = { c with
        leg := if c.position = some (gaugeRecord s g).fullScale then some .down else some .up }
      ∧ (∀ g', g' ≠ g → channelOf (finish (motionWork g d (s.setReports []))) g' = channelOf s g')
      ∧ Kept [.gauges] s (finish (motionWork g d (s.setReports []))) := by
  subst hc
  rw [motionWork_sweepUp (s := s.setReports []) d hstate hleg hp]
  exact finish_motion_keeps hawake hfault rfl rfl rfl

theorem period_toZero {p : Nat} {c : Channel} (hstate : (channelOf s g).state = .sweeping
      ∧ (channelOf s g).leg = some .down ∨ (channelOf s g).state = .parking)
    (hp : (channelOf s g).position = some p) (hc : c = drivenChannel (gaugeRecord s g) 0 p d (channelOf s g))
    (hcourse : c.position ≠ some 0) :
    channelOf (finish (motionWork g d (s.setReports []))) g = c
      ∧ (∀ g', g' ≠ g → channelOf (finish (motionWork g d (s.setReports []))) g' = channelOf s g')
      ∧ Kept [.gauges] s (finish (motionWork g d (s.setReports []))) := by
  have hwork : motionWork g d (s.setReports []) = putChannel g c (s.setReports []) := by
    subst hc
    rcases hstate with ⟨hsweeping, hleg⟩ | hparking
    · exact (motionWork_sweepDown (s := s.setReports []) d hsweeping hleg hp).trans (if_neg hcourse)
    · exact (motionWork_parking (s := s.setReports []) d hparking hp).trans
        (congrArg (fun c => putChannel g c (s.setReports [])) (if_neg hcourse))
  rw [hwork, hc]
  exact finish_motion_keeps hawake hfault rfl rfl rfl

/-! ## The end of homing -/

theorem period_sweeps (hstate : (channelOf s g).state = .homing)
    (hlong : (gaugeRecord s g).fullScale + 200 ≤ (channelOf s g).progress + (gaugeRecord s g).homingSpeed)
    (hrun : (channelOf s g).run = .first) (hignition : s.control.part.ignitionOff = false)
    (hnormal : s.control.fallback = false) :
    (channelOf (finish (motionWork g d (s.setReports []))) g).state = .sweeping
      ∧ (channelOf (finish (motionWork g d (s.setReports []))) g).leg = some .up
      ∧ (channelOf (finish (motionWork g d (s.setReports []))) g).position = some 0
      ∧ (channelOf (finish (motionWork g d (s.setReports []))) g).speed = 0
      ∧ Kept [.gauges] s (finish (motionWork g d (s.setReports []))) := by
  have hwork : motionWork g d (s.setReports [])
      = putChannel g { homedChannel s g d with state := .sweeping, leg := some .up } (s.setReports []) := by
    rw [motionWork_homed (s := s.setReports []) d hstate hlong]
    exact endHoming_sweeps (c := homedChannel s g d) hrun hignition hnormal
  have hquiet : channelFault s g { homedChannel s g d with state := .sweeping, leg := some .up }
      = (channelOf s g).fault := by
    rw [fault_of_starting hfault (.inl hstate)]
    simp [channelFault, faultCondition]
  obtain ⟨hown, -, -, hkept⟩ := finish_putChannel_quiet hawake hquiet
  rw [hwork, hown]
  exact ⟨rfl, rfl, rfl, rfl, hkept⟩

/-- A homing run that ends at a channel which does not sweep: it enters the state it calls for, where only the
start-sequence report touches the State Controller. -/
theorem period_homed (hstate : (channelOf s g).state = .homing)
    (hlong : (gaugeRecord s g).fullScale + 200 ≤ (channelOf s g).progress + (gaugeRecord s g).homingSpeed)
    (hcalled : (channelOf s g).run ≠ .first ∨ s.control.part.ignitionOff = true ∨ s.control.fallback = true) :
    channelOf (finish (motionWork g d (s.setReports []))) g
        = withFault (gaugeRecord s g) s.gauges.grace (calledChannel s g (homedChannel s g d))
      ∧ (s.control.part.ignitionOff = false → (finish (motionWork g d (s.setReports []))).control
          = if (channelOf s g).run = .rehoming then s.control else afterStartReport s.tables.gauges g s.control)
      ∧ Kept ([.control] ++ told) s (finish (motionWork g d (s.setReports []))) := by
  have hnofault : (channelOf s g).fault = false := fault_of_starting hfault (.inl hstate)
  have hwork : motionWork g d (s.setReports []) = endHoming g (homedChannel s g d) (s.setReports []) :=
    motionWork_homed (s := s.setReports []) d hstate hlong
  have hrun : (homedChannel s g d).run = (channelOf s g).run := rfl
  rw [hwork]
  rcases endHoming_called (g := g) (c := homedChannel s g d) (u := s.setReports []) hcalled with
    ⟨hend, hwithout⟩ | ⟨hend, hwith⟩
  · obtain ⟨hchannel, hcontrol, hkept⟩ := finish_called hawake hnofault (.inl hend)
    refine ⟨hchannel, fun hignition => ?_, hkept⟩
    have hrehomed : (channelOf s g).run = .rehoming := hrun ▸ hwithout.resolve_right (by simp [hignition])
    rw [if_pos hrehomed, hcontrol, hend]
    simp [enterCalled]
  · obtain ⟨hchannel, hcontrol, hkept⟩ := finish_called hawake hnofault (.inr hend)
    refine ⟨hchannel, fun _ => ?_, hkept⟩
    rw [if_neg (hrun ▸ hwith), hcontrol, hend, reportStartDone_control]
    simp

theorem period_homed_parks (hstate : (channelOf s g).state = .homing)
    (hlong : (gaugeRecord s g).fullScale + 200 ≤ (channelOf s g).progress + (gaugeRecord s g).homingSpeed)
    (hoff : s.control.part.ignitionOff = true) :
    (channelOf (finish (motionWork g d (s.setReports []))) g).state = .parked
      ∧ (channelOf (finish (motionWork g d (s.setReports []))) g).position = some 0
      ∧ (channelOf (finish (motionWork g d (s.setReports []))) g).periodDue = none := by
  obtain ⟨hchannel, -⟩ := period_homed (d := d) hawake hfault hstate hlong (.inr (.inl hoff))
  have hparks : calledChannel s g (homedChannel s g d) = (homedChannel s g d).park := by
    rw [calledChannel, if_pos hoff]
    exact if_pos rfl
  rw [hchannel, hparks]
  exact ⟨rfl, rfl, rfl⟩

theorem period_homed_called (hstate : (channelOf s g).state = .homing)
    (hlong : (gaugeRecord s g).fullScale + 200 ≤ (channelOf s g).progress + (gaugeRecord s g).homingSpeed)
    (hignition : s.control.part.ignitionOff = false)
    (hcalled : (channelOf s g).run ≠ .first ∨ s.control.fallback = true) :
    channelIn (finish (motionWork g d (s.setReports []))) g (calledFor s g s.service.override.inForce (channelOf s g))
      ∧ (channelOf (finish (motionWork g d (s.setReports []))) g).position = some 0
      ∧ (channelOf (finish (motionWork g d (s.setReports []))) g).speed = 0
      ∧ (channelOf (finish (motionWork g d (s.setReports []))) g).damped
        = (if (channelOf (finish (motionWork g d (s.setReports []))) g).state = .overridden then
            256 * ((gaugeRecord s g).fullScale * s.service.override.fraction / 255) else (channelOf s g).damped)
      ∧ (finish (motionWork g d (s.setReports []))).control = (if (channelOf s g).run = .rehoming then s.control
          else afterStartReport s.tables.gauges g s.control)
      ∧ Kept ([.control] ++ told) s (finish (motionWork g d (s.setReports []))) := by
  obtain ⟨hchannel, hcontrol, hkept⟩ := period_homed (d := d) hawake hfault hstate hlong (hcalled.imp id .inr)
  obtain ⟨hspeed, -, hdamped⟩ := calledChannel_items s g (homedChannel s g d)
  rw [← calledFor_congr (c := channelOf s g) (c' := homedChannel s g d) g _ hignition rfl, ← calledChannel_calledFor]
  rw [channelIn, hchannel]
  exact ⟨⟨rfl, rfl⟩, calledChannel_position s g _, hspeed, hdamped, hcontrol hignition, hkept⟩

/-! ## The end of sweep and parking -/

theorem period_swept {p : Nat} (hstate : (channelOf s g).state = .sweeping) (hleg : (channelOf s g).leg = some .down)
    (hp : (channelOf s g).position = some p)
    (hend : (drivenChannel (gaugeRecord s g) 0 p d (channelOf s g)).position = some 0)
    (hignition : s.control.part.ignitionOff = false) :
    channelIn (finish (motionWork g d (s.setReports []))) g (calledFor s g s.service.override.inForce (channelOf s g))
      ∧ (channelOf (finish (motionWork g d (s.setReports []))) g).position = some 0
      ∧ (channelOf (finish (motionWork g d (s.setReports []))) g).leg = none
      ∧ (finish (motionWork g d (s.setReports []))).control = afterStartReport s.tables.gauges g s.control
      ∧ Kept ([.control] ++ told) s (finish (motionWork g d (s.setReports []))) := by
  obtain ⟨c, hc⟩ : ∃ c, c = drivenChannel (gaugeRecord s g) 0 p d (channelOf s g) := ⟨_, rfl⟩
  have hwork : motionWork g d (s.setReports []) = reportStartDone g (enterCalled g c (s.setReports [])) := by
    rw [hc]
    exact (motionWork_sweepDown (s := s.setReports []) d hstate hleg hp).trans (if_pos hend)
  obtain ⟨hchannel, hcontrol, hkept⟩ :=
    finish_called (c := c) hawake (fault_of_starting hfault (.inr hstate)) (.inr hwork)
  obtain ⟨-, hnoleg, -⟩ := calledChannel_items s g c
  rw [← calledFor_congr (c := channelOf s g) (c' := c) g _ hignition (by rw [hc]; rfl), ← calledChannel_calledFor,
      channelIn, hchannel]
  refine ⟨⟨rfl, rfl⟩, (calledChannel_position s g c).trans (by rw [hc, hend]), hnoleg, ?_, hkept⟩
  rw [hcontrol, hwork, reportStartDone_control]
  simp [enterCalled]

omit hfault in
theorem period_parked {p : Nat} (hstate : (channelOf s g).state = .parking) (hp : (channelOf s g).position = some p)
    (hend : (drivenChannel (gaugeRecord s g) 0 p d (channelOf s g)).position = some 0) :
    (channelOf (finish (motionWork g d (s.setReports []))) g).state = .parked
      ∧ (channelOf (finish (motionWork g d (s.setReports []))) g).position = some 0
      ∧ (channelOf (finish (motionWork g d (s.setReports []))) g).periodDue = none := by
  have hwork : motionWork g d (s.setReports [])
      = putChannel g (drivenChannel (gaugeRecord s g) 0 p d (channelOf s g)).park (s.setReports []) :=
    (motionWork_parking (s := s.setReports []) d hstate hp).trans
      (congrArg (fun c => putChannel g c (s.setReports [])) (if_pos hend))
  obtain ⟨hchannel, -⟩ := finish_putChannel_told (g := g)
    (c := (drivenChannel (gaugeRecord s g) 0 p d (channelOf s g)).park) hawake (by simp [Channel.park, Channel.goto])
  rw [hwork, hchannel]
  exact ⟨rfl, rfl, rfl⟩

end

/-- Settles O45, state by state. -/
theorem motionPeriodHomesSweepsAndParks : Obligations.MotionPeriodHomesSweepsAndParks := by
  refine ⟨fun g s d hdue hawake hfault hstate => ⟨_, exec_motionPeriod hdue, ?_⟩,
    fun g s d hdue hawake hfault _ => ⟨_, exec_motionPeriod hdue, period_homing hawake hfault,
      period_sweeps hawake hfault, period_homed_parks hawake hfault,
      fun h hleg p c => period_sweepUp hawake hfault h hleg, fun h p c => period_toZero hawake hfault h,
      period_homed_called hawake hfault, fun h hleg p => period_swept hawake hfault h hleg,
      fun h p => period_parked hawake h, fun hstill => ?_⟩⟩
  · obtain ⟨hown, hothers, hgrace, hkept⟩ := period_follows (d := d) hawake hfault hstate
    rw [hown]
    refine ⟨hkept, hgrace, hothers, rfl, rfl, rfl, rfl, rfl, rfl, rfl, rfl, rfl, rfl, rfl, rfl, rfl, rfl,
      fun p hp m hm => ?_⟩
    subst hm
    simp [followedChannel, Channel.moveTo, hp]
  · rw [motionWork_still (s := s.setReports []) d hstill]
    exact (finish_untouched hawake).1

end Sys2Proof.Proofs

/-! Proofs. Reports where nothing may be posted, and O27. -/

namespace Sys2Proof.Proofs

open Sys2Proof Sys2Proof.Machine Sys2Proof.Claims

/-! ## Lamps and override under reports -/

/-- The lamps with their states. -/
def lampStates (s : State) : List (Fin 32 × Bool × LampState) :=
  s.telltale.lamps.map (fun l => (l.output, l.proved, l.state))

/-- No lamp is OVERRIDDEN. -/
abbrev lampsFree (s : State) : Prop := ∀ l ∈ s.telltale.lamps, l.state ≠ .overridden

/-- What holds of the states of the lamps holds wherever the states are the same. -/
theorem forall_of_lampStates {s t : State} {P : Fin 32 → Bool → LampState → Prop} (h : lampStates t = lampStates s)
    (hs : ∀ l ∈ s.telltale.lamps, P l.output l.proved l.state) :
    ∀ m ∈ t.telltale.lamps, P m.output m.proved m.state := by
  intro m hm
  have hmem : (m.output, m.proved, m.state) ∈ lampStates s :=
    h ▸ List.mem_map_of_mem (f := fun l : Lamp => (l.output, l.proved, l.state)) hm
  obtain ⟨l, hl, heq⟩ := List.mem_map.mp hmem
  simp only [Prod.mk.injEq] at heq
  obtain ⟨houtput, hproved, hstate⟩ := heq
  rw [← houtput, ← hproved, ← hstate]
  exact hs l hl

theorem lampsFree_of_lampStates {s t : State} (h : lampStates t = lampStates s) (hs : lampsFree s) : lampsFree t :=
  forall_of_lampStates (P := fun _ _ st => st ≠ .overridden) h hs

@[simp] theorem follow_items (now : Nat) (l : Lamp) : (l.follow now).proved = l.proved
    ∧ (l.follow now).state = l.state := by
  unfold Lamp.follow
  split <;> simp [Lamp.drive]

/-- The end of an override frees no lamp where none is OVERRIDDEN. -/
theorem map_endLampOverride_free {now : Nat} {ls : List Lamp} (h : ∀ l ∈ ls, l.state ≠ .overridden) :
    ls.map (endLampOverride now) = ls :=
  (List.map_congr_left fun l hl => if_neg (h l hl)).trans (List.map_id ls)

theorem endOverride_lamps {s : State} (h : lampsFree s) : (endOverride s).telltale.lamps = s.telltale.lamps := by
  unfold endOverride
  split
  · simp [endTelltaleOverride, putOverride, map_endLampOverride_free h]
  · rfl

/-- A report moves no lamp into another state where none is OVERRIDDEN. -/
theorem lampStates_takeSource {s : State} (h : lampsFree s) (src : Source) (on : Bool) :
    lampStates (takeSource src on s) = lampStates s := by
  simp only [takeSource, applyConditions]
  generalize hf : sourceCondition src on _ = f
  generalize hchanged : List.map (Lamp.withConditions _ _ f) _ = changed
  generalize lampChanges _ changed = changes
  have hitems : changed.map (fun l => (l.output, l.proved, l.state)) = lampStates s := by
    rw [← hchanged, List.map_map]
    rfl
  have hfree : ∀ l ∈ changed, l.state ≠ .overridden :=
    forall_of_lampStates (t := s.setTelltale { s.telltale with lamps := changed })
      (P := fun _ _ st => st ≠ .overridden) hitems h
  rw [map_endLampOverride_free hfree, ite_self]
  generalize hu : updateFlags _ = u
  have hflags : lampStates u = lampStates s := by
    have hfollow : (changed.map (Lamp.follow s.now)).map (fun l => (l.output, l.proved, l.state)) = lampStates s := by
      rw [← hitems, List.map_map]
      exact List.map_congr_left fun l _ => by simp
    rw [← hu]
    simp only [updateFlags]
    split
    · exact hfollow
    · exact hfollow
  have hred : lampStates (changes.foldl (fun t c => reportRed c t) u) = lampStates s := by
    refine foldl_inv (fun t => lampStates t = lampStates s) _ (fun t c ht => ?_) _ _ hflags
    unfold reportRed
    split
    · rw [lampStates, endOverride_lamps (lampsFree_of_lampStates ht h)]
      exact ht
    · exact ht
  exact foldl_inv (fun t => lampStates t = lampStates s) _ (fun t c ht => by simpa [lampStates] using ht) _ _ hred

/-- Nor does the end of a command. -/
theorem lampStates_finish {s : State} (h : lampsFree s) : lampStates (finish s) = lampStates s := by
  have hsettle : lampStates (settle (settleFuel s) s) = lampStates s :=
    settle_inv (fun t => lampStates t = lampStates s) (fun _ _ ht => ht)
      (fun src on _ ht => (lampStates_takeSource (lampsFree_of_lampStates ht h) src on).trans ht) _ _ rfl
  simpa [lampStates, finish] using hsettle

/-! ## Reports where nothing may be posted -/

/-- No posting is allowed, and the chime list is empty. -/
structure Unposting (s : State) : Prop where
  posting : postingAllowed s = false
  chimes : s.chime.entries = []

/-- What reports leave there: the health attributes, the chimes, the page, the pop-ups where none follows its cause,
the proving timer and the load-fault records. -/
structure ReportsUnposted (s t : State) : Prop where
  control : t.control = s.control
  chime : t.chime = s.chime
  page : t.readout.page = s.readout.page
  popups : (∀ e ∈ s.readout.queue, e.nonLatched = false) → readoutCore t.readout = readoutCore s.readout
  proving : t.telltale.provingDue = s.telltale.provingDue
  loads : t.telltale.loads = s.telltale.loads
  monitor : t.monitor = s.monitor

/-- What changes lamps, flags, gauges and the override alone. -/
theorem ReportsUnposted.of_eq {s t : State} (hcontrol : t.control = s.control) (hchime : t.chime = s.chime)
    (hreadout : t.readout = s.readout) (hproving : t.telltale.provingDue = s.telltale.provingDue)
    (hloads : t.telltale.loads = s.telltale.loads) (hmonitor : t.monitor = s.monitor) : ReportsUnposted s t :=
  ⟨hcontrol, hchime, by rw [hreadout], fun _ => by rw [hreadout], hproving, hloads, hmonitor⟩

theorem ReportsUnposted.refl (s : State) : ReportsUnposted s s := .of_eq rfl rfl rfl rfl rfl rfl

theorem ReportsUnposted.trans {s t u : State} (h : ReportsUnposted s t) (k : ReportsUnposted t u) :
    ReportsUnposted s u where
  control := k.control.trans h.control
  chime := k.chime.trans h.chime
  page := k.page.trans h.page
  popups hs := by
    have hqueue : t.readout.queue = s.readout.queue := by
      have hcore := congrArg Readout.queue (h.popups hs)
      exact hcore
    exact (k.popups (by rwa [hqueue])).trans (h.popups hs)
  proving := k.proving.trans h.proving
  loads := k.loads.trans h.loads
  monitor := k.monitor.trans h.monitor

theorem Unposting.of_reports {s t : State} (h : Unposting s) (k : ReportsUnposted s t) : Unposting t where
  posting := by simpa only [postingAllowed, k.control, k.proving] using h.posting
  chimes := by rw [k.chime, h.chimes]

/-- A cause that has cleared takes back the pop-ups that follow it, where there are any (R86). -/
theorem reportsUnposted_causeCleared (m : Nat) (s : State) : ReportsUnposted s (causeCleared m s) := by
  unfold causeCleared
  split
  · next hany =>
    refine ⟨rfl, rfl, rfl, fun hs => ?_, rfl, rfl, by simp⟩
    obtain ⟨e, he, hfollows⟩ := List.any_eq_true.mp hany
    simp [hs e he] at hfollows
  · exact .refl s

/-- A change of a demand posts nothing, and finds no chime to take back. -/
theorem reportsUnposted_announce {s : State} (h : Unposting s) (c : DemandChange) :
    ReportsUnposted s (announce c s) := by
  have hchime : ∀ id, leaveChime id s = s := fun id => by simp [leaveChime, h.chimes]
  simp only [announce, h.posting, Bool.false_eq_true, if_false, leaveDemand, hchime, ite_self]
  repeat' split
  · exact .refl s
  · exact .refl s
  · exact reportsUnposted_causeCleared _ s
  · exact .refl s

theorem reportsUnposted_endOverride (s : State) : ReportsUnposted s (endOverride s) := by
  unfold endOverride
  split
  · exact .of_eq (by simp) (by simp) (by simp) (by simp [endTelltaleOverride, putOverride])
      (by simp [endTelltaleOverride, putOverride]) (by simp)
  · exact .refl s

/-- One report. -/
theorem reportsUnposted_takeSource {s : State} (h : Unposting s) (src : Source) (on : Bool) :
    ReportsUnposted s (takeSource src on s) := by
  simp only [takeSource, applyConditions]
  generalize List.map (Lamp.follow _) _ = lamps
  generalize lampChanges _ _ = changes
  generalize hu : updateFlags _ = u
  have hflags : ReportsUnposted s u := by
    rw [← hu]
    simp only [updateFlags]
    split
    · exact .of_eq rfl rfl rfl rfl rfl rfl
    · exact .of_eq rfl rfl rfl rfl rfl rfl
  have hred : ReportsUnposted s (changes.foldl (fun t c => reportRed c t) u) := by
    refine foldl_inv (ReportsUnposted s) _ (fun t c ht => ?_) _ _ hflags
    unfold reportRed
    split
    · exact ht.trans (reportsUnposted_endOverride t)
    · exact ht
  exact foldl_inv (ReportsUnposted s) _ (fun t c ht => ht.trans (reportsUnposted_announce (h.of_reports ht) c)) _ _ hred

/-- What the end of a command leaves where nothing may be posted. -/
theorem reportsUnposted_finish {s : State} (h : Unposting s) (hawake : sleepReady s = false) :
    ReportsUnposted s (finish s) := by
  have hsettle : ReportsUnposted s (settle (settleFuel s) s) :=
    settle_inv (ReportsUnposted s) (fun _ _ ht => ht.trans (.of_eq rfl rfl rfl rfl rfl rfl))
      (fun src on _ ht => ht.trans (reportsUnposted_takeSource (h.of_reports ht) src on)) _ _ (.refl s)
  have hcore : ∀ t, readoutCore (refreshScreen t).readout = readoutCore t.readout :=
    fun t => kept_refreshScreen [] t .readout (by simp)
  have hscreen : ∀ t, ReportsUnposted t (refreshScreen t) := fun t =>
    ⟨by simp, by simp, by have hpage := congrArg Readout.page (hcore t); exact hpage, fun _ => hcore t, by simp,
      by simp, by simp⟩
  rw [finish_awake hawake]
  exact hsettle.trans (hscreen _)

/-! ## The debounce expiry -/

theorem tryEndLoading_of_not_loading {s : State} (h : s.control.part ≠ .loading ∨ s.control.load ≠ .restored) :
    tryEndLoading s = s := by
  unfold tryEndLoading
  rw [if_neg]
  rintro ⟨hpart, hload, -⟩
  exact h.elim (fun k => k hpart) (fun k => k hload)

/-- The command of a debounce expiry that has come due. -/
theorem exec_ignitionDebounce {s : State} {d : Nat} (hdue : cameDue .ignitionDebounceExpiry d s) :
    exec .ignitionDebounceExpiry s = .next (finish (debounceIgnition (s.setReports []))) :=
  exec_of_due (f := fun _ => debounceIgnition) (by simp) rfl (Option.some.inj hdue.1) hdue.2

theorem kept_setControl (s : State) (c : Control) : Kept [.control] s (s.setControl c) := by
  intro b hb
  cases b
  case control => exact absurd (by decide) hb
  all_goals simp [agree]

/-- The level alone is taken where it has not changed, in part states that ignition off leaves, and before the restore
is complete (R159, R161, R162). -/
theorem debounceIgnition_level {s : State}
    (h : s.control.ignitionRaw = false ∧ s.control.part ≠ .loading ∧ s.control.part ≠ .start ∧ s.control.part ≠ .run
      ∨ s.control.ignitionRaw = s.control.ignition ∧ s.control.part ≠ .loading
      ∨ s.control.part = .loading ∧ s.control.load ≠ .restored) :
    debounceIgnition s = s.setControl (levelTaken s.control) := by
  have hloading : s.control.part ≠ .loading ∨ s.control.load ≠ .restored := by
    rcases h with ⟨-, h, -⟩ | ⟨-, h⟩ | ⟨-, h⟩
    · exact .inl h
    · exact .inl h
    · exact .inr h
  have hinner : (if s.control.ignitionRaw = s.control.ignition then s.setControl (levelTaken s.control)
      else if s.control.ignitionRaw then ignitionOn (s.setControl (levelTaken s.control))
      else ignitionOff (s.setControl (levelTaken s.control))) = s.setControl (levelTaken s.control) := by
    rcases h with ⟨hraw, -, hstart, hrun⟩ | ⟨hsame, -⟩ | ⟨hpart, -⟩
    · rw [if_neg (by simp [hraw] : ¬ s.control.ignitionRaw = true)]
      split
      · rfl
      · simp only [ignitionOff, levelTaken, State.setControl_control]
        cases hpart : s.control.part <;> simp_all
    · rw [if_pos hsame]
    · repeat' split
      · rfl
      · simp [ignitionOn, levelTaken, hpart]
      · simp [ignitionOff, levelTaken, hpart]
  rw [debounceIgnition_eq, hinner]
  exact tryEndLoading_of_not_loading hloading

end Sys2Proof.Proofs

/-! Proofs. O27: ignition off. -/

namespace Sys2Proof.Proofs

open Sys2Proof Sys2Proof.Machine Sys2Proof.Claims

/-- Ignition off in START or RUN enters AFTER-RUN (R161, R162). -/
theorem debounceIgnition_off {s : State} (hraw : s.control.ignitionRaw = false) (hon : s.control.ignition = true)
    (hpart : s.control.part = .start ∨ s.control.part = .run) :
    debounceIgnition s = enterAfterRun (s.setControl (levelTaken s.control)) := by
  have hoff : ignitionOff (s.setControl (levelTaken s.control))
      = enterAfterRun (s.setControl (levelTaken s.control)) := by
    rcases hpart with h | h <;> simp [ignitionOff, levelTaken, h]
  rw [debounceIgnition_eq, if_neg (by simp [hraw, hon]), if_neg (by simp [hraw]), hoff]
  exact tryEndLoading_of_not_loading (.inl (by simp [enterAfterRun]))

/-- What ignition off makes of a channel's state (R38). -/
theorem ignitionOff_states (c : Channel) :
    (c.state.stallSensed = true → c.state ≠ .parking →
        c.ignitionOff.state = if c.position = some 0 then .parked else .parking)
      ∧ (c.state.stallSensed = false → c.ignitionOff.state = c.state)
      ∧ c.ignitionOff.state ≠ .overridden := by
  have hparks : c.parkOrParked.state = if c.position = some 0 then .parked else .parking := by
    unfold Channel.parkOrParked
    split <;> rfl
  have hfree : (if c.position = some 0 then ChannelState.parked else .parking) ≠ .overridden := by
    split <;> simp
  cases h : c.state <;> simp [Channel.ignitionOff, h, ChannelState.stallSensed, hparks, hfree]

/-- The state in which AFTER-RUN is entered, an override in force still to be ended (R162). -/
def afterRunBegun (s : State) : State :=
  pageHome (clearChime false (ignitionOffTelltale (ignitionOffGauges
    (s.setControl { s.control with part := .afterRun, afterRunDue := some (s.now + afterRunMs) }))))

theorem enterAfterRun_eq (s : State) : enterAfterRun s = endOverride (afterRunBegun s) := rfl

theorem afterRunBegun_lamps (s : State) : ∀ l ∈ (afterRunBegun s).telltale.lamps, l.state = .afterRun := by
  intro l hl
  simp only [afterRunBegun, pageHome, clearChime, ignitionOffTelltale, enterLamps, State.setReadout_telltale,
    State.setChime_telltale, State.setTelltale_telltale] at hl
  obtain ⟨m, -, rfl⟩ := List.mem_map.mp hl
  rfl

theorem afterRunBegun_unposting (s : State) : Unposting (afterRunBegun s) where
  posting := by simp [postingAllowed, afterRunBegun, pageHome]
  chimes := by simp [afterRunBegun, pageHome, clearChime]

/-- What the entry to AFTER-RUN leaves, before its reports. -/
theorem enterAfterRun_parts (s : State) :
    ReportsUnposted (afterRunBegun s) (enterAfterRun s)
      ∧ (enterAfterRun s).service.override.inForce = false
      ∧ (∀ g, (gaugeRecord s g).enabled = true → channelOf (enterAfterRun s) g
          = withFault (gaugeRecord s g) s.gauges.grace (channelOf s g).ignitionOff)
      ∧ Kept ([.control] ++ told) s (enterAfterRun s) := by
  refine ⟨reportsUnposted_endOverride _, ?_, fun g henabled => ?_, fun b hb => ?_⟩
  · rw [enterAfterRun_eq, endOverride]
    split
    · simp [putOverride]
    · next h => simpa using h
  · obtain ⟨-, hchannels⟩ := ignitionOffGauges_channels
      (s.setControl { s.control with part := .afterRun, afterRunDue := some (s.now + afterRunMs) })
    have hchannel : channelOf (afterRunBegun s) g
        = withFault (gaugeRecord s g) s.gauges.grace (channelOf s g).ignitionOff := by
      have hbegun : channelOf (afterRunBegun s) g = channelOf (ignitionOffGauges
          (s.setControl { s.control with part := .afterRun, afterRunDue := some (s.now + afterRunMs) })) g := by
        simp [channelOf, afterRunBegun, pageHome]
      rw [hbegun, hchannels g]
      exact if_pos henabled
    obtain ⟨-, -, hfree⟩ := ignitionOff_states (channelOf s g)
    rw [enterAfterRun_eq, (toldKeeps_endOverride _).channels g (by rw [hchannel]; exact hfree), hchannel]
  · cases b
    case control | monitor | telltale | chime | readout | service | gauges => exact absurd (by decide) hb
    all_goals simp [agree, enterAfterRun, pageHome]

/-- The first part of O27. -/
theorem ignitionOff_spec {s : State} {d : Nat} (hdue : cameDue .ignitionDebounceExpiry d s)
    (hraw : s.control.ignitionRaw = false) (hon : s.control.ignition = true)
    (hpart : s.control.part = .start ∨ s.control.part = .run) :
    ∃ t, exec .ignitionDebounceExpiry s = .next t
      ∧ t.control = { s.control with
          ignition := false, ignitionDue := none, debounced := true, part := .afterRun,
          afterRunDue := some (s.now + 30000) }
      ∧ t.telltale.provingDue = none ∧ (∀ l ∈ t.telltale.lamps, l.state = .afterRun)
      ∧ t.chime.entries = [] ∧ sounderOn t.chime = false
      ∧ t.service.override.inForce = false
      ∧ t.readout.page = homePage s.tables
      ∧ (∀ g : Fin 6, (gaugeRecord s g).enabled = true →
          ((channelOf s g).state.stallSensed = true → (channelOf s g).state ≠ .parking →
            (channelOf t g).state
              = if (channelOf s g).position = some 0 then .parked else .parking)
          ∧ ((channelOf s g).state.stallSensed = false →
            (channelOf t g).state = (channelOf s g).state))
      ∧ Kept ([.control] ++ told) s t := by
  obtain ⟨v, hv⟩ : ∃ v, v = (s.setReports []).setControl (levelTaken s.control) := ⟨_, rfl⟩
  have hwork : debounceIgnition (s.setReports []) = enterAfterRun v := by
    rw [hv]
    exact debounceIgnition_off (s := s.setReports []) hraw hon hpart
  have hkeptV : Kept ([.control] ++ told) s v := by
    rw [hv]
    exact Kept.trans (kept_setReports _ s []) (Kept.mono (kept_setControl _ _) (by decide))
  obtain ⟨hreports, hforce, hchannels, hkept⟩ := enterAfterRun_parts v
  have hcontrol : (enterAfterRun v).control = { s.control with
      ignition := false, ignitionDue := none, debounced := true, part := .afterRun,
      afterRunDue := some (s.now + 30000) } := by
    rw [hreports.control, hv]
    simp [afterRunBegun, pageHome, levelTaken, hraw, afterRunMs]
  have hawake : sleepReady (enterAfterRun v) = false := by
    simp [sleepReady, hcontrol]
  have hend := reportsUnposted_finish ((afterRunBegun_unposting v).of_reports hreports) hawake
  have hchime : (finish (enterAfterRun v)).chime
      = { entries := [], lastOrder := 0, accepting := false, phase := 0, phaseDue := none } := by
    rw [hend.chime, hreports.chime]
    simp [afterRunBegun, pageHome, clearChime]
  rw [exec_ignitionDebounce hdue, hwork]
  refine ⟨_, rfl, hend.control.trans hcontrol, ?_, ?_, by rw [hchime], by rw [hchime]; rfl, ?_, ?_,
    fun g henabled => ?_, kept_finish_told (Kept.trans hkeptV hkept) (by decide) hawake⟩
  · rw [hend.proving, hreports.proving]
    simp [afterRunBegun, pageHome, ignitionOffTelltale, enterLamps]
  · have hlamps : ∀ l ∈ (enterAfterRun v).telltale.lamps, l.state = .afterRun := by
      rw [enterAfterRun_eq, endOverride_lamps fun l hl => by simp [afterRunBegun_lamps v l hl]]
      exact afterRunBegun_lamps v
    exact forall_of_lampStates (lampStates_finish fun l hl => by simp [hlamps l hl]) (P := fun _ _ st => st = .afterRun)
      hlamps
  · exact Bool.eq_false_iff.mpr fun h => by simp [(toldKeeps_finish hawake).force h] at hforce
  · rw [hend.page, hreports.page, hv]
    simp [afterRunBegun, pageHome]
  · have hchannel := hchannels g (by rw [hv]; exact henabled)
    obtain ⟨hparks, hstays, hfree⟩ := ignitionOff_states (channelOf s g)
    have hsame : channelOf v g = channelOf s g := by rw [hv]; rfl
    rw [hsame] at hchannel
    rw [channelOf_finish hawake (by rw [hchannel]; exact hfree), hchannel]
    exact ⟨hparks, hstays⟩

/-- Settles O27. -/
theorem ignitionOffEntersAfterRun : Obligations.IgnitionOffEntersAfterRun := by
  refine fun s d hdue hawake => ⟨fun hraw hon hpart => ignitionOff_spec hdue hraw hon hpart, fun hlevel => ?_⟩
  have hwork : debounceIgnition (s.setReports []) = (s.setReports []).setControl (levelTaken s.control) :=
    debounceIgnition_level (s := s.setReports []) hlevel
  have hready : sleepReady ((s.setReports []).setControl (levelTaken s.control)) = false :=
    (sleepReady_congr (s := s) (by simp [levelTaken]) (by simp) (by simp) (by simp)).trans hawake
  rw [exec_ignitionDebounce hdue, hwork]
  obtain ⟨hkept, -⟩ := kept_finish_idle (Kept.trans (kept_setReports _ s []) (kept_setControl _ _)) (by simp) hready
  exact ⟨_, rfl, (finish_awake_frame hready).1.trans (by simp [levelTaken]), hkept⟩

end Sys2Proof.Proofs

/-! Proofs. O43: the end of an override, by request and by timer. -/

namespace Sys2Proof.Proofs

open Sys2Proof Sys2Proof.Machine Sys2Proof.Claims

/-! ## The override record under reports -/

/-- With no override in force a report changes the red flag of the record alone (R57, R169). -/
theorem override_takeSource {s : State} (h : s.service.override.inForce = false) (src : Source) (on : Bool) :
    ∃ red, (takeSource src on s).service.override = { s.service.override with red := red } := by
  have hend : ∀ t : State, t.service.override.inForce = false → endOverride t = t := fun t ht => by
    simp [endOverride, ht]
  simp only [takeSource, applyConditions]
  generalize List.map (Lamp.follow _) _ = lamps
  generalize lampChanges _ _ = changes
  generalize hu : updateFlags _ = u
  obtain ⟨red, hred⟩ : ∃ red, u.service.override = { s.service.override with red := red } := by
    rw [← hu]
    simp only [updateFlags]
    split
    · exact ⟨s.service.override.red, rfl⟩
    · exact ⟨_, rfl⟩
  refine ⟨red, ?_⟩
  have hreds : changes.foldl (fun t c => reportRed c t) u = u := by
    refine foldl_inv (fun t => t = u) _ (fun t c ht => ?_) _ _ rfl
    subst ht
    unfold reportRed
    split
    · exact hend t (by rw [hred]; exact h)
    · rfl
  rw [hreds]
  exact foldl_inv (fun t => t.service.override = { s.service.override with red := red }) _
    (fun t c ht => by simpa using ht) _ _ hred

theorem override_finish {s : State} (h : s.service.override.inForce = false) (hawake : sleepReady s = false) :
    ∃ red, (finish s).service.override = { s.service.override with red := red } := by
  have hsettle : ∃ red, (settle (settleFuel s) s).service.override = { s.service.override with red := red } := by
    refine settle_inv (fun t => ∃ red, t.service.override = { s.service.override with red := red })
      (fun _ _ ht => ht) (fun src on t ht => ?_) _ _ ⟨_, rfl⟩
    obtain ⟨red, ht⟩ := ht
    obtain ⟨red', ht'⟩ := override_takeSource (by rw [ht]; exact h) src on
    exact ⟨red', by rw [ht', ht]⟩
  rw [finish_awake hawake]
  simpa only [refreshScreen_frame] using hsettle

/-! ## The end of an override -/

theorem endLampOverride_items (now : Nat) (l : Lamp) : (endLampOverride now l).output = l.output
    ∧ (endLampOverride now l).state = if l.state = .overridden then .showing else l.state := by
  unfold endLampOverride
  split
  · simp [Lamp.enter, Lamp.drive]
  · simp

/-- What the end of an override leaves, before its reports (R31, R42, R64, R169). -/
theorem endOverride_parts {s : State} (h : s.service.override.inForce = true) :
    (endOverride s).service.override = { s.service.override with inForce := false, due := none }
      ∧ (endOverride s).telltale.lamps = s.telltale.lamps.map (endLampOverride s.now)
      ∧ ∀ g, channelIn (endOverride s) g (if (channelOf s g).state = .overridden then
          calledFor s g false (channelOf s g) else ((channelOf s g).state, (channelOf s g).rest)) := by
  obtain ⟨v, hv⟩ : ∃ v, v = endTelltaleOverride
    (putOverride { s.service.override with inForce := false, due := none } s) := ⟨_, rfl⟩
  have hend : endOverride s = endGaugesOverride v := by rw [hv, endOverride, if_pos h]
  have hchannel : ∀ g, channelOf v g = channelOf s g := fun g => by rw [hv]; rfl
  have hcalled : ∀ g, calledFor v g v.service.override.inForce (channelOf s g)
      = calledFor s g false (channelOf s g) := fun g => by rw [hv]; rfl
  obtain ⟨-, hchannels⟩ := endGaugesOverride_called v
  rw [hend]
  refine ⟨by simp [hv, putOverride], by simp [hv, endTelltaleOverride, putOverride], fun g => ?_⟩
  have hg := hchannels g
  rw [hchannel g] at hg
  rw [channelIn, hg]
  split
  · rw [← hcalled g, ← calledChannel_calledFor]
    exact ⟨rfl, rfl⟩
  · exact ⟨rfl, rfl⟩

/-- An ended override is over once the reports of the command have been delivered. -/
theorem overrideOver_finish {s x : State} (h : s.service.override.inForce = true)
    (hlamps : x.telltale.lamps = (endOverride s).telltale.lamps) (hgauges : x.gauges = (endOverride s).gauges)
    (hoverride : x.service.override = (endOverride s).service.override) (hawake : sleepReady x = false) :
    overrideOver s (finish x) := by
  obtain ⟨hrecord, hmap, hchannels⟩ := endOverride_parts h
  rw [hrecord] at hoverride
  have hforce : x.service.override.inForce = false := by rw [hoverride]
  obtain ⟨red, hfinal⟩ := override_finish hforce hawake
  rw [hoverride] at hfinal
  have hfree : lampsFree x := by
    intro l hl
    rw [hlamps, hmap] at hl
    obtain ⟨m, -, rfl⟩ := List.mem_map.mp hl
    rw [(endLampOverride_items s.now m).2]
    split
    · simp
    · assumption
  have hstates : (finish x).telltale.lamps.map (fun l => (l.output, l.state))
      = x.telltale.lamps.map (fun l => (l.output, l.state)) := by
    have hall := congrArg (List.map fun y : Fin 32 × Bool × LampState => (y.1, y.2.2)) (lampStates_finish hfree)
    simpa [lampStates, Function.comp_def] using hall
  refine ⟨by rw [hfinal], by rw [hfinal], by rw [hfinal], ?_, fun g => ?_⟩
  · rw [hstates, hlamps, hmap, List.map_map]
    exact List.map_congr_left fun l _ => by simp [endLampOverride_items]
  · have hg := hchannels g
    have hsame : channelOf (finish x) g = channelOf (endOverride s) g := by
      rw [channelOf, finish_gauges hforce, hgauges, ← channelOf]
    rw [channelIn, hsame]
    exact hg

theorem kept_endOverride (s : State) : Kept told s (endOverride s) := by
  intro b hb
  cases b
  case monitor | telltale | chime | readout | service | gauges => exact absurd (by decide) hb
  all_goals simp [agree]

/-- The second part of O43: the override timer. -/
theorem overrideExpiry_spec {s : State} {d : Nat} (hdue : cameDue .overrideExpiry d s) (hawake : AwakeLaw s) :
    ∃ t, exec .overrideExpiry s = .next t
      ∧ (s.service.override.inForce = false → Kept [] s t)
      ∧ (s.service.override.inForce = true → overrideOver s t ∧ Kept told s t) := by
  obtain ⟨htimer, hnow⟩ := hdue
  have hawake' : sleepReady (endOverride (s.setReports [])) = false :=
    (sleepReady_congr (by simp) (by simp) (by simp) (by simp)).trans hawake
  refine ⟨_, exec_of_due (f := fun _ => endOverride) (by simp) rfl (Option.some.inj htimer) hnow, fun hforce => ?_,
    fun hforce => ⟨overrideOver_finish (s := s.setReports []) hforce rfl rfl rfl hawake',
      kept_finish_told (Kept.trans (kept_setReports _ s []) (kept_endOverride _)) (fun _ => id) hawake'⟩⟩
  have hnone : endOverride (s.setReports []) = s.setReports [] := if_neg (by simp [hforce])
  rw [hnone]
  exact (finish_untouched hawake).1

/-! ## The answer to a request that has acted -/

/-- The answer that a reply is, placed once its request has been executed: line and roster are as the frame left
them. -/
theorem answered_executed {sender : BitVec 6} {code : Nat} {r : Reply} {s x : State}
    (hline : x.line = (requestHeard sender.toNat s).line) (hroster : x.roster = (requestHeard sender.toNat s).roster)
    (htables : x.tables = s.tables) (hempty : x.service.pendingReply = false) :
    answered sender code r x.monitor[(9 : Fin 10)].raw s (placeReply sender.toNat code r x)
      ∧ (placeReply sender.toNat code r x).service.override = x.service.override
      ∧ ((placeReply sender.toNat code r x).line.peersQuiet = true → s.line.peersQuiet = true)
      ∧ Kept [.line, .service, .monitor] x (placeReply sender.toNat code r x)
      ∧ (replyTaken s → (placeReply sender.toNat code r x).reports = x.reports
          ∧ Kept [.line, .service] x (placeReply sender.toNat code r x)) := by
  obtain ⟨hstate, hquiet, hqueue, horder⟩ := requestHeard_lineState sender.toNat s
  have hheard := requestHeard_line sender.toNat s
  have hroster' := requestHeard_roster sender.toNat s
  rw [← hline] at hstate hquiet hqueue horder hheard
  have hpeers : x.line.peersQuiet = true → s.line.peersQuiet = true := by
    rw [hheard]
    exact peersQuiet_lineAfterFrame s
  by_cases hlisten : s.line.state = .listenOnly
  · have hack : acknowledges s = false := by simp [acknowledges, hlisten]
    rw [placeReply_listenOnly (hstate.trans hlisten) hempty]
    exact ⟨⟨hroster.trans hroster', fun _ => ⟨by rw [hheard, hack], hempty⟩, fun h => absurd hlisten h,
      fun h => absurd hlisten h⟩, rfl, hpeers, fun b _ => agree_refl b x, fun _ => ⟨rfl, fun b _ => agree_refl b x⟩⟩
  have hack : acknowledges s = true := by
    unfold acknowledges
    split <;> simp_all
  rw [hack] at hheard
  by_cases hroom : s.line.queue.length < 8
  · rw [placeReply_room (by rwa [hstate]) (by rwa [hqueue]) hquiet]
    have hkept : ∀ changed, .service ∈ changed → .line ∈ changed → Kept changed x _ :=
      fun _ => kept_setService_setLine x { x.service with pendingReply := true } { x.line with
        lastOrder := x.line.lastOrder + 1
        queue := x.line.queue ++ [waitingEntry x .serviceReply (replyPayload sender.toNat code r.code r.data)
          (x.line.lastOrder + 1)] }
    refine ⟨⟨hroster.trans hroster', fun h => absurd h hlisten, fun _ _ => ⟨rfl, ?_⟩, fun _ h => absurd h (by omega)⟩,
      rfl, hpeers, hkept _ (by decide) (by decide), fun _ => ⟨rfl, hkept _ (by decide) (by decide)⟩⟩
    simp only [State.setLine_line, hqueue, horder, waitingEntry, htables]
    rw [hheard]
  · rw [placeReply_full (by rwa [hstate]) (by rw [hqueue]; omega) hempty]
    refine ⟨⟨by simp [hroster, hroster'], fun h => absurd h hlisten, fun _ h => absurd h hroom,
      fun _ _ => ⟨by simpa using hempty, by simpa using hheard, ?_⟩⟩, by simp, by simpa using hpeers,
      kept_count 9 x (by decide), fun htaken => absurd htaken (by simp [replyTaken, hlisten, hroom])⟩
    rw [count_monitor_raw]

/-- An answer stays one to the end of the command. -/
theorem answered_finish {sender : BitVec 6} {code h9 : Nat} {r : Reply} {s y : State}
    (h : answered sender code r h9 s y) (hawake : sleepReady y = false) :
    answered sender code r h9 s (finish y) := by
  obtain ⟨hroster, hlisten, hroom, hfull⟩ := h
  obtain ⟨-, hline, hroster'⟩ := finish_awake_frame hawake
  have htold := toldKeeps_finish hawake
  refine ⟨hroster'.trans hroster, fun k => ?_, fun k l => ?_, fun k l => ?_⟩
  · exact ⟨hline.trans (hlisten k).1, htold.mailbox.trans (hlisten k).2⟩
  · exact ⟨htold.mailbox.trans (hroom k l).1, hline.trans (hroom k l).2⟩
  · obtain ⟨hmailbox, hline', hdrop⟩ := hfull k l
    exact ⟨htold.mailbox.trans hmailbox, hline.trans hline', htold.drops _ (by simp only [oneMore]; omega) hdrop⟩

/-! ## END-OVERRIDE -/

/-- The command END-OVERRIDE, once its sender has been heard. -/
theorem exec_endOverride {sender : BitVec 6} {args : List Byte} {s : State} (htaken : requestTaken sender s)
    (htables : TablesLaw s) : exec (.endOverride sender args) s = .next (finish (placeReply sender.toNat 8
      (takeEndOverride (requestHeard sender.toNat s)).1 (takeEndOverride (requestHeard sender.toNat s)).2)) := by
  obtain ⟨hhears, hintake, hempty⟩ := htaken
  rw [exec_request (code := 8#8) (args := args) rfl hhears hintake htables]
  simp [takeRequest, hempty, requestPayload, executeRequest]

/-- A request that is refused: it is answered, and changes nothing else. -/
theorem refused_answered {sender : BitVec 6} {code : Nat} {r : Reply} {s : State} (htaken : requestTaken sender s)
    (hpresent : presentAlready sender.toNat s) (hawake : AwakeLaw s) :
    ∃ t, finish (placeReply sender.toNat code r (requestHeard sender.toNat s)) = t
      ∧ Kept ([.line, .roster] ++ told) s t ∧ answered sender code r s.monitor[(9 : Fin 10)].raw s t
      ∧ (replyTaken s → Kept [.line, .roster, .service] s t ∧ t.service.override = s.service.override) := by
  obtain ⟨hanswered, hoverride, hpeers, hkept, hidle⟩ := answered_executed (sender := sender) (code := code) (r := r)
    (s := s) (x := requestHeard sender.toNat s) rfl rfl (by simp) (by simpa using htaken.2.2)
  rw [show (requestHeard sender.toNat s).monitor = s.monitor by simp] at hanswered
  have hheard := kept_requestHeard sender.toNat s
  have hall : Kept ([.line, .roster] ++ told) s (placeReply sender.toNat code r (requestHeard sender.toNat s)) :=
    Kept.trans (Kept.mono hheard (by decide)) (Kept.mono hkept (by decide))
  have hawake' : sleepReady (placeReply sender.toNat code r (requestHeard sender.toNat s)) = false :=
    awake_of_parts hawake (hall .control (by decide)) (hall .store (by decide)) (by simp [placeReply]) hpeers
  refine ⟨_, rfl, kept_finish_told hall (by decide) hawake', answered_finish hanswered hawake', fun hplace => ?_⟩
  obtain ⟨hreports, hkept'⟩ := hidle hplace
  have hnone := hreports.trans (requestHeard_reports _ _ hpresent)
  refine ⟨(kept_finish_idle (Kept.trans (Kept.mono hheard (by decide)) (Kept.mono hkept' (by decide))) hnone
    hawake').1, ?_⟩
  rw [finish_idle hnone hawake']
  simpa using hoverride

/-- The state called for depends on State Controller, tables and slots alone. -/
theorem calledFor_inputs {s u : State} (hcontrol : u.control = s.control) (htables : u.tables = s.tables)
    (hslots : u.slots = s.slots) (g : Fin 6) (inForce : Bool) (c : Channel) :
    calledFor u g inForce c = calledFor s g inForce c := by
  unfold calledFor sourceSlot gaugeRecord
  rw [hcontrol, htables, hslots]

/-- An override that is over in the state in which the request is executed is over. -/
theorem overrideOver_of_heard {sender : Nat} {s t : State} (h : overrideOver (requestHeard sender s) t) :
    overrideOver s t := by
  obtain ⟨hforce, hdue, hpattern, hlamps, hchannels⟩ := h
  refine ⟨hforce, hdue, by simpa using hpattern, by simpa using hlamps, fun g => ?_⟩
  have hchannel : channelOf (requestHeard sender s) g = channelOf s g := by simp [channelOf]
  have hg := hchannels g
  rwa [hchannel, calledFor_inputs (s := s) (by simp) (by simp) (by simp)] at hg

/-- The first part of O43: END-OVERRIDE. -/
theorem endOverride_spec {sender : BitVec 6} {args : List Byte} {s : State} (htaken : requestTaken sender s)
    (hpresent : presentAlready sender.toNat s) (htables : TablesLaw s) (hawake : AwakeLaw s) :
    ∃ t, exec (.endOverride sender args) s = .next t ∧ Kept ([.line, .roster] ++ told) s t
      ∧ (s.service.override.inForce = false →
          answered sender 8 .notNow s.monitor[(9 : Fin 10)].raw s t
          ∧ (replyTaken s → Kept [.line, .roster, .service] s t ∧ t.service.override = s.service.override))
      ∧ (s.service.override.inForce = true →
          answered sender 8 (.done []) s.monitor[(9 : Fin 10)].raw s t ∧ overrideOver s t) := by
  rw [exec_endOverride htaken htables]
  by_cases hforce : s.service.override.inForce = true
  · have htake : takeEndOverride (requestHeard sender.toNat s) = (.done [],
      endOverride (requestHeard sender.toNat s)) :=
      if_pos (by simpa using hforce)
    rw [htake]
    obtain ⟨hanswered, hoverride, hpeers, hkept, -⟩ := answered_executed (sender := sender) (code := 8) (r := .done [])
      (s := s) (x := endOverride (requestHeard sender.toNat s)) (by simp) (by simp) (by simp)
      (by rw [(toldKeeps_endOverride _).mailbox]; simpa using htaken.2.2)
    rw [show (endOverride (requestHeard sender.toNat s)).monitor = s.monitor by simp] at hanswered
    have hall : Kept ([.line, .roster] ++ told) s
        (placeReply sender.toNat 8 (.done []) (endOverride (requestHeard sender.toNat s))) :=
      Kept.trans (Kept.mono (kept_requestHeard sender.toNat s) (by decide))
        (Kept.trans (Kept.mono (kept_endOverride _) (by decide)) (Kept.mono hkept (by decide)))
    have hawake' : sleepReady (placeReply sender.toNat 8 (.done []) (endOverride (requestHeard sender.toNat s)))
        = false :=
      awake_of_parts hawake (hall .control (by decide)) (hall .store (by decide)) (by simp [placeReply]) hpeers
    refine ⟨_, rfl, kept_finish_told hall (by decide) hawake', fun h => by simp [h] at hforce,
      fun _ => ⟨answered_finish hanswered hawake', overrideOver_of_heard (overrideOver_finish
        (s := requestHeard sender.toNat s) (by simpa using hforce) ?_ (hkept .gauges (by decide)) hoverride hawake')⟩⟩
    rw [hkept .telltale (by decide)]
  · have htake : takeEndOverride (requestHeard sender.toNat s) = (.notNow, requestHeard sender.toNat s) :=
      if_neg (by simpa using hforce)
    rw [htake]
    obtain ⟨t, ht, hkept, hanswered, hplaced⟩ := refused_answered (code := 8) (r := .notNow) htaken hpresent hawake
    exact ⟨t, by rw [ht], hkept, fun _ => ⟨hanswered, hplaced⟩, fun h => absurd h hforce⟩

/-- Settles O43. -/
theorem overrideEnds : Obligations.OverrideEnds :=
  ⟨fun _ _ _ htaken hpresent htables hawake => endOverride_spec htaken hpresent htables hawake,
    fun _ _ hdue hawake => overrideExpiry_spec hdue hawake⟩

end Sys2Proof.Proofs

/-! Proofs. Reports of gauge faults that have ended: no demand enters ACTIVE (for O42). -/

namespace Sys2Proof.Proofs

open Sys2Proof Sys2Proof.Machine Sys2Proof.Claims

/-! ## Demands that no report raises -/

/-- The reports that wait are of gauge faults that have ended. -/
def onlyEnded (s : State) : Prop := ∀ r ∈ s.reports, r.on = false ∧ ∃ g, r.source = .gaugeFault g

/-- A report of an ended gauge fault makes no condition true. -/
theorem sourceCondition_ended (g : Fin 6) (any : Bool) (d : Demand) :
    sourceCondition (.gaugeFault g) false any d = d.condition
      ∨ sourceCondition (.gaugeFault g) false any d = false := by
  cases hsource : d.record.source with
  | gaugeFault g' =>
    by_cases hg : g' = g
    · simp [sourceCondition, hsource, hg]
    · simp [sourceCondition, hsource, hg]
  | health h => cases h <;> simp [sourceCondition, hsource]
  | slotTest | band | station | driverTime => simp [sourceCondition, hsource]

/-- A demand whose condition does not become true does not enter ACTIVE (R53). -/
theorem update_eased {evaluating proving c : Bool} {d : Demand} (hc : c = d.condition ∨ c = false)
    (h : (d.update evaluating proving c).state = .active) : d.state = .active := by
  rcases hc with rfl | rfl
  · rwa [Demand.update_same] at h
  · unfold Demand.update at h
    split at h
    · exact h
    · rw [if_neg (by simp)] at h
      by_contra hd
      simp only [hd, if_false] at h

theorem demandChanges_eased {f : Demand → Demand} (l : Lamp) {ds : List Demand}
    (h : ∀ d ∈ ds, (f d).state = .active → d.state = .active) (i : Nat) :
    ∀ c ∈ demandChanges l i ds (ds.map f), c.entered = false := by
  induction ds generalizing i with
  | nil => simp [demandChanges]
  | cons d ds ih =>
    have ih' := ih (fun x hx => h x (by simp [hx])) (i + 1)
    have hd := h d (by simp)
    rw [List.map_cons, demandChanges]
    split
    · next hentered => exact absurd (hd hentered.2) hentered.1
    · split
      · simpa using ih'
      · exact ih'

/-- The lamps under conditions of which none becomes true. -/
theorem lampChanges_eased {evaluating proving : Bool} {f : Demand → Bool} (hf : ∀ d, f d = d.condition ∨ f d = false)
    (ls : List Lamp) : ∀ c ∈ lampChanges ls (ls.map (Lamp.withConditions evaluating proving f)), c.entered = false := by
  induction ls with
  | nil => simp [lampChanges]
  | cons l ls ih =>
    intro c hc
    rw [List.map_cons, lampChanges, List.mem_append] at hc
    rcases hc with hc | hc
    · exact demandChanges_eased l (fun d _ => update_eased (hf d)) 0 c hc
    · exact ih c hc

theorem classActive_eased {evaluating proving : Bool} {f : Demand → Bool} (hf : ∀ d, f d = d.condition ∨ f d = false)
    (now : Nat) {ls : List Lamp} (h : classActive .red ls = false) :
    classActive .red (ls.map (fun l => (l.withConditions evaluating proving f).follow now)) = false := by
  rw [classActive, List.any_eq_false] at h ⊢
  intro m hm
  obtain ⟨l, hl, rfl⟩ := List.mem_map.mp hm
  intro hred
  refine h l hl ?_
  simp only [follow_cls_demands, Lamp.withConditions, Bool.and_eq_true, List.any_eq_true, List.mem_map,
      beq_iff_eq] at hred ⊢
  obtain ⟨hcls, d', ⟨d, hd, rfl⟩, hactive⟩ := hred
  exact ⟨hcls, d, hd, update_eased (hf d) hactive⟩

/-! ## Such a report -/

/-- A lamp as an override sees it: its state, and the pattern that it shows while OVERRIDDEN. -/
def overrideView (l : Lamp) : Fin 32 × LampState × Option Pattern :=
  (l.output, l.state, if l.state = .overridden then l.shown else none)

theorem overrideView_follow (now : Nat) (l : Lamp) : overrideView (l.follow now) = overrideView l := by
  unfold Lamp.follow
  split
  · rfl
  · next h =>
    have hfree : l.state ≠ .overridden := fun hstate => h (by simp [Lamp.target, hstate])
    simp [overrideView, Lamp.drive, hfree]

/-- What reports of ended gauge faults leave: the gauges, the override as the lamps show it, the test chime, the records
of override and red demands where no RED demand is ACTIVE. -/
structure FaultsEased (s t : State) : Prop where
  ended : onlyEnded t
  gauges : t.gauges = s.gauges
  lamps : t.telltale.lamps.map overrideView = s.telltale.lamps.map overrideView
  test : s.chime.entries.any (fun e => e.id == .test) = true → t.chime.entries.any (fun e => e.id == .test) = true
  calm : s.telltale.red = false → classActive .red s.telltale.lamps = false →
    t.service = s.service ∧ t.telltale.red = false ∧ classActive .red t.telltale.lamps = false

theorem FaultsEased.trans {s t u : State} (h : FaultsEased s t) (k : FaultsEased t u) : FaultsEased s u where
  ended := k.ended
  gauges := k.gauges.trans h.gauges
  lamps := k.lamps.trans h.lamps
  test hs := k.test (h.test hs)
  calm hred hclass := by
    obtain ⟨hservice, hred', hclass'⟩ := h.calm hred hclass
    obtain ⟨hservice', hcalm⟩ := k.calm hred' hclass'
    exact ⟨hservice'.trans hservice, hcalm⟩

/-- A selection keeps every identity of the list (R70). -/
theorem selectChime_ids (now : Nat) (c : Chime) :
    (selectChime now c).entries.map (fun e => e.id) = c.entries.map (fun e => e.id) := by
  have hput : ∀ (id : ChimeId) (st : ChimeState) (es : List ChimeEntry),
      (putChimeState id st es).map (fun e => e.id) = es.map (fun e => e.id) := by
    intro id st es
    rw [putChimeState, List.map_map]
    refine List.map_congr_left fun e _ => ?_
    simp only [Function.comp_apply]
    split <;> rfl
  unfold selectChime
  repeat' split
  · rfl
  · exact hput _ _ _
  · rfl

theorem any_id_iff (es : List ChimeEntry) (id : ChimeId) :
    es.any (fun e => e.id == id) = true ↔ id ∈ es.map (fun e => e.id) := by
  simp

/-- The end of a demand's chime leaves the test chime. -/
theorem leaveChime_test {id : ChimeId} {s : State} (hid : id ≠ .test)
    (h : s.chime.entries.any (fun e => e.id == .test) = true) :
    (leaveChime id s).chime.entries.any (fun e => e.id == .test) = true := by
  unfold leaveChime
  split
  · rw [any_id_iff] at h ⊢
    rw [State.setChime_chime, selectChime_ids]
    obtain ⟨e, he, htest⟩ := List.mem_map.mp h
    refine List.mem_map.mpr ⟨e, List.mem_filter.mpr ⟨he, ?_⟩, htest⟩
    simpa [htest] using Ne.symm hid
  · exact h

/-- A demand that leaves ACTIVE takes its reports back, and posts nothing. -/
theorem faultsEased_announce {c : DemandChange} {s : State} (hended : onlyEnded s) (hc : c.entered = false) :
    FaultsEased s (announce c s) := by
  have hsame : (announce c s).reports = s.reports ∧ (s.chime.entries.any (fun e => e.id == .test) = true →
      (announce c s).chime.entries.any (fun e => e.id == .test) = true) := by
    have hleave : ∀ id : ChimeId, id ≠ .test → (leaveChime id s).reports = s.reports
        ∧ (s.chime.entries.any (fun e => e.id == .test) = true →
          (leaveChime id s).chime.entries.any (fun e => e.id == .test) = true) :=
      fun id hid => ⟨by simp, leaveChime_test hid⟩
    have hcleared : ∀ m (t : State), (causeCleared m t).reports = t.reports ∧ (causeCleared m t).chime = t.chime := by
      intro m t
      unfold causeCleared
      split <;> simp
    obtain ⟨u, hu, hreports, htest⟩ : ∃ u, u = (if c.record.chime.isSome then leaveChime (.demand c.output c.index) s
        else s) ∧ u.reports = s.reports ∧ (s.chime.entries.any (fun e => e.id == .test) = true →
          u.chime.entries.any (fun e => e.id == .test) = true) := by
      refine ⟨_, rfl, ?_⟩
      split
      · exact hleave _ (by simp)
      · exact ⟨rfl, id⟩
    simp only [announce, hc, Bool.false_eq_true, if_false, leaveDemand, ← hu]
    repeat' split
    · exact ⟨hreports, htest⟩
    · next m _ _ =>
      obtain ⟨hcr, hcc⟩ := hcleared m u
      exact ⟨hcr.trans hreports, fun h => by rw [hcc]; exact htest h⟩
    · exact ⟨hreports, htest⟩
  obtain ⟨hreports, htest⟩ := hsame
  refine ⟨fun r hr => hended r (by rwa [hreports] at hr), by simp, by simp, htest, fun hred hclass => ?_⟩
  simpa using ⟨hred, hclass⟩

/-- Conditions of which none becomes true. -/
theorem faultsEased_applyConditions {f : Demand → Bool} {s : State} (hended : onlyEnded s)
    (hf : ∀ d, f d = d.condition ∨ f d = false) : FaultsEased s (applyConditions f s) := by
  simp only [applyConditions]
  have hentered := lampChanges_eased (evaluating := s.telltale.evaluating)
    (proving := s.telltale.provingDue.isSome) hf s.telltale.lamps
  have hcalm := fun h => classActive_eased (evaluating := s.telltale.evaluating)
    (proving := s.telltale.provingDue.isSome) hf s.now (ls := s.telltale.lamps) h
  generalize lampChanges s.telltale.lamps _ = changes at hentered ⊢
  have hany : changes.any DemandChange.redEntry = false := by
    rw [List.any_eq_false]
    intro c hc
    simp [DemandChange.redEntry, hentered c hc]
  have hreds : ∀ u : State, changes.foldl (fun t c => reportRed c t) u = u := by
    clear hany
    induction changes with
    | nil => exact fun _ => rfl
    | cons c cs ih =>
      intro u
      rw [List.foldl_cons, reportRed, if_neg (by simp [DemandChange.redEntry, hentered c (by simp)])]
      exact ih (fun c' hc' => hentered c' (by simp [hc'])) u
  rw [hany, if_neg (by simp), hreds, List.map_map]
  generalize hu : updateFlags _ = u
  have hflags : FaultsEased s u := by
    have hview : (s.telltale.lamps.map (Lamp.follow s.now ∘ Lamp.withConditions s.telltale.evaluating
        s.telltale.provingDue.isSome f)).map overrideView = s.telltale.lamps.map overrideView := by
      rw [List.map_map]
      exact List.map_congr_left fun l _ => overrideView_follow s.now _
    have hreports : u.reports = s.reports := by
      rw [← hu]
      simp only [updateFlags]
      split <;> rfl
    refine ⟨fun r hr => hended r (by rwa [hreports] at hr), by simp [← hu], ?_, by simp [← hu], fun hred hclass => ?_⟩
    all_goals rw [← hu]
    · simp only [updateFlags]
      split
      · exact hview
      · exact hview
    · have hclass' : classActive .red
          (s.telltale.lamps.map (Lamp.follow s.now ∘ Lamp.withConditions s.telltale.evaluating
            s.telltale.provingDue.isSome f)) = false := hcalm hclass
      simp only [updateFlags, State.setTelltale_telltale, hclass', hred, if_true]
      exact ⟨rfl, trivial, trivial⟩
  clear hany hreds hu
  induction changes generalizing u with
  | nil => exact hflags
  | cons c cs ih =>
    exact ih (fun c' hc' => hentered c' (by simp [hc'])) _
      (hflags.trans (faultsEased_announce hflags.ended (hentered c (by simp))))

/-- One report. -/
theorem faultsEased_takeSource {s : State} (hended : onlyEnded s) (g : Fin 6) :
    FaultsEased s (takeSource (.gaugeFault g) false s) := by
  have hheld : FaultsEased s (s.setTelltale { s.telltale with
      health := heldHealth (.gaugeFault g) false s.telltale.health }) :=
    ⟨hended, rfl, rfl, id, fun hred hclass => ⟨rfl, hred, hclass⟩⟩
  exact hheld.trans (faultsEased_applyConditions hheld.ended (sourceCondition_ended g _))

/-- All the reports at the end of a command. -/
theorem faultsEased_settle (n : Nat) {s : State} (hended : onlyEnded s) : FaultsEased s (settle n s) := by
  have hrefl : ∀ (t : State) (x : List Report), onlyEnded (t.setReports x) → FaultsEased t (t.setReports x) :=
    fun t x hx => ⟨hx, rfl, rfl, id, fun hred hclass => ⟨rfl, hred, hclass⟩⟩
  induction n generalizing s with
  | zero => exact hrefl s [] (by simp [onlyEnded])
  | succ n ih =>
    rw [settle]
    split
    · exact hrefl s s.reports hended
    · next r rs hreports =>
      obtain ⟨hoff, g, hsource⟩ := hended r (by simp [hreports])
      have hrest : onlyEnded (s.setReports rs) := fun r' hr' =>
        hended r' (by rw [hreports]; exact List.mem_cons_of_mem r hr')
      rw [hoff, hsource]
      have htake := faultsEased_takeSource hrest g
      exact ((hrefl s rs hrest).trans htake).trans (ih htake.ended)

theorem faultsEased_finish {s : State} (hended : onlyEnded s) (hawake : sleepReady s = false) :
    FaultsEased s (finish s) := by
  obtain ⟨hend, hgauges, hlamps, htest, hcalm⟩ := faultsEased_settle (settleFuel s) hended
  rw [finish_awake hawake]
  refine ⟨fun r hr => by simp at hr, by simpa using hgauges, by simpa using hlamps, ?_, ?_⟩
  · simpa using htest
  · simpa using hcalm

end Sys2Proof.Proofs

/-! Proofs. O42: TEST-OVERRIDE. -/

namespace Sys2Proof.Proofs

open Sys2Proof Sys2Proof.Machine Sys2Proof.Claims

/-! ## The arguments -/

/-- The pattern codes (Table 11-3). -/
theorem decodePattern_valid {code : Nat} (h : code ≤ 14) : ∃ pat, decodePattern code = some pat
    ∧ (code = 0 → pat = .flicker) ∧ (code = 1 → pat = .blink)
    ∧ (2 ≤ code → code ≤ 13 → pat = .flash (code - 1)) ∧ (code = 14 → pat = .steady) := by
  unfold decodePattern
  repeat' split
  · exact ⟨_, rfl, by simp_all, by omega, by omega, by omega⟩
  · exact ⟨_, rfl, by omega, by simp_all, by omega, by omega⟩
  · exact ⟨_, rfl, by omega, by omega, by simp, by omega⟩
  · exact ⟨_, rfl, by omega, by omega, by omega, by simp⟩
  · omega

theorem decodePattern_invalid {code : Nat} (h : 14 < code) : decodePattern code = none := by
  simp [decodePattern, show code ≠ 0 by omega, show code ≠ 1 by omega, show ¬ code ≤ 13 by omega,
    show code ≠ 14 by omega]

/-- The last part of O42: which arguments are valid. -/
theorem overrideArgs_spec :
    (∀ (p f b : Byte) (rest : List Byte), p.toNat ≤ 14 → b.toNat ≤ 1 →
      ∃ pat, overrideArgs (p :: f :: b :: rest) = some (pat, f.toNat, decide (b.toNat = 1))
        ∧ (p.toNat = 0 → pat = .flicker) ∧ (p.toNat = 1 → pat = .blink)
        ∧ (2 ≤ p.toNat → p.toNat ≤ 13 → pat = .flash (p.toNat - 1)) ∧ (p.toNat = 14 → pat = .steady))
    ∧ (∀ (p f b : Byte) (rest : List Byte), 14 < p.toNat ∨ 1 < b.toNat →
        overrideArgs (p :: f :: b :: rest) = none)
    ∧ ∀ args : List Byte, args.length < 3 → overrideArgs args = none := by
  refine ⟨fun p f b rest hp hb => ?_, fun p f b rest h => ?_, fun args h => ?_⟩
  · obtain ⟨pat, hpat, hcodes⟩ := decodePattern_valid hp
    refine ⟨pat, ?_, hcodes⟩
    simp [overrideArgs, hb, hpat, beq_eq_decide]
  · rcases h with h | h
    · simp [overrideArgs, decodePattern_invalid h]
    · simp [overrideArgs, Nat.not_le.mpr h]
  · match args, h with
    | [], _ => rfl
    | [_], _ => rfl
    | [_, _], _ => rfl

/-! ## The override as it begins -/

/-- The state in which the override has begun but for its chime. -/
def overrideBegun (p : Pattern) (fraction : Nat) (beep : Bool) (s : State) : State :=
  startGaugesOverride (startLampOverride p (putOverride
    { inForce := true, pattern := p, fraction := fraction, beep := beep,
      due := some (s.now + overrideMs), red := s.service.override.red } s))

theorem startOverride_eq (p : Pattern) (fraction : Nat) (beep : Bool) (s : State) :
    startOverride p fraction beep s = if beep then postChime .test .notice (overrideBegun p fraction beep s)
      else overrideBegun p fraction beep s := rfl

/-- A posting into a list with room, or of an identity that the list holds, changes the chimes alone (R69). -/
theorem postChime_admitted {id : ChimeId} {g : Grade} {s : State} (h : s.chime.entries.length < 16) :
    ∃ c, postChime id g s = s.setChime c := by
  simp only [postChime]
  split
  · exact ⟨s.chime, rfl⟩
  · split
    · exact ⟨_, rfl⟩
    · exact ⟨_, rfl⟩

/-- The test chime is never removed by its own posting: its group preempts none (R69, R71). -/
theorem postChime_test {s : State} (haccepting : s.chime.accepting = true) (h : s.chime.entries.length < 16) :
    (postChime .test .notice s).chime.entries.any (fun e => e.id == .test) = true := by
  have hkept : ∀ es : List ChimeEntry, (preemptChime .notice es).map (fun e => e.id) = es.map (fun e => e.id) := by
    intro es
    have hnone : ∀ e : ChimeEntry, ¬ e.group.rank < Grade.notice.rank := fun e => by simp [Grade.rank]
    simp [preemptChime, hnone]
  have hsettled : ∀ c : Chime, ChimeId.test ∈ c.entries.map (fun e => e.id) →
      (settleChime s.now .notice c).entries.any (fun e => e.id == .test) = true := by
    intro c hc
    rw [any_id_iff, settleChime, selectChime_ids, hkept]
    exact hc
  simp only [postChime, haccepting, Bool.true_eq_false, if_false]
  split
  · next hany =>
    refine hsettled _ ?_
    obtain ⟨e, he, hid⟩ := List.any_eq_true.mp hany
    simp only [List.map_map, List.mem_map]
    refine ⟨e, he, ?_⟩
    simp [beq_iff_eq.mp hid, newChime]
  · exact hsettled _ (by simp [newChime])

/-- The channels as the override begins (R21, R41). -/
theorem overrideBegun_channels (p : Pattern) (fraction : Nat) (beep : Bool) (s : State) (g : Fin 6) :
    channelOf (overrideBegun p fraction beep s) g
      = if (gaugeRecord s g).enabled = true ∧ s.control.fallback = false then
          withFault (gaugeRecord s g) s.gauges.grace
            ((channelOf s g).startOverride ((gaugeRecord s g).fullScale * fraction / 255))
        else channelOf s g := by
  obtain ⟨v, hv⟩ : ∃ v, v = startLampOverride p (putOverride
    { inForce := true, pattern := p, fraction := fraction, beep := beep,
      due := some (s.now + overrideMs), red := s.service.override.red } s) := ⟨_, rfl⟩
  have hchannels := (startGaugesOverride_channels v).2 g
  have hchannel : channelOf v g = channelOf s g := by simp [hv, channelOf, putOverride]
  have hrecord : gaugeRecord v g = gaugeRecord s g := gaugeRecord_congr (by simp [hv, putOverride]) g
  have hposition : overridePositionOf v g = (gaugeRecord s g).fullScale * fraction / 255 := by
    rw [overridePositionOf, hrecord, overridePosition]
    simp [hv, putOverride]
  have hgrace : v.gauges.grace = s.gauges.grace := by simp [hv, putOverride]
  have hcontrol : v.control = s.control := by simp [hv, putOverride]
  rw [hchannel, hrecord, hposition, hgrace, hcontrol] at hchannels
  rw [overrideBegun, ← hv, hchannels]

/-- A channel that follows a target is OVERRIDDEN, without a hold and without a fault (R40, R41). -/
theorem startOverride_taken {r : GaugeRecord} {grace : Grace} {position : Nat} {c : Channel}
    (h : c.state = .tracking ∨ c.state = .holding ∨ c.state = .resting) :
    (withFault r grace (c.startOverride position)).state = .overridden
      ∧ (withFault r grace (c.startOverride position)).damped = 256 * position
      ∧ (withFault r grace (c.startOverride position)).holdDue = none
      ∧ (withFault r grace (c.startOverride position)).rest = none
      ∧ (withFault r grace (c.startOverride position)).fault = false := by
  rcases h with h | h | h <;>
    simp [Channel.startOverride, h, withFault, Channel.overrideTo, Channel.goto, faultCondition]

/-- Channels by gauge and the never-grace timer are the Gauge Engine. -/
theorem gauges_ext {a b : Gauges} (hgrace : a.grace = b.grace)
    (hchannels : ∀ g : Fin 6, a.channels[g] = b.channels[g]) : a = b := by
  have hvector : a.channels = b.channels := Vector.ext fun i hi => hchannels ⟨i, hi⟩
  cases a
  cases b
  simp only at hgrace hvector
  rw [hgrace, hvector]

/-- Under the fallback no channel is overridden (R21). -/
theorem overrideBegun_fallback {p : Pattern} {fraction : Nat} {beep : Bool} {s : State}
    (h : s.control.fallback = true) : (overrideBegun p fraction beep s).gauges = s.gauges := by
  refine gauges_ext ?_ fun g => ?_
  · rw [overrideBegun, (startGaugesOverride_channels _).1.grace]
    simp [putOverride]
  · have hchannel := overrideBegun_channels p fraction beep s g
    rw [if_neg (by simp [h])] at hchannel
    exact hchannel

/-- The override takes no channel into a fault, so that only ended faults are reported (R40). -/
theorem overrideBegun_ended {p : Pattern} {fraction : Nat} {beep : Bool} {s : State} (hreports : s.reports = [])
    (hfault : ∀ g, (channelOf s g).fault = channelFault s g (channelOf s g)) :
    onlyEnded (overrideBegun p fraction beep s) := by
  obtain ⟨v, hv⟩ : ∃ v, v = startLampOverride p (putOverride
    { inForce := true, pattern := p, fraction := fraction, beep := beep,
      due := some (s.now + overrideMs), red := s.service.override.red } s) := ⟨_, rfl⟩
  have hstart : onlyEnded v ∧ ∀ g, (channelOf v g).fault = channelFault v g (channelOf v g) := by
    refine ⟨by simp [hv, onlyEnded, putOverride, hreports], fun g => ?_⟩
    have hg := hfault g
    simpa [hv, channelFault, channelOf, gaugeRecord, putOverride] using hg
  rw [overrideBegun, ← hv]
  refine (foldl_inv (fun t => onlyEnded t ∧ ∀ g, (channelOf t g).fault = channelFault t g (channelOf t g)) _
    (fun t g ht => ?_) _ _ hstart).1
  obtain ⟨hended, hlaw⟩ := ht
  unfold startGaugeOverride
  split
  · refine ⟨?_, fun g' => ?_⟩
    · have hfalse : channelFault t g ((channelOf t g).startOverride (overridePositionOf t g)) ≠ (channelOf t g).fault →
          channelFault t g ((channelOf t g).startOverride (overridePositionOf t g)) = false := by
        intro hchange
        cases hstate : (channelOf t g).state
        case tracking | holding | resting =>
          simp [channelFault, Channel.startOverride, hstate, Channel.overrideTo, Channel.goto, faultCondition]
        all_goals
          have hsame : (channelOf t g).startOverride (overridePositionOf t g) = channelOf t g := by
            simp [Channel.startOverride, hstate]
          rw [hsame, ← hlaw g] at hchange
          exact absurd rfl hchange
      simp only [putChannel]
      split
      · exact hended
      · next hchange =>
        intro r hr
        rw [hfalse hchange] at hr
        simp only [tellSource, State.setReports_reports, List.mem_append, List.mem_singleton] at hr
        rcases hr with hr | rfl
        · exact hended r hr
        · exact ⟨rfl, g, rfl⟩
    · have hinputs := sameInputs_putChannel g ((channelOf t g).startOverride (overridePositionOf t g)) t
      have hsame : ∀ c', channelFault (putChannel g ((channelOf t g).startOverride (overridePositionOf t g)) t) g' c'
          = channelFault t g' c' := fun c' => by simp only [channelFault, hinputs.record g', hinputs.grace]
      rw [hsame]
      exact forall_channelOf_putChannel (Q := fun g' c' => c'.fault = channelFault t g' c') rfl hlaw g'
  · exact ⟨hended, hlaw⟩

/-- The lamps as the override begins (R63). -/
theorem overrideBegun_lamps {p : Pattern} {fraction : Nat} {beep : Bool} {s : State} (hred : s.telltale.red = false) :
    (overrideBegun p fraction beep s).telltale
      = { s.telltale with lamps := s.telltale.lamps.map (overrideLamp s.now p) } := by
  simp [overrideBegun, startLampOverride, putOverride, hred]

theorem overrideLamp_items (now : Nat) (p : Pattern) (l : Lamp) :
    (overrideLamp now p l).output = l.output ∧ (overrideLamp now p l).cls = l.cls
      ∧ (overrideLamp now p l).demands = l.demands
      ∧ (overrideLamp now p l).state = (if l.state = .showing then .overridden else l.state)
      ∧ (l.state = .showing → (overrideLamp now p l).shown = some p) := by
  unfold overrideLamp
  split
  · simp [Lamp.drive]
  · next h => simp [h]

end Sys2Proof.Proofs

/-! Proofs. O42 assembled. -/

namespace Sys2Proof.Proofs

open Sys2Proof Sys2Proof.Machine Sys2Proof.Claims

/-! ## TEST-OVERRIDE once its sender has been heard -/

/-- The command TEST-OVERRIDE, once its sender has been heard. -/
theorem exec_testOverride {sender : BitVec 6} {args : List Byte} {s : State} (htaken : requestTaken sender s)
    (htables : TablesLaw s) : exec (.testOverride sender args) s = .next (finish (placeReply sender.toNat 7
      (takeTestOverride args (requestHeard sender.toNat s)).1 (takeTestOverride args (requestHeard sender.toNat
          s)).2)) := by
  obtain ⟨hhears, hintake, hempty⟩ := htaken
  rw [exec_request (code := 7#8) (args := args) rfl hhears hintake htables]
  simp [takeRequest, hempty, requestPayload, executeRequest]

theorem overrideRefused_iff (s : State) : overrideRefused s = true ↔
    s.control.part ≠ .run ∨ s.service.override.red = true ∨ s.service.override.inForce = true := by
  simp [overrideRefused, or_assoc]

/-- The three outcomes of TEST-OVERRIDE (R169). -/
theorem takeTestOverride_heard (args : List Byte) (sender : Nat) (s : State) :
    (overrideArgs args = none →
      takeTestOverride args (requestHeard sender s) = (.badArgument, requestHeard sender s))
    ∧ (∀ p fraction beep, overrideArgs args = some (p, fraction, beep) →
      (s.control.part ≠ .run ∨ s.service.override.red = true ∨ s.service.override.inForce = true →
        takeTestOverride args (requestHeard sender s) = (.notNow, requestHeard sender s))
      ∧ (s.control.part = .run → s.service.override.red = false → s.service.override.inForce = false →
        takeTestOverride args (requestHeard sender s)
          = (.done [], startOverride p fraction beep (requestHeard sender s)))) := by
  have hrefused : overrideRefused (requestHeard sender s) = overrideRefused s := by simp [overrideRefused]
  refine ⟨fun hargs => by simp [takeTestOverride, hargs], fun p fraction beep hargs => ⟨fun h => ?_,
      fun hrun hred hforce => ?_⟩⟩
  · simp [takeTestOverride, hargs, hrefused, (overrideRefused_iff s).mpr h]
  · have hgranted : overrideRefused s = false := by simp [overrideRefused, hrun, hred, hforce]
    simp [takeTestOverride, hargs, hrefused, hgranted]

/-! ## The grant -/

section
variable {sender : BitVec 6} {p : Pattern} {fraction : Nat} {beep : Bool} {s : State}

/-- What a grant has changed before its reply: the override has begun, and with a beep the test chime is posted. -/
theorem granted_parts (hchimes : s.chime.entries.length < 16) : ∃ c,
    startOverride p fraction beep (requestHeard sender.toNat s)
      = (overrideBegun p fraction beep (requestHeard sender.toNat s)).setChime c
    ∧ (beep = true → s.chime.accepting = true → c.entries.any (fun e => e.id == .test) = true) := by
  obtain ⟨u, hu⟩ : ∃ u, u = overrideBegun p fraction beep (requestHeard sender.toNat s) := ⟨_, rfl⟩
  have hchime : u.chime = s.chime := by simp [hu, overrideBegun, putOverride]
  rw [startOverride_eq, ← hu]
  cases beep with
  | false => exact ⟨u.chime, rfl, fun h => by cases h⟩
  | true =>
    obtain ⟨c, hc⟩ := postChime_admitted (id := .test) (g := .notice) (s := u) (by rwa [hchime])
    refine ⟨c, hc, fun _ haccepting => ?_⟩
    have htest := postChime_test (s := u) (by rwa [hchime]) (by rwa [hchime])
    rwa [hc] at htest

theorem overrideBegun_frame (s : State) : Kept told s (overrideBegun p fraction beep s)
    ∧ (overrideBegun p fraction beep s).monitor = s.monitor
    ∧ (overrideBegun p fraction beep s).service = { s.service with override :=
      { inForce := true, pattern := p, fraction := fraction, beep := beep, due := some (s.now + 60000),
        red := s.service.override.red } } := by
  refine ⟨fun b hb => ?_, by simp [overrideBegun, putOverride], by simp [overrideBegun, putOverride, overrideMs]⟩
  cases b
  case monitor | telltale | chime | readout | service | gauges => exact absurd (by decide) hb
  all_goals simp [agree, overrideBegun, putOverride]

theorem kept_startOverride (s : State) : Kept told s (startOverride p fraction beep s) := by
  intro b hb
  cases b
  case monitor | telltale | chime | readout | service | gauges => exact absurd (by decide) hb
  all_goals simp [agree]

theorem startOverride_mailbox (s : State) :
    (startOverride p fraction beep s).service.pendingReply = s.service.pendingReply := by
  have hbegun := (overrideBegun_frame (p := p) (fraction := fraction) (beep := beep) s).2.2
  rw [startOverride_eq]
  split
  · simp [hbegun]
  · simp [hbegun]

/-- What the lamps of the override show is what its lamps were given (R63). -/
theorem overridden_lamps {t : State} (h : t.telltale.lamps.map overrideView
      = (s.telltale.lamps.map (overrideLamp s.now p)).map overrideView) :
    t.telltale.lamps.map (fun l => (l.output, l.state))
        = s.telltale.lamps.map (fun l => (l.output, if l.state = .showing then .overridden else l.state))
      ∧ ∀ l ∈ s.telltale.lamps, l.state = .showing → ∃ m ∈ t.telltale.lamps,
          m.output = l.output ∧ m.state = .overridden ∧ m.shown = some p := by
  refine ⟨?_, fun l hl hshowing => ?_⟩
  · have hstates := congrArg (List.map fun x : Fin 32 × LampState × Option Pattern => (x.1, x.2.1)) h
    simpa [overrideView, Function.comp_def, overrideLamp_items] using hstates
  · obtain ⟨houtput, -, -, hstate, hshown⟩ := overrideLamp_items s.now p l
    rw [if_pos hshowing] at hstate
    have hmem : overrideView (overrideLamp s.now p l) ∈ t.telltale.lamps.map overrideView := by
      rw [h]
      exact List.mem_map_of_mem (List.mem_map_of_mem hl)
    obtain ⟨m, hm, hview⟩ := List.mem_map.mp hmem
    simp only [overrideView, Prod.mk.injEq, hstate, if_true] at hview
    obtain ⟨houtput', hstate', hshown'⟩ := hview
    rw [if_pos hstate'] at hshown'
    exact ⟨m, hm, houtput'.trans houtput, hstate', hshown'.trans (hshown hshowing)⟩

theorem classActive_overrideLamp (now : Nat) (ls : List Lamp) :
    classActive .red (ls.map (overrideLamp now p)) = classActive .red ls := by
  simp [classActive, List.any_map, Function.comp_def, overrideLamp_items]

theorem channelOf_of_gauges {t u : State} (h : t.gauges = u.gauges) (g : Fin 6) : channelOf t g = channelOf u g := by
  rw [channelOf, h, ← channelOf]

/-- A grant, with its reply placed: `x` has the override begun, `y` the reply too. -/
theorem granted_placed {args : List Byte} (htaken : requestTaken sender s) (htables : TablesLaw s)
    (hargs : overrideArgs args = some (p, fraction, beep)) (hrun : s.control.part = .run)
    (hred : s.service.override.red = false) (hforce : s.service.override.inForce = false) :
    ∃ x y, x = startOverride p fraction beep (requestHeard sender.toNat s)
      ∧ exec (.testOverride sender args) s = .next (finish y) ∧ Kept ([.line, .roster] ++ told) s y
      ∧ sleepReady y = false ∧ answered sender 7 (.done []) x.monitor[(9 : Fin 10)].raw s y
      ∧ y.service.override = x.service.override
      ∧ (replyTaken s → y.reports = x.reports ∧ Kept [.line, .service] x y) := by
  obtain ⟨x, hx⟩ : ∃ x, x = startOverride p fraction beep (requestHeard sender.toNat s) := ⟨_, rfl⟩
  have hheard := kept_requestHeard sender.toNat s
  have hkeptX : Kept told (requestHeard sender.toNat s) x := hx ▸ kept_startOverride _
  have hmailbox : x.service.pendingReply = false := by
    rw [hx, startOverride_mailbox]
    simpa using htaken.2.2
  obtain ⟨hanswered, hoverride, -, hkept, hidle⟩ := answered_executed (sender := sender) (code := 7)
    (r := .done []) (s := s) (x := x) (hkeptX .line (by decide)) (hkeptX .roster (by decide))
    ((hkeptX .tables (by decide)).trans (hheard .tables (by decide))) hmailbox
  have htake := ((takeTestOverride_heard args sender.toNat s).2 p fraction beep hargs).2 hrun hred hforce
  rw [← hx] at htake
  have hexec := exec_testOverride (args := args) htaken htables
  rw [htake] at hexec
  obtain ⟨y, hy⟩ : ∃ y, y = placeReply sender.toNat 7 (.done []) x := ⟨_, rfl⟩
  rw [← hy] at hexec hanswered hoverride hkept hidle
  have hall : Kept ([.line, .roster] ++ told) s y :=
    Kept.trans (Kept.mono hheard (by decide)) (Kept.trans (Kept.mono hkeptX (by decide)) (Kept.mono hkept (by decide)))
  have hcontrol : y.control = s.control := hall .control (by decide)
  exact ⟨x, y, hx, hexec, hall, by simp [sleepReady, hcontrol, hrun], hanswered, hoverride, hidle⟩

/-- What a grant leaves where the chime list has room and its reply is placed. -/
theorem granted_finish {x y : State} (hx : x = startOverride p fraction beep (requestHeard sender.toNat s))
    (hpresent : presentAlready sender.toNat s) (hfault : FaultLaw s) (hawake : sleepReady y = false)
    (hred : s.service.override.red = false) (hchimes : s.chime.entries.length < 16)
    (hreports : y.reports = x.reports) (hkept : Kept [.line, .service] x y)
    (hoverride : y.service.override = x.service.override) :
    (finish y).gauges = (overrideBegun p fraction beep (requestHeard sender.toNat s)).gauges
      ∧ (beep = true → s.chime.accepting = true →
          (finish y).chime.entries.any (fun e => e.id == .test) = true)
      ∧ (LampLaw s →
          (finish y).service.override = { inForce := true, pattern := p, fraction := fraction, beep := beep,
                                          due := some (s.now + 60000), red := false }
          ∧ (finish y).telltale.lamps.map overrideView
            = (s.telltale.lamps.map (overrideLamp s.now p)).map overrideView) := by
  obtain ⟨c, hbegun, htest⟩ := granted_parts (sender := sender) (p := p) (fraction := fraction) (beep := beep) hchimes
  obtain ⟨h, hh⟩ : ∃ h, h = requestHeard sender.toNat s := ⟨_, rfl⟩
  have hheard : Kept [.line, .roster] s h := hh ▸ kept_requestHeard sender.toNat s
  have hservice : h.service = s.service := hheard .service (by decide)
  have htelltale : h.telltale = s.telltale := hheard .telltale (by decide)
  have hnow : h.now = s.now := hheard .time (by decide)
  have hbeginning : onlyEnded (overrideBegun p fraction beep h) :=
    overrideBegun_ended (by rw [hh]; exact requestHeard_reports _ _ hpresent) fun g => by
      have hg := hfault.1 g
      simpa [hh, channelFault, channelOf, gaugeRecord] using hg
  have hrecord := (overrideBegun_frame (p := p) (fraction := fraction) (beep := beep) h).2.2
  have hlampsBegun := fun hdark => overrideBegun_lamps (p := p) (fraction := fraction) (beep := beep) (s := h) hdark
  rw [hservice, hnow] at hrecord
  rw [htelltale, hnow] at hlampsBegun
  rw [hbegun, ← hh] at hx
  rw [← hh]
  generalize overrideBegun p fraction beep h = u at *
  have hgaugesY : y.gauges = u.gauges := (hkept .gauges (by decide)).trans (by rw [hx]; rfl)
  have htelltaleY : y.telltale = u.telltale := (hkept .telltale (by decide)).trans (by rw [hx]; rfl)
  have hchimeY : y.chime = c := (hkept .chime (by decide)).trans (by rw [hx]; rfl)
  have hended : onlyEnded y := fun r hr => hbeginning r (by rw [hreports, hx] at hr; exact hr)
  obtain ⟨-, hgauges, hlamps, hchime, hcalm⟩ := faultsEased_finish hended hawake
  refine ⟨hgauges.trans hgaugesY, fun hbeep haccepting => hchime (by rw [hchimeY]; exact htest hbeep haccepting),
    fun hlaw => ?_⟩
  obtain ⟨-, -, hflag, hrecordRed, -⟩ := hlaw
  have hdark : s.telltale.red = false := hrecordRed.symm.trans hred
  have hlampsY := htelltaleY.trans (hlampsBegun hdark)
  obtain ⟨hserviceT, -⟩ := hcalm (by rw [hlampsY]; exact hdark)
    (by rw [hlampsY]; exact (classActive_overrideLamp _ _).trans (hflag.symm.trans hdark))
  refine ⟨?_, by rw [hlamps, hlampsY]⟩
  rw [hserviceT, hoverride, hx, State.setChime_service, hrecord, hred]

end

/-- Settles O42. -/
theorem testOverrideIsGrantedOrRefused : Obligations.TestOverrideIsGrantedOrRefused := by
  refine ⟨fun sender args s htaken hpresent htables hawake => ?_, overrideArgs_spec⟩
  obtain ⟨hbad, htake⟩ := takeTestOverride_heard args sender.toNat s
  cases hargs : overrideArgs args with
  | none =>
    obtain ⟨t, ht, hkept, hanswered, hplaced⟩ := refused_answered (code := 7) (r := .badArgument) htaken hpresent hawake
    rw [exec_testOverride htaken htables, hbad hargs, ht]
    exact ⟨t, rfl, hkept, fun _ => ⟨hanswered, hplaced⟩, by simp, by simp⟩
  | some x =>
    obtain ⟨p, fraction, beep⟩ := x
    obtain ⟨hnot, -⟩ := htake p fraction beep hargs
    by_cases hrefused : s.control.part ≠ .run ∨ s.service.override.red = true ∨ s.service.override.inForce = true
    · obtain ⟨t, ht, hkept, hanswered, hplaced⟩ := refused_answered (code := 7) (r := .notNow) htaken hpresent hawake
      rw [exec_testOverride htaken htables, hnot hrefused, ht]
      refine ⟨t, rfl, hkept, by simp, fun _ _ _ _ _ => ⟨hanswered, hplaced⟩, fun _ _ _ _ hrun hred hforce => ?_⟩
      simp [hrun, hred, hforce] at hrefused
    · simp only [not_or, ne_eq, not_not, Bool.not_eq_true] at hrefused
      obtain ⟨hrun, hred, hforce⟩ := hrefused
      obtain ⟨x, y, hx, hexec, hall, hawake', hanswered, hoverride, hidle⟩ :=
        granted_placed htaken htables hargs hrun hred hforce
      refine ⟨finish y, hexec, kept_finish_told hall (by decide) hawake', by simp,
        fun _ _ _ _ h => by simp [hrun, hred, hforce] at h, ?_⟩
      rintro p' fraction' beep' heq - - - hfault hchimes
      simp only [Option.some.injEq, Prod.mk.injEq] at heq
      obtain ⟨rfl, rfl, rfl⟩ := heq
      have hgranted := fun hplace => granted_finish hx hpresent hfault hawake' hred hchimes (hidle hplace).1
        (hidle hplace).2 hoverride
      have hmonitor : x.monitor = s.monitor := by
        rw [hx, (granted_parts hchimes).choose_spec.1, State.setChime_monitor, (overrideBegun_frame _).2.1]
        simp
      rw [hmonitor] at hanswered
      refine ⟨answered_finish hanswered hawake', fun hplace hlaw => ?_, fun hplace => (hgranted hplace).2.1⟩
      obtain ⟨hgauges, -, hlamps⟩ := hgranted hplace
      obtain ⟨hrecord, hviews⟩ := hlamps hlaw
      obtain ⟨hstates, hshown⟩ := overridden_lamps hviews
      refine ⟨hrecord, hstates, hshown, fun g hfallback henabled hstate => ?_, fun hfallback => ?_⟩
      · have hchannel := overrideBegun_channels p fraction beep (requestHeard sender.toNat s) g
        have hrecordG : gaugeRecord (requestHeard sender.toNat s) g = gaugeRecord s g := gaugeRecord_congr (by simp) g
        have hchannelH : channelOf (requestHeard sender.toNat s) g = channelOf s g := by simp [channelOf]
        rw [hrecordG, hchannelH, if_pos ⟨henabled, by simpa using hfallback⟩] at hchannel
        rw [(channelOf_of_gauges hgauges g).trans hchannel]
        exact startOverride_taken hstate
      · rw [hgauges, overrideBegun_fallback (by simpa using hfallback)]
        simp

end Sys2Proof.Proofs

/-! Proofs. What placing a frame of the part's own makes of the line (R142, R151), for O26. -/

namespace Sys2Proof.Proofs

open Sys2Proof Sys2Proof.Machine Sys2Proof.Claims

/-! ## Starting a transmission -/

theorem length_startEntry (e : TxEntry) (q : List TxEntry) : (startEntry e q).length = q.length := by
  induction q with
  | nil => rfl
  | cons x xs ih =>
    rw [startEntry]
    split <;> simp [ih]

theorem length_startedQueue (quiet : Bool) (state : LineState) (q : List TxEntry) :
    (startedQueue quiet state q).length = q.length := by
  unfold startedQueue
  repeat' split
  · exact length_startEntry _ _
  · rfl
  · rfl

theorem firstWaiting_ne_none {q : List TxEntry} {e : TxEntry} (he : e ∈ q) (hwaiting : e.state = .waiting) :
    firstWaiting q ≠ none := by
  induction q with
  | nil => simp at he
  | cons x xs ih =>
    rw [firstWaiting]
    split
    · repeat' split
      all_goals simp
    · next hx =>
      rcases List.mem_cons.mp he with rfl | he
      · exact absurd hwaiting hx
      · exact ih he

/-- A line at which the placing of one more frame starts no transmission: it is not quiet, its controller not ACTIVE, a
transmission is in progress, or there is no room for the frame (R142). -/
def lineRests (l : Line) : Prop :=
  l.quiet = false ∨ l.state ≠ .active ∨ transmitting l.queue = true ∨ 8 ≤ l.queue.length

/-- The line once a transmission has been started where one can be (R142). -/
theorem tryTransmit_line (s : State) : ∃ quiet,
    (tryTransmit s).line
        = { s.line with quiet := quiet, queue := startedQueue s.line.quiet s.line.state s.line.queue }
      ∧ ((∃ e ∈ s.line.queue, e.state = .waiting) → lineRests (tryTransmit s).line) := by
  unfold tryTransmit startedQueue
  by_cases hstart : s.line.state = .active ∧ s.line.quiet = true ∧ ¬ transmitting s.line.queue = true
  · obtain ⟨hactive, hquiet, htransmitting⟩ := hstart
    cases hfirst : firstWaiting s.line.queue with
    | some e =>
      refine ⟨false, ?_, fun _ => .inl ?_⟩
      · simp [hactive, hquiet, htransmitting]
      · simp [hactive, hquiet, htransmitting]
    | none =>
      refine ⟨s.line.quiet, by simp, ?_⟩
      rintro ⟨e, he, hwaiting⟩
      exact absurd hfirst (firstWaiting_ne_none he hwaiting)
  · have hstart' : ¬ (s.line.quiet = true ∧ s.line.state = .active ∧ transmitting s.line.queue = false) :=
      fun ⟨hquiet, hactive, hidle⟩ => hstart ⟨hactive, hquiet, by simp [hidle]⟩
    rw [if_neg hstart, if_neg hstart']
    refine ⟨s.line.quiet, rfl, fun _ => ?_⟩
    unfold lineRests
    grind

/-- A line at rest starts none. -/
theorem startedQueue_of_rests {l : Line} {e : TxEntry} (hrests : lineRests l) (hroom : l.queue.length < 8)
    (hwaiting : e.state = .waiting) : startedQueue l.quiet l.state (l.queue ++ [e]) = l.queue ++ [e] := by
  have htransmitting : transmitting (l.queue ++ [e]) = transmitting l.queue := by simp [transmitting, hwaiting]
  unfold startedQueue
  rw [if_neg]
  rintro ⟨hquiet, hactive, hidle⟩
  rw [htransmitting] at hidle
  rcases hrests with h | h | h | h
  · simp [hquiet] at h
  · exact h hactive
  · simp [hidle] at h
  · omega

/-! ## A placed frame -/

/-- What placing a frame makes of the line and of the count of drops: the queue is `q` now, and `drops` frames were
dropped. -/
structure PlacedAs (q : List TxEntry) (drops : Nat) (s t : State) : Prop where
  line : ∃ quiet, t.line = { s.line with
    quiet := quiet, queue := q, lastOrder := s.line.lastOrder + (q.length - s.line.queue.length) }
  grows : s.line.queue.length ≤ q.length
  rests : lineRests t.line
  drops : t.monitor[(9 : Fin 10)].raw = oneMore^[drops] s.monitor[(9 : Fin 10)].raw

/-- What is placed depends on the line and the monitor alone. -/
theorem PlacedAs.congr {q : List TxEntry} {n : Nat} {s t s' t' : State} (h : PlacedAs q n s t)
    (hline : s'.line = s.line) (hmonitor : s'.monitor = s.monitor) (hline' : t'.line = t.line)
    (hmonitor' : t'.monitor = t.monitor) : PlacedAs q n s' t' where
  line := by rw [hline, hline']; exact h.line
  grows := by rw [hline]; exact h.grows
  rests := by rw [hline']; exact h.rests
  drops := by rw [hmonitor, hmonitor']; exact h.drops

theorem PlacedAs.queue {q : List TxEntry} {n : Nat} {s t : State} (h : PlacedAs q n s t) : t.line.queue = q := by
  obtain ⟨quiet, hline⟩ := h.line
  rw [hline]

theorem PlacedAs.lastOrder {q : List TxEntry} {n : Nat} {s t : State} (h : PlacedAs q n s t) :
    t.line.lastOrder = s.line.lastOrder + (q.length - s.line.queue.length) := by
  obtain ⟨quiet, hline⟩ := h.line
  rw [hline]

theorem PlacedAs.state {q : List TxEntry} {n : Nat} {s t : State} (h : PlacedAs q n s t) :
    t.line.state = s.line.state := by
  obtain ⟨quiet, hline⟩ := h.line
  rw [hline]

/-- Two frames placed one after the other. -/
theorem PlacedAs.trans {q1 q2 : List TxEntry} {n m : Nat} {s u t : State} (h : PlacedAs q1 n s u)
    (k : PlacedAs q2 m u t) : PlacedAs q2 (n + m) s t where
  line := by
    obtain ⟨quiet, hline⟩ := k.line
    obtain ⟨quiet', hline'⟩ := h.line
    refine ⟨quiet, ?_⟩
    have hgrows := k.grows
    have hgrows' := h.grows
    rw [h.queue] at hgrows hline
    have horder : s.line.lastOrder + (q1.length - s.line.queue.length) + (q2.length - q1.length)
        = s.line.lastOrder + (q2.length - s.line.queue.length) := by omega
    rw [hline, hline', ← horder]
  grows := by
    have hgrows := k.grows
    rw [h.queue] at hgrows
    exact h.grows.trans hgrows
  rests := k.rests
  drops := by rw [k.drops, h.drops, ← Function.iterate_add_apply, Nat.add_comm]

/-- The admission of a new entry. -/
theorem placedAs_admitted {e : TxEntry} {s : State} (hwaiting : e.state = .waiting) :
    PlacedAs (startedQueue s.line.quiet s.line.state (s.line.queue ++ [e])) 0 s
      (tryTransmit (s.setLine { s.line with
        lastOrder := s.line.lastOrder + 1, queue := s.line.queue ++ [e] })) := by
  obtain ⟨quiet, hline, hrests⟩ := tryTransmit_line (s.setLine { s.line with
    lastOrder := s.line.lastOrder + 1, queue := s.line.queue ++ [e] })
  have hlength := length_startedQueue s.line.quiet s.line.state (s.line.queue ++ [e])
  refine ⟨⟨quiet, ?_⟩, by simp [hlength], hrests ⟨e, by simp, hwaiting⟩, by simp⟩
  rw [hline, hlength]
  simp

/-- The starting PRESENCE of R136 (R151). -/
theorem placePresence_placed {s : State} (hlisten : s.line.state ≠ .listenOnly) :
    PlacedAs (if s.line.queue.length < 8 then startedQueue s.line.quiet s.line.state
        (s.line.queue ++ [waitingEntry s .presence [0x13, 0x00] (s.line.lastOrder + 1)]) else s.line.queue)
      (if 8 ≤ s.line.queue.length then 1 else 0) s (placeFrame .presence (presencePayload true) s) := by
  by_cases hroom : s.line.queue.length < 8
  · have hplace : placeFrame .presence (presencePayload true) s = tryTransmit (s.setLine { s.line with
        lastOrder := s.line.lastOrder + 1
        queue := s.line.queue ++ [waitingEntry s .presence [0x13, 0x00] (s.line.lastOrder + 1)] }) := by
      simp only [placeFrame, hlisten, hroom, TxKind.periodic, Bool.false_eq_true, false_and, if_false, if_true]
      rfl
    rw [if_pos hroom, if_neg (by omega), hplace]
    exact placedAs_admitted rfl
  · have hplace : placeFrame .presence (presencePayload true) s = count 9 s := by
      simp only [placeFrame, hlisten, hroom, TxKind.periodic, Bool.false_eq_true, false_and, if_false]
      rfl
    rw [if_neg hroom, if_pos (by omega), hplace]
    exact ⟨⟨s.line.quiet, by simp⟩, le_rfl, .inr (.inr (.inr (by simp; omega))), count_monitor_raw 9 s⟩

/-- No block waits for what becomes of a frame of a periodic kind (R151). -/
theorem reportLeaving_periodic {kind : TxKind} (hkind : kind.periodic = true) (payload : List Byte) (how : Leaving)
    (s : State) : reportLeaving kind payload how s = s := by
  cases kind with
  | presence | serviceReply => simp [TxKind.periodic] at hkind
  | clusterStatus | distanceReport => rfl

/-- A frame of a periodic kind at a line at rest (R151). -/
theorem placePeriodic_placed {kind : TxKind} {payload : List Byte} {s : State} (hkind : kind.periodic = true)
    (hlisten : s.line.state ≠ .listenOnly) (hrests : lineRests s.line) :
    PlacedAs (withPeriodic s kind payload (s.line.lastOrder + 1) s.line.queue)
      (if dropsPeriodic kind s.line.queue then 1 else 0) s (placeFrame kind payload s) := by
  unfold withPeriodic dropsPeriodic
  by_cases hcopy : s.line.queue.any (waitingOfKind kind) = true
  · have hplace : placeFrame kind payload s = s.setLine { s.line with
        queue := s.line.queue.map (fun e => if waitingOfKind kind e then { e with payload := payload } else e) } := by
      simp only [placeFrame, hlisten, hkind, hcopy, true_and, if_false, if_true]
    have htransmitting : transmitting (s.line.queue.map (fun e =>
        if waitingOfKind kind e then { e with payload := payload } else e)) = transmitting s.line.queue := by
      rw [transmitting, List.any_map]
      refine List.any_congr rfl fun e => ?_
      simp only [Function.comp_apply]
      split <;> rfl
    rw [if_pos hcopy, hcopy, hplace]
    refine ⟨⟨s.line.quiet, by simp⟩, by simp, ?_, by simp⟩
    simpa [lineRests, htransmitting] using hrests
  · rw [if_neg hcopy]
    by_cases hroom : s.line.queue.length < 8
    · have hplace : placeFrame kind payload s = tryTransmit (s.setLine { s.line with
          lastOrder := s.line.lastOrder + 1
          queue := s.line.queue ++ [waitingEntry s kind payload (s.line.lastOrder + 1)] }) := by
        simp only [placeFrame, hlisten, hkind, hcopy, hroom, if_false, if_true]
        rfl
      have hplaced := placedAs_admitted (s := s) (e := waitingEntry s kind payload (s.line.lastOrder + 1)) rfl
      rw [startedQueue_of_rests hrests hroom rfl] at hplaced
      rw [if_pos hroom, hplace, decide_eq_false (by omega)]
      exact hplaced
    · have hplace : placeFrame kind payload s = count 9 s := by
        simp only [placeFrame, hlisten, hcopy, hroom, and_false, if_false, Bool.false_eq_true]
        rw [reportLeaving_periodic hkind]
      rw [if_neg hroom, hplace, decide_eq_true (by omega)]
      refine ⟨⟨s.line.quiet, by simp⟩, le_rfl, by simpa using hrests, ?_⟩
      simpa [hcopy] using count_monitor_raw 9 s

/-- In LISTEN-ONLY a frame that no block waits for is discarded without trace (R151). -/
theorem placePeriodic_listenOnly {kind : TxKind} {payload : List Byte} {s : State} (hkind : kind.periodic = true)
    (hlisten : s.line.state = .listenOnly) : placeFrame kind payload s = s := by
  simp only [placeFrame, hlisten, if_true]
  exact reportLeaving_periodic hkind _ _ _

theorem placePresence_listenOnly {s : State} (hlisten : s.line.state = .listenOnly) :
    placeFrame .presence (presencePayload true) s = s := by
  simp only [placeFrame, hlisten, if_true]
  rfl

/-- The settling of the oscillator does not end with a placed frame. -/
theorem placeFrame_settling (kind : TxKind) (payload : List Byte) (s : State) :
    (placeFrame kind payload s).line.settling = s.line.settling := by
  have htransmit : ∀ t : State, (tryTransmit t).line.settling = t.line.settling := by
    intro t
    obtain ⟨quiet, hline, -⟩ := tryTransmit_line t
    rw [hline]
  simp only [placeFrame]
  repeat' split
  · simp
  · simp
  · rw [htransmit]
    simp
  · simp

/-! ## The Roster Unit under placed frames -/

theorem placeFrame_roster {kind : TxKind} {payload : List Byte} {s : State}
    (h : ∀ how u, reportLeaving kind payload how u = u) : (placeFrame kind payload s).roster = s.roster := by
  simp only [placeFrame, h]
  repeat' split
  all_goals simp

/-- Only a QUEUED reply is taken back by entries that leave the queue (R136, R151). -/
theorem discardAll_roster (q : List TxEntry) (s : State) : ∃ reply,
    (discardAll q s).roster = { s.roster with reply := reply }
      ∧ (s.roster.reply ≠ .queued → reply = s.roster.reply) := by
  refine foldl_inv (fun t : State => ∃ reply, t.roster = { s.roster with reply := reply }
    ∧ (s.roster.reply ≠ .queued → reply = s.roster.reply)) _ (fun t e ht => ?_) q s ⟨s.roster.reply, rfl, fun _ => rfl⟩
  obtain ⟨reply, hroster, hkeep⟩ := ht
  unfold reportLeaving
  split
  · split
    · next hqueued =>
      refine ⟨.none, by rw [State.setRoster_roster, hroster], fun h => ?_⟩
      rw [hroster, hkeep h] at hqueued
      exact absurd hqueued.2 h
    · exact ⟨reply, hroster, hkeep⟩
  · exact ⟨reply, hroster, hkeep⟩
  · exact ⟨reply, hroster, hkeep⟩
  · exact ⟨reply, hroster, hkeep⟩

/-! ## The bulletin -/

/-- Bits of the bulletin (Table 12-3). -/
theorem statusPayload_bits (f : StatusFields) : bitField (statusPayload f) 0 4 = partNumber f.part
    ∧ bitFlag (statusPayload f) 4 = f.ready ∧ bitFlag (statusPayload f) 5 = f.error
    ∧ bitFlag (statusPayload f) 19 = f.census := by
  have hpart := partNumber_lt f.part
  have hready := flagBit_lt f.ready
  have herror := flagBit_lt f.error
  have hbusy := flagBit_lt f.noticeBusy
  have hred := flagBit_lt f.red
  have hamber := flagBit_lt f.amber
  have hfault := flagBit_lt f.gaugeFault
  have hoverride := flagBit_lt f.override
  have hcensus := flagBit_lt f.census
  have hhealth := flagBit_lt f.health
  have hstore := storeNumber_lt f.store
  refine ⟨?_, bitFlag_eq ?_, bitFlag_eq ?_, bitFlag_eq ?_⟩ <;>
    simp only [statusPayload, bitField, leNat_cons, leNat_nil, BitVec.toNat_ofNat, partCode_eq, storeCode_eq] <;>
    omega

end Sys2Proof.Proofs

/-! Proofs. START entry block by block, for O26. -/

namespace Sys2Proof.Proofs

open Sys2Proof Sys2Proof.Machine Sys2Proof.Claims

/-! ## The pop-ups -/

/-- The queue and the arrival order that postings of new messages at an empty queue leave (R83). -/
def admittedQueue (posts : List (Nat × Grade)) : List PopupEntry × Nat :=
  posts.foldl (fun q p => (settlePopups (q.1 ++
    [{ message := p.1, cls := p.2, nonLatched := false, order := q.2 + 1, state := .queued }]), q.2 + 1)) ([], 0)

/-- The lists of pop-ups that START entry can post (R82). -/
def startPostings : List (List (Nat × Grade)) :=
  [[], [(56, .urgent)]].flatMap fun fallback => [[], [(61, .caution)]].flatMap fun store =>
    [[], [(64, .notice)], [(64, .caution)], [(64, .urgent)]].map fun notice => fallback ++ store ++ notice

theorem startPosts_mem (s : State) : startPosts s ∈ startPostings := by
  have hnotice : (match s.driver.mailbox with
      | .full _ cls _ => [(64, cls)]
      | .empty => []
      | .assembling _ => []) ∈ [[], [(64, Grade.notice)], [(64, .caution)], [(64, .urgent)]] := by
    cases s.driver.mailbox with
    | empty | assembling => simp
    | full id cls text => cases cls <;> simp
  refine List.mem_flatMap.mpr ⟨if s.control.fallback then [(56, .urgent)] else [], ?_,
    List.mem_flatMap.mpr ⟨if s.store.state ≠ .good then [(61, .caution)] else [], ?_,
      List.mem_map.mpr ⟨_, hnotice, rfl⟩⟩⟩
  · split <;> simp
  · split <;> simp

/-- START entry posts its pop-ups at an empty queue. -/
theorem startPopups_eq (s : State) : startPopups s = s.setReadout { s.readout with
    queue := (admittedQueue (startPosts s)).1, lastOrder := (admittedQueue (startPosts s)).2 } := by
  unfold startPopups startPosts
  cases s.control.fallback <;> cases s.store.state <;> cases s.driver.mailbox with
  | empty | assembling => rfl
  | full id cls text => cases cls <;> rfl

/-- Their queue: the postings in their order, of which the oldest of the highest class shows (R84). -/
theorem admittedQueue_spec : ∀ posts ∈ startPostings,
    (admittedQueue posts).1.map (fun e => (e.message, e.cls, e.nonLatched))
        = posts.map (fun x => (x.1, x.2, false))
      ∧ (admittedQueue posts).1.map (fun e => e.order) = (List.range posts.length).map (fun i => i + 1)
      ∧ (admittedQueue posts).2 = posts.length
      ∧ ∀ e ∈ (admittedQueue posts).1, (e.state = .showing 0 ∨ e.state = .queued)
          ∧ (e.state = .showing 0 ↔ ∀ f ∈ (admittedQueue posts).1,
              f = e ∨ f.cls.rank < e.cls.rank ∨ f.cls = e.cls ∧ e.order < f.order) := by
  decide

/-! ## The wake of the line -/

/-- What the line does at a START entry: it wakes out of SLEEP (R163). -/
def wokenLine (s : State) : State := if s.control.part = .sleep then wakeLine s else s

/-- The queue with which the line enters START (R149). -/
def wokenQueue (s : State) : List TxEntry :=
  if s.control.part = .sleep ∧ s.line.sleepPending = true then
    s.line.queue.filter (fun e => e.state == .inTransmission) else s.line.queue

theorem wokenLine_line (s : State) : (wokenLine s).line.queue = wokenQueue s
    ∧ (wokenLine s).line.state = s.line.state ∧ (wokenLine s).line.lastOrder = s.line.lastOrder
    ∧ (wokenLine s).line.quiet = (s.line.quiet && decide (s.control.part ≠ .sleep))
    ∧ (s.control.part = .sleep → (wokenLine s).line.settling = true) := by
  unfold wokenLine wokenQueue
  by_cases hsleep : s.control.part = .sleep
  · by_cases hpending : s.line.sleepPending = true
    · simp [hsleep, hpending, wakeLine, discardWaiting]
    · simp [hsleep, hpending, wakeLine]
  · simp [hsleep]

theorem wokenLine_roster (s : State) : ∃ reply, (wokenLine s).roster = { s.roster with reply := reply }
    ∧ (s.roster.reply ≠ .queued → reply = s.roster.reply)
    ∧ (s.control.part ≠ .sleep ∨ s.line.sleepPending = false → reply = s.roster.reply) := by
  unfold wokenLine wakeLine
  by_cases hsleep : s.control.part = .sleep
  · by_cases hpending : s.line.sleepPending = true
    · obtain ⟨reply, hroster, hkeep⟩ := discardAll_roster (withoutSent s.line.queue) (s.setLine { s.line with
        queue := s.line.queue.filter (fun e => e.state == .inTransmission) })
      exact ⟨reply, by simpa [hsleep, hpending, discardWaiting] using hroster, hkeep, by simp [hsleep, hpending]⟩
    · exact ⟨s.roster.reply, by simp [hsleep, hpending], fun _ => rfl, fun _ => rfl⟩
  · exact ⟨s.roster.reply, by simp [hsleep], fun _ => rfl, fun _ => rfl⟩

theorem kept_wokenLine (s : State) : Kept [.line, .roster, .service] s (wokenLine s) := by
  unfold wokenLine
  split
  · intro b hb
    cases b
    case line | roster | service => exact absurd (by decide) hb
    all_goals simp [agree]
  · exact fun b _ => agree_refl b s

/-! ## The blocks but for line and roster -/

/-- START entry of all blocks but the Roster Unit and the Line Controller (R161). -/
def startReady (s : State) : State :=
  startReadout (clearChime true (startTelltale (startGauges (startControl s))))

theorem enterStart_eq (s : State) : enterStart s = restartStatus statusFastMs (startRoster (startReady s)) := rfl

theorem startReady_readout (s : State) : (startReady s).readout = { s.readout with
      windowDue := none, page := homePage s.tables
      queue := (admittedQueue (startPosts s)).1, lastOrder := (admittedQueue (startPosts s)).2 }
    ∧ (startReady s).monitor = s.monitor := by
  obtain ⟨u, hu⟩ : ∃ u, u = clearChime true (startTelltale (startGauges (startControl s))) := ⟨_, rfl⟩
  have hreadout : u.readout = s.readout := by simp [hu, startControl]
  have htables : u.tables = s.tables := by simp [hu, startControl]
  have hmonitor : u.monitor = s.monitor := by simp [hu, startControl]
  have hposts : startPosts (u.setReadout { u.readout with windowDue := none }) = startPosts s := by
    simp [startPosts, hu, startControl]
  rw [startReady, ← hu, startReadout, startPopups_eq, hposts]
  simp [hreadout, htables, hmonitor]

theorem startReady_telltale (s : State) : (startReady s).telltale.provingDue = some (s.now + 3000)
    ∧ (startReady s).telltale.loads = Vector.replicate 32 { openSeen := false, shortSeen := false }
    ∧ ∀ l ∈ (startReady s).telltale.lamps, l.state = if l.proved then .proving else .showing := by
  obtain ⟨u, hu⟩ : ∃ u, u = startGauges (startControl s) := ⟨_, rfl⟩
  have htelltale : (startReady s).telltale = (startTelltale u).telltale := by simp [startReady, startReadout, hu]
  have hnow : u.now = s.now := by simp [hu, startControl]
  have hparts : ∀ v : State, (updateFlags v).telltale.provingDue = v.telltale.provingDue
      ∧ (updateFlags v).telltale.loads = v.telltale.loads ∧ (updateFlags v).telltale.lamps = v.telltale.lamps := by
    intro v
    unfold updateFlags
    dsimp only
    split <;> exact ⟨rfl, rfl, rfl⟩
  rw [htelltale, startTelltale, (hparts _).1, (hparts _).2.1, (hparts _).2.2]
  refine ⟨by simp [hnow, provingMs], by simp, fun l hl => ?_⟩
  obtain ⟨m, -, rfl⟩ := List.mem_map.mp hl
  rfl

theorem startReady_gauges (s : State) : (startReady s).gauges.grace = .running (s.now + 2000)
    ∧ ∀ g, channelOf (startReady s) g = startedChannel (gaugeRecord s g) s.now (channelOf s g) := by
  have hgauges : (startReady s).gauges = (startGauges (startControl s)).gauges := by
    simp [startReady, startReadout]
  obtain ⟨hgrace, hchannels⟩ := startGauges_channels (startControl s)
  refine ⟨by rw [hgauges, hgrace]; rfl, fun g => ?_⟩
  rw [channelOf_of_gauges hgauges g, hchannels g]
  rfl

/-- The channels of START entry (R30, R40, R43). -/
theorem startedChannel_items (r : GaugeRecord) (now : Nat) (c : Channel) :
    (∀ i : Fin 2, (startedChannel r now c).bands[i] = .inactive)
      ∧ (r.enabled = true → (startedChannel r now c).state = .homing ∧ (startedChannel r now c).position = none
        ∧ (startedChannel r now c).speed = 0 ∧ (startedChannel r now c).damped = 0
        ∧ (startedChannel r now c).stalls = 0 ∧ (startedChannel r now c).holdSpent = false
        ∧ (startedChannel r now c).holdDue = none ∧ (startedChannel r now c).periodDue = some (now + 10)) := by
  have hbands : ∀ i : Fin 2, ((c.bands.set 0 BandState.inactive).set 1 .inactive)[i] = .inactive := by
    intro i
    match i with
    | 0 => simp
    | 1 => simp
  unfold startedChannel
  refine ⟨fun i => ?_, fun henabled => ?_⟩
  · dsimp only
    split
    · simpa [withFault, Channel.restart, Channel.goto] using hbands i
    · exact hbands i
  · simp [henabled, withFault, Channel.restart, Channel.goto, motionMs]

theorem startReady_kept (s : State) : Kept ([.control] ++ told) s (startReady s)
    ∧ (startReady s).control = (startControl s).control
    ∧ (startReady s).chime = { entries := [], lastOrder := 0, accepting := true, phase := 0, phaseDue := none } := by
  refine ⟨fun b hb => ?_, by simp [startReady, startReadout], by simp [startReady, startReadout, clearChime]⟩
  cases b
  case control | monitor | telltale | chime | readout | service | gauges => exact absurd (by decide) hb
  all_goals simp [agree, startReady, startReadout, startControl]

/-! ## The Roster Unit -/

/-- START entry at the Roster Unit: the entries restart, then the starting PRESENCE is placed but under fallback, then
a reply delay stops (R131, R136). -/
theorem startRoster_parts (s : State) : ∃ u v : State, u.line = s.line ∧ u.tables = s.tables ∧ u.monitor = s.monitor
    ∧ u.roster = { s.roster with
        entries := s.roster.entries.map RosterEntry.restart, censusComplete := false
        censusDue := some (s.now + 1500) }
    ∧ v = (if s.control.fallback then u else placeFrame .presence (presencePayload true) u)
    ∧ (startRoster s).line = v.line ∧ (startRoster s).monitor = v.monitor
    ∧ (startRoster s).roster = { v.roster with reply := if v.roster.reply = .queued then .queued else .none } := by
  obtain ⟨u, hu⟩ : ∃ u, u = (putEntries (s.roster.entries.map RosterEntry.restart) s).setRoster {
      (putEntries (s.roster.entries.map RosterEntry.restart) s).roster with
      censusComplete := false, censusDue := some ((putEntries (s.roster.entries.map RosterEntry.restart) s).now
        + censusMs) } := ⟨_, rfl⟩
  have hcontrol : u.control = s.control := by simp [hu]
  obtain ⟨v, hv⟩ : ∃ v, v = if u.control.fallback then u else placeFrame .presence (presencePayload true) u :=
    ⟨_, rfl⟩
  have hstart : startRoster s = (match v.roster.reply with
      | .delaying _ => v.setRoster { v.roster with reply := .none }
      | .none => v
      | .queued => v) := by
    rw [hv, hu]
    rfl
  rw [hcontrol] at hv
  refine ⟨u, v, by simp [hu], by simp [hu], by simp [hu], by simp [hu, putEntries_roster, censusMs], hv, ?_⟩
  have hkeep : ∀ reply, v.roster.reply = reply → v.roster = { v.roster with reply := reply } :=
    fun reply h => by rw [← h]
  cases hreply : v.roster.reply with
  | none =>
    rw [hreply] at hstart
    rw [hstart]
    exact ⟨rfl, rfl, hkeep .none hreply⟩
  | queued =>
    rw [hreply] at hstart
    rw [hstart]
    exact ⟨rfl, rfl, hkeep .queued hreply⟩
  | delaying =>
    rw [hreply] at hstart
    rw [hstart]
    exact ⟨rfl, rfl, rfl⟩

/-- The roster after START entry (R131, R136). -/
theorem startRoster_roster (s : State) : (startRoster s).roster = { s.roster with
    entries := s.roster.entries.map RosterEntry.restart, censusComplete := false
    censusDue := some (s.now + 1500)
    reply := if s.roster.reply = .queued then .queued else .none } := by
  obtain ⟨u, v, -, -, -, hplaced, hv, -, -, hstart⟩ := startRoster_parts s
  have hroster : v.roster = u.roster := by
    rw [hv]
    split
    · rfl
    · exact placeFrame_roster fun _ _ => rfl
  rw [hstart, hroster, hplaced]

/-- The line after START entry in LISTEN-ONLY (R151). -/
theorem startRoster_listenOnly {s : State} (hlisten : s.line.state = .listenOnly) :
    (startRoster s).line = s.line := by
  obtain ⟨u, v, hline, -, -, -, hv, hstart, -⟩ := startRoster_parts s
  rw [hstart, hv, placePresence_listenOnly (by rwa [hline]), ite_self, hline]

/-- The starting PRESENCE of START entry (R136, R151). -/
theorem startRoster_placed {s : State} (hlisten : s.line.state ≠ .listenOnly) (hfallback : s.control.fallback = false) :
    PlacedAs (if s.line.queue.length < 8 then startedQueue s.line.quiet s.line.state
        (s.line.queue ++ [waitingEntry s .presence [0x13, 0x00] (s.line.lastOrder + 1)]) else s.line.queue)
      (if 8 ≤ s.line.queue.length then 1 else 0) s (startRoster s) := by
  obtain ⟨u, v, hline, htables, hmonitor, -, hv, hstart, hmonitor', -⟩ := startRoster_parts s
  rw [hfallback, if_neg (by simp)] at hv
  have hplaced := placePresence_placed (s := u) (by rwa [hline])
  rw [← hv] at hplaced
  have hentry : waitingEntry u .presence [0x13, 0x00] (s.line.lastOrder + 1)
      = waitingEntry s .presence [0x13, 0x00] (s.line.lastOrder + 1) := by
    rw [waitingEntry, htables, ← waitingEntry]
  rw [hline, hentry] at hplaced
  exact hplaced.congr hline.symm hmonitor.symm hstart hmonitor'

end Sys2Proof.Proofs

/-! Proofs. O26: ignition on. -/

namespace Sys2Proof.Proofs

open Sys2Proof Sys2Proof.Machine Sys2Proof.Claims

/-! ## The START entry of a debounced ignition -/

/-- START entry with what the ignition adds out of SLEEP: the wake of the line before it, the distance report after it
(R161, R163). -/
def startBegun (s : State) : State :=
  if s.control.part = .sleep then restartDistanceReport (enterStart (wokenLine s)) else enterStart (wokenLine s)

/-- Ignition on in AFTER-RUN, LISTENING and SLEEP enters START (R161). -/
theorem debounceIgnition_on {s : State} (hraw : s.control.ignitionRaw = true) (hoff : s.control.ignition = false)
    (hpart : s.control.part = .afterRun ∨ s.control.part = .listening ∨ s.control.part = .sleep) :
    debounceIgnition s = startBegun (s.setControl (levelTaken s.control)) := by
  have hon : ignitionOn (s.setControl (levelTaken s.control)) = startBegun (s.setControl (levelTaken s.control)) := by
    rcases hpart with h | h | h <;> simp [ignitionOn, startBegun, wokenLine, wakeByIgnition, levelTaken, h]
  have hloading : (startBegun (s.setControl (levelTaken s.control))).control.part ≠ .loading := by
    unfold startBegun
    split <;> simp [restartDistanceReport, placeDistanceReport, enterStart_eq, restartStatus, placeStatus,
      startReady_kept, startControl]
  rw [debounceIgnition_eq, if_neg (by simp [hraw, hoff]), if_pos hraw, hon]
  exact tryEndLoading_of_not_loading (.inl hloading)

/-- Of the blocks but line, roster and State Controller START entry is done once they are ready. -/
theorem startBegun_blocks (s : State) : (startBegun s).gauges = (startReady (wokenLine s)).gauges
    ∧ (startBegun s).telltale = (startReady (wokenLine s)).telltale
    ∧ (startBegun s).chime = (startReady (wokenLine s)).chime
    ∧ (startBegun s).readout = (startReady (wokenLine s)).readout
    ∧ (startBegun s).roster = (startRoster (startReady (wokenLine s))).roster := by
  have hperiodic : ∀ (kind : TxKind) (payload : List Byte) (t : State), kind.periodic = true →
      (placeFrame kind payload t).roster = t.roster := fun kind payload t hkind =>
    placeFrame_roster fun how u => reportLeaving_periodic hkind payload how u
  have hstatus : (enterStart (wokenLine s)).roster = (startRoster (startReady (wokenLine s))).roster := by
    rw [enterStart_eq, restartStatus, placeStatus, hperiodic _ _ _ rfl, State.setControl_roster]
  unfold startBegun
  split
  · refine ⟨by simp [enterStart_eq], by simp [enterStart_eq], by simp [enterStart_eq], by simp [enterStart_eq], ?_⟩
    rw [restartDistanceReport, placeDistanceReport, hperiodic _ _ _ rfl, State.setControl_roster, hstatus]
  · exact ⟨by simp [enterStart_eq], by simp [enterStart_eq], by simp [enterStart_eq], by simp [enterStart_eq], hstatus⟩

theorem startBegun_kept (s : State) : Kept ([.control, .line, .roster] ++ told) s (startBegun s) := by
  have hready : Kept ([.control, .line, .roster] ++ told) s (startReady (wokenLine s)) :=
    Kept.trans (Kept.mono (kept_wokenLine s) (by decide)) (Kept.mono (startReady_kept _).1 (by decide))
  refine Kept.trans hready fun b hb => ?_
  unfold startBegun
  cases b
  case control | line | roster | monitor | telltale | chime | readout | service | gauges =>
    exact absurd (by decide) hb
  all_goals
    simp only [agree]
    split <;> simp [enterStart_eq]

/-- The State Controller after START entry (R161, R163). -/
theorem startBegun_control (s : State) : (startBegun s).control = { s.control with
    part := .start, ready := false, afterRunDue := none, provingEnded := false
    startDone := Vector.replicate 6 false, statusPeriod := 100, statusDue := some (s.now + 100)
    distanceDue := if s.control.part = .sleep then some (s.now + 1000) else s.control.distanceDue } := by
  have hcontrol : (wokenLine s).control = s.control := kept_wokenLine s .control (by decide)
  have hnow : (wokenLine s).now = s.now := kept_wokenLine s .time (by decide)
  have hready := (startReady_kept (wokenLine s)).2.1
  have hstarted : (startReady (wokenLine s)).now = s.now :=
    ((startReady_kept (wokenLine s)).1 .time (by decide)).trans hnow
  have henter : (enterStart (wokenLine s)).control = { s.control with
      part := .start, ready := false, afterRunDue := none, provingEnded := false
      startDone := Vector.replicate 6 false, statusPeriod := 100, statusDue := some (s.now + 100) } := by
    rw [enterStart_eq, restartStatus, placeStatus]
    simp [hready, startControl, hcontrol, hstarted, statusFastMs]
  unfold startBegun
  split
  · rw [restartDistanceReport, placeDistanceReport]
    simp [henter, hnow, distanceReportMs]
  · exact henter

/-! ## The line -/

theorem restartDistanceReport_eq (s : State) : restartDistanceReport s = placeFrame .distanceReport
    (distancePayload s.distance.total s.distance.tripA)
    (s.setControl { s.control with distanceDue := some (s.now + distanceReportMs) }) := rfl

theorem withPeriodic_congr {s t : State} (h : t.tables = s.tables) (kind : TxKind) (payload : List Byte) (order : Nat)
    (q : List TxEntry) : withPeriodic t kind payload order q = withPeriodic s kind payload order q := by
  unfold withPeriodic waitingEntry
  rw [h]

theorem waitingEntry_congr {s t : State} (h : t.tables = s.tables) (kind : TxKind) (payload : List Byte) (order : Nat) :
    waitingEntry t kind payload order = waitingEntry s kind payload order := by
  unfold waitingEntry
  rw [h]

/-- START entry of the other blocks leaves the line. -/
theorem startReady_line (s : State) : (startReady s).line = s.line ∧ (startReady s).tables = s.tables
    ∧ (startReady s).monitor = s.monitor ∧ (startReady s).control = (startControl s).control := by
  obtain ⟨hkept, hcontrol, -⟩ := startReady_kept s
  exact ⟨hkept .line (by decide), hkept .tables (by decide), (startReady_readout s).2, hcontrol⟩

/-- In LISTEN-ONLY nothing is placed (R151). -/
theorem startBegun_listenOnly {s : State} (hlisten : s.line.state = .listenOnly) :
    (startBegun s).line = (wokenLine s).line := by
  obtain ⟨-, hstate, -⟩ := wokenLine_line s
  have hready := (startReady_line (wokenLine s)).1
  have hroster : (startRoster (startReady (wokenLine s))).line = (wokenLine s).line :=
    (startRoster_listenOnly (by rw [hready, hstate, hlisten])).trans hready
  have henter : (enterStart (wokenLine s)).line = (wokenLine s).line := by
    rw [enterStart_eq, restartStatus, placeStatus, placePeriodic_listenOnly rfl, State.setControl_line, hroster]
    rw [State.setControl_line, hroster, hstate, hlisten]
  unfold startBegun
  split
  · rw [restartDistanceReport, placeDistanceReport, placePeriodic_listenOnly rfl, State.setControl_line, henter]
    rw [State.setControl_line, henter, hstate, hlisten]
  · exact henter

theorem startBegun_settling {s : State} (hsleep : s.control.part = .sleep) : (startBegun s).line.settling = true := by
  have hsettling := (wokenLine_line s).2.2.2.2 hsleep
  have hready := (startReady_line (wokenLine s)).1
  have hroster : (startRoster (startReady (wokenLine s))).line.settling = true := by
    obtain ⟨u, v, hline, -, -, -, hv, hstart, -⟩ := startRoster_parts (startReady (wokenLine s))
    rw [hstart, hv]
    split
    · rw [hline, hready, hsettling]
    · rw [placeFrame_settling, hline, hready, hsettling]
  rw [startBegun, if_pos hsleep, restartDistanceReport, placeDistanceReport, placeFrame_settling,
    State.setControl_line, enterStart_eq, restartStatus, placeStatus, placeFrame_settling, State.setControl_line,
        hroster]

/-- The frames that START entry places, in their order: the PRESENCE, then the bulletin (R131, R136, R161). -/
theorem enterStart_placed {s : State} (hlisten : s.line.state ≠ .listenOnly) (hfallback : s.control.fallback = false) :
    ∃ status, bitField status 0 4 = partNumber .start ∧ bitFlag status 4 = false
      ∧ bitFlag status 5 = s.control.errorIndication ∧ bitFlag status 19 = false
      ∧ ∀ q1, q1 = (if s.line.queue.length < 8 then startedQueue s.line.quiet s.line.state
          (s.line.queue ++ [waitingEntry s .presence [0x13, 0x00] (s.line.lastOrder + 1)]) else s.line.queue) →
        PlacedAs (withPeriodic s .clusterStatus status (s.line.lastOrder + 1 + (q1.length - s.line.queue.length)) q1)
          ((if 8 ≤ s.line.queue.length then 1 else 0) + (if dropsPeriodic .clusterStatus q1 then 1 else 0))
          s (enterStart s) := by
  obtain ⟨hline, htables, hmonitor, hcontrol⟩ := startReady_line s
  obtain ⟨r, hr⟩ : ∃ r, r = startReady s := ⟨_, rfl⟩
  rw [← hr] at hline htables hmonitor hcontrol
  have hpresence := startRoster_placed (s := r) (by rwa [hline]) (by rw [hcontrol]; exact hfallback)
  rw [hline, waitingEntry_congr htables] at hpresence
  obtain ⟨c, hc⟩ : ∃ c, c = (startRoster r).setControl { (startRoster r).control with
      statusDue := some ((startRoster r).now + statusFastMs), statusPeriod := statusFastMs } := ⟨_, rfl⟩
  have hcensus : c.roster.censusComplete = false := by
    rw [hc, State.setControl_roster, startRoster_roster]
  have htablesC : c.tables = s.tables := by
    rw [hc]
    simp [htables]
  have henter : enterStart s = placeFrame .clusterStatus (statusPayload (statusFields c)) c := by
    rw [enterStart_eq, ← hr, restartStatus, ← hc, placeStatus]
  obtain ⟨hpart, hready, herror, hbit⟩ := statusPayload_bits (statusFields c)
  refine ⟨statusPayload (statusFields c), ?_, ?_, ?_, by rw [hbit, statusFields, hcensus], fun q1 hq1 => ?_⟩
  · rw [hpart]
    simp [statusFields, hc, hcontrol, startControl]
  · rw [hready]
    simp [statusFields, hc, hcontrol, startControl]
  · rw [herror]
    simp [statusFields, hc, hcontrol, startControl]
  rw [← hq1] at hpresence
  replace hpresence := hpresence.congr hline.symm hmonitor.symm (t' := c) (by rw [hc, State.setControl_line])
    (by rw [hc, State.setControl_monitor])
  have hstatus := placePeriodic_placed (kind := .clusterStatus) (payload := statusPayload (statusFields c)) (s := c) rfl
    (by rw [hpresence.state]; exact hlisten) hpresence.rests
  rw [hpresence.queue, hpresence.lastOrder, withPeriodic_congr htablesC, ← henter, Nat.add_right_comm] at hstatus
  exact hpresence.trans hstatus

/-- The distance report follows out of SLEEP (R163, R166). -/
theorem restartDistanceReport_placed {s : State} (hlisten : s.line.state ≠ .listenOnly) (hrests : lineRests s.line) :
    PlacedAs (withPeriodic s .distanceReport (distancePayload s.distance.total s.distance.tripA)
        (s.line.lastOrder + 1) s.line.queue)
      (if dropsPeriodic .distanceReport s.line.queue then 1 else 0) s (restartDistanceReport s) := by
  rw [restartDistanceReport_eq]
  obtain ⟨d, hd⟩ : ∃ d, d = s.setControl { s.control with distanceDue := some (s.now + distanceReportMs) } := ⟨_, rfl⟩
  have hline : d.line = s.line := by rw [hd, State.setControl_line]
  have hmonitor : d.monitor = s.monitor := by rw [hd, State.setControl_monitor]
  have htables : d.tables = s.tables := by rw [hd, State.setControl_tables]
  rw [← hd]
  have hplaced := placePeriodic_placed (kind := .distanceReport)
    (payload := distancePayload s.distance.total s.distance.tripA) (s := d) rfl (by rwa [hline]) (by rwa [hline])
  rw [hline, withPeriodic_congr htables] at hplaced
  exact hplaced.congr hline.symm hmonitor.symm rfl rfl

/-- The queue and the drops of a START entry that the ignition causes. -/
theorem startBegun_placed {s : State} (hlisten : s.line.state ≠ .listenOnly) (hfallback : s.control.fallback = false) :
    ∃ status, bitField status 0 4 = partNumber .start ∧ bitFlag status 4 = false
      ∧ bitFlag status 5 = s.control.errorIndication ∧ bitFlag status 19 = false
      ∧ ∀ q1 q2, q1 = (if (wokenQueue s).length < 8 then
          startedQueue (s.line.quiet && decide (s.control.part ≠ .sleep)) s.line.state
            (wokenQueue s ++ [waitingEntry s .presence [0x13, 0x00] (s.line.lastOrder + 1)]) else wokenQueue s) →
        q2 = withPeriodic s .clusterStatus status (s.line.lastOrder + 1 + (q1.length - (wokenQueue s).length)) q1 →
        (startBegun s).line.queue = (if s.control.part = .sleep then
            withPeriodic s .distanceReport (distancePayload s.distance.total s.distance.tripA)
              (s.line.lastOrder + 1 + (q2.length - (wokenQueue s).length)) q2
          else q2)
        ∧ (startBegun s).monitor[(9 : Fin 10)].raw
          = oneMore^[(if 8 ≤ (wokenQueue s).length then 1 else 0) + (if dropsPeriodic .clusterStatus q1 then 1 else 0)
            + (if decide (s.control.part = .sleep) && dropsPeriodic .distanceReport q2 then 1 else 0)]
          s.monitor[(9 : Fin 10)].raw := by
  obtain ⟨hqueue, hstate, horder, hquiet, -⟩ := wokenLine_line s
  have hwoken := kept_wokenLine s
  have hcontrol : (wokenLine s).control = s.control := hwoken .control (by decide)
  have htables : (wokenLine s).tables = s.tables := hwoken .tables (by decide)
  have hmonitor : (wokenLine s).monitor = s.monitor := hwoken .monitor (by decide)
  have hdistance : (wokenLine s).distance = s.distance := hwoken .distance (by decide)
  obtain ⟨status, hpart, hready, herror, hcensus, hplaced⟩ := enterStart_placed (s := wokenLine s) (by rwa [hstate])
    (by rwa [hcontrol])
  rw [hcontrol] at herror
  rw [hqueue, hstate, horder, hquiet, waitingEntry_congr htables] at hplaced
  refine ⟨status, hpart, hready, herror, hcensus, fun q1 q2 hq1 hq2 => ?_⟩
  have henter := hplaced q1 hq1
  rw [withPeriodic_congr htables, ← hq2] at henter
  by_cases hsleep : s.control.part = .sleep
  · obtain ⟨-, htables', -, -, hdistance', -⟩ := enterStart_frame (wokenLine s)
    have hreport := restartDistanceReport_placed (s := enterStart (wokenLine s))
      (by rw [henter.state, hstate]; exact hlisten) henter.rests
    rw [henter.queue, henter.lastOrder, hqueue, horder, hdistance', hdistance, Nat.add_right_comm,
      withPeriodic_congr (htables'.trans htables)] at hreport
    rw [startBegun, if_pos hsleep, if_pos hsleep, hreport.queue, (henter.trans hreport).drops, hmonitor,
      decide_eq_true hsleep, Bool.true_and]
    exact ⟨rfl, rfl⟩
  · rw [startBegun, if_neg hsleep, if_neg hsleep, henter.queue, henter.drops, hmonitor, decide_eq_false hsleep]
    exact ⟨rfl, rfl⟩

end Sys2Proof.Proofs

/-! Proofs. O26 assembled: START entry to the end of the command. -/

namespace Sys2Proof.Proofs

open Sys2Proof Sys2Proof.Machine Sys2Proof.Claims

/-- In START a proving under way allows no posting, and the chime list is empty (R55, R75). -/
theorem startBegun_unposting (s : State) : Unposting (startBegun s) ∧ sleepReady (startBegun s) = false := by
  obtain ⟨-, htelltale, hchime, -, -⟩ := startBegun_blocks s
  have hpart := congrArg Control.part (startBegun_control s)
  refine ⟨⟨?_, ?_⟩, ?_⟩
  · rw [postingAllowed, hpart, htelltale, (startReady_telltale _).1]
    rfl
  · rw [hchime, (startReady_kept _).2.2]
  · rw [sleepReady, hpart]
    rfl

theorem wokenLine_readout (s : State) : (wokenLine s).readout = s.readout := by
  unfold wokenLine
  split
  · simp
  · rfl

/-- The readout after START entry: no pop-up of it follows its cause, so no report touches them (R82, R86). -/
theorem startBegun_readout (s : State) : readoutCore (finish (startBegun s)).readout = readoutCore { s.readout with
    windowDue := none, page := homePage s.tables
    queue := (admittedQueue (startPosts s)).1, lastOrder := (admittedQueue (startPosts s)).2 } := by
  obtain ⟨hunposting, hawake⟩ := startBegun_unposting s
  have hwoken := kept_wokenLine s
  have hcontrol : (wokenLine s).control = s.control := hwoken .control (by decide)
  have hstore : (wokenLine s).store = s.store := hwoken .store (by decide)
  have hdriver : (wokenLine s).driver = s.driver := hwoken .driver (by decide)
  have htables : (wokenLine s).tables = s.tables := hwoken .tables (by decide)
  have hposts : startPosts (wokenLine s) = startPosts s := by rw [startPosts, hcontrol, hstore, hdriver, ← startPosts]
  have hreadout := (startBegun_blocks s).2.2.2.1.trans (startReady_readout (wokenLine s)).1
  rw [hposts, htables] at hreadout
  obtain ⟨hkeys, -⟩ := admittedQueue_spec _ (startPosts_mem s)
  have hlatched : ∀ e ∈ (admittedQueue (startPosts s)).1, e.nonLatched = false := by
    intro e he
    have hmem := List.mem_map_of_mem (f := fun e : PopupEntry => (e.message, e.cls, e.nonLatched)) he
    rw [hkeys] at hmem
    obtain ⟨x, -, hx⟩ := List.mem_map.mp hmem
    simp only [Prod.mk.injEq] at hx
    exact hx.2.2.symm
  rw [(reportsUnposted_finish hunposting hawake).popups (by rw [hreadout]; exact hlatched), hreadout]
  rw [wokenLine_readout]

/-- The roster after START entry (R131, R136). -/
theorem startBegun_roster (s : State) : ∃ reply, (finish (startBegun s)).roster = { s.roster with
      entries := s.roster.entries.map RosterEntry.restart, censusComplete := false
      censusDue := some (s.now + 1500), reply := reply }
    ∧ (s.roster.reply ≠ .queued → reply = .none)
    ∧ (s.roster.reply = .queued → s.control.part ≠ .sleep ∨ s.line.sleepPending = false → reply = .queued) := by
  obtain ⟨-, hawake⟩ := startBegun_unposting s
  obtain ⟨reply, hroster, hkept, hstays⟩ := wokenLine_roster s
  have hready : (startReady (wokenLine s)).roster = (wokenLine s).roster :=
    (startReady_kept _).1 .roster (by decide)
  have hnow : (startReady (wokenLine s)).now = s.now :=
    ((startReady_kept _).1 .time (by decide)).trans (kept_wokenLine s .time (by decide))
  refine ⟨if reply = .queued then .queued else .none, ?_, fun h => ?_, fun h hawakened => ?_⟩
  · rw [(finish_awake_frame hawake).2.2, (startBegun_blocks s).2.2.2.2, startRoster_roster, hready, hnow, hroster]
  · rw [hkept h, if_neg h]
  · rw [hstays hawakened, if_pos h]

/-- START entry at the end of its command. -/
theorem startEntered_finish {s v : State} (hv : Kept [.control] s v) : StartEntered s (finish (startBegun v)) := by
  have hnow : v.now = s.now := hv .time (by decide)
  have htables : v.tables = s.tables := hv .tables (by decide)
  have hrosterV : v.roster = s.roster := hv .roster (by decide)
  obtain ⟨hunposting, hawake⟩ := startBegun_unposting v
  have hreports := reportsUnposted_finish hunposting hawake
  obtain ⟨hgauges, htelltale, hchime, -, -⟩ := startBegun_blocks v
  obtain ⟨hgrace, hchannels⟩ := startReady_gauges (wokenLine v)
  obtain ⟨hproving, hloads, hlamps⟩ := startReady_telltale (wokenLine v)
  have hwokenNow : (wokenLine v).now = s.now := (kept_wokenLine v .time (by decide)).trans hnow
  have hrecord : ∀ g, gaugeRecord (wokenLine v) g = gaugeRecord s g :=
    gaugeRecord_congr ((kept_wokenLine v .tables (by decide)).trans htables)
  rw [hwokenNow] at hgrace hproving
  have hstarted : ∀ g, channelOf (startBegun v) g
      = startedChannel (gaugeRecord s g) s.now (channelOf (wokenLine v) g) := fun g => by
    rw [channelOf_of_gauges hgauges g, hchannels g, hrecord g, hwokenNow]
  rw [← htelltale] at hproving hloads hlamps
  obtain ⟨reply, hroster, hreply, -⟩ := startBegun_roster v
  rw [hrosterV, hnow] at hroster
  rw [hrosterV] at hreply
  have hfree : lampsFree (startBegun v) := by
    intro l hl
    rw [hlamps l hl]
    split <;> simp
  have hwindow := congrArg Readout.windowDue (startBegun_readout v)
  exact {
    grace := by rw [finish_grace, hgauges, hgrace]
    channels := fun g henabled => by
      obtain ⟨-, hhoming⟩ := startedChannel_items (gaugeRecord s g) s.now (channelOf (wokenLine v) g)
      have hstate := hhoming henabled
      rw [← hstarted g] at hstate
      rw [channelOf_finish hawake (by rw [hstate.1]; simp)]
      exact hstate
    bands := fun g i => by
      rw [(toldKeeps_finish hawake).bands g, hstarted g]
      exact (startedChannel_items _ _ _).1 i
    proving := hreports.proving.trans hproving
    lamps := forall_of_lampStates (P := fun _ proved state => state = if proved then .proving else .showing)
      (lampStates_finish hfree) hlamps
    loads := fun o => by
      rw [hreports.loads, hloads]
      simp
    chimes := by
      rw [hreports.chime, hchime, (startReady_kept _).2.2]
      exact ⟨rfl, rfl⟩
    page := by
      rw [hreports.page, (startBegun_blocks v).2.2.2.1, (startReady_readout _).1]
      refine ⟨?_, hwindow⟩
      rw [show (wokenLine v).tables = s.tables from (kept_wokenLine v .tables (by decide)).trans htables]
    census := by
      rw [hroster]
      exact ⟨rfl, rfl⟩
    unlisted := by rw [hroster]
    entries := by
      rw [hroster]
      rfl
    reply := fun h => by
      rw [hroster]
      exact hreply h }

/-- The pop-ups at the end of the command. -/
theorem startBegun_popups (s : State) :
    (finish (startBegun s)).readout.queue = (admittedQueue (startPosts s)).1
      ∧ (finish (startBegun s)).readout.lastOrder = (admittedQueue (startPosts s)).2 := by
  have hqueue := congrArg Readout.queue (startBegun_readout s)
  have horder := congrArg Readout.lastOrder (startBegun_readout s)
  exact ⟨hqueue, horder⟩

/-- The line at the end of the command. -/
theorem startBegun_line (s : State) : (finish (startBegun s)).line = (startBegun s).line
    ∧ (finish (startBegun s)).monitor = (startBegun s).monitor := by
  obtain ⟨hunposting, hawake⟩ := startBegun_unposting s
  exact ⟨(finish_awake_frame hawake).2.1, (reportsUnposted_finish hunposting hawake).monitor⟩

/-- Settles O26: START entry block by block, then the reports of the command, which find nothing to post. -/
theorem ignitionOnEntersStart : Obligations.IgnitionOnEntersStart := by
  intro s d hdue hraw hoff hpart
  have hon := debounceIgnition_on (s := s.setReports []) hraw hoff hpart
  obtain ⟨v, hv⟩ : ∃ v, v = (s.setReports []).setControl (levelTaken s.control) := ⟨_, rfl⟩
  have hkept : Kept [.control] s v :=
    hv ▸ Kept.trans (kept_setReports _ s []) (kept_setControl (s.setReports []) (levelTaken s.control))
  have hlevel : v.control = levelTaken s.control := by rw [hv, State.setControl_control]
  rw [exec_ignitionDebounce hdue, hon, State.setReports_control, ← hv]
  clear hv hon
  have hpartV : v.control.part = s.control.part := by rw [hlevel, levelTaken]
  have hfallbackV : v.control.fallback = s.control.fallback := by rw [hlevel, levelTaken]
  have hnow : v.now = s.now := hkept .time (by decide)
  have hline : v.line = s.line := hkept .line (by decide)
  have htables : v.tables = s.tables := hkept .tables (by decide)
  have hdistance : v.distance = s.distance := hkept .distance (by decide)
  have hmonitor : v.monitor = s.monitor := hkept .monitor (by decide)
  have hrosterV : v.roster = s.roster := hkept .roster (by decide)
  have hposts : startPosts v = startPosts s := by
    rw [startPosts, hfallbackV, show v.store = s.store from hkept .store (by decide),
      show v.driver = s.driver from hkept .driver (by decide), ← startPosts]
  obtain ⟨-, hawake⟩ := startBegun_unposting v
  have hcontrol := (finish_awake_frame hawake).1.trans (startBegun_control v)
  rw [hpartV, hnow, hlevel] at hcontrol
  obtain ⟨hqueue, horder⟩ := startBegun_popups v
  rw [hposts] at hqueue horder
  obtain ⟨hkeys, horders, hlast, hshown⟩ := admittedQueue_spec _ (startPosts_mem s)
  obtain ⟨hfinalLine, hfinalMonitor⟩ := startBegun_line v
  obtain ⟨reply, hroster, -, hqueued⟩ := startBegun_roster v
  rw [hrosterV, hpartV, hline] at hqueued
  have hwokenQueue : wokenQueue v = if s.control.part = .sleep ∧ s.line.sleepPending = true then
      s.line.queue.filter (fun e => e.state == .inTransmission) else s.line.queue := by
    rw [wokenQueue, hpartV, hline]
  refine ⟨finish (startBegun v), rfl, by rw [hcontrol], by rw [hcontrol], by rw [hcontrol]; exact hraw,
    by rw [hcontrol]; rfl, by rw [hcontrol], by rw [hcontrol], by rw [hcontrol], by rw [hcontrol]; rfl,
    by rw [hcontrol]; rfl, by rw [hcontrol]; rfl, fun hsleep => ?_, startEntered_finish hkept, by rw [hqueue, hkeys],
    by rw [hqueue, horders], by rw [horder, hlast], by rw [hqueue]; exact hshown, fun h hawakened => ?_,
    fun q hq => ⟨fun hlisten => ?_, fun hlisten hfallback => ?_⟩, ?_⟩
  · rw [hfinalLine]
    exact startBegun_settling (hpartV.trans hsleep)
  · rw [hroster]
    exact hqueued h hawakened
  · obtain ⟨hwoken, -, hwokenOrder, -, -⟩ := wokenLine_line v
    rw [hfinalLine, startBegun_listenOnly (by rwa [hline]), hwoken, hwokenOrder, hwokenQueue, hq, hline]
    exact ⟨rfl, rfl⟩
  · obtain ⟨status, hstatusPart, hready, herror, hcensus, hplaced⟩ :=
      startBegun_placed (s := v) (by rwa [hline]) (by rwa [hfallbackV])
    rw [hwokenQueue, ← hq, hline, hpartV, hdistance, hmonitor, waitingEntry_congr htables] at hplaced
    rw [hlevel] at herror
    refine ⟨status, hstatusPart, hready, herror, hcensus, fun q1 q2 hq1 hq2 => ?_⟩
    obtain ⟨hplacedQueue, hdrops⟩ := hplaced q1 q2 hq1 (by rw [withPeriodic_congr htables]; exact hq2)
    rw [withPeriodic_congr htables] at hplacedQueue
    rw [hfinalLine, hfinalMonitor, hdrops]
    exact ⟨hplacedQueue, le_rfl⟩
  · exact kept_finish_told (Kept.trans (Kept.mono hkept (by decide)) (startBegun_kept v)) (by decide) hawake

end Sys2Proof.Proofs

/-! Proofs. The chime list under its operations: the selection among its entries (R69 to R74). -/

namespace Sys2Proof.Proofs

open Sys2Proof Sys2Proof.Machine Sys2Proof.Claims

/-! ## Standing in the list -/

/-- `a` stands at or before `b` in the order of selection (R70): its group is higher, or the same and `a` no younger. -/
def chimeLeads (a b : ChimeEntry) : Prop :=
  b.group.rank < a.group.rank ∨ b.group = a.group ∧ a.order ≤ b.order

/-- `a` stands at or before `b`, or `b` is of the group just posted and no older: what holds between a SOUNDING entry
and the others from a posting of group `g` to the preemption (R69, R71). -/
def chimeLeadsOrPosted (g : Grade) (a b : ChimeEntry) : Prop :=
  chimeLeads a b ∨ b.group = g ∧ a.order ≤ b.order

theorem grade_eq_of_rank_eq {a b : Grade} (h : a.rank = b.rank) : a = b := by
  revert h
  cases a <;> cases b <;> decide

theorem chimeLeads_refl (a : ChimeEntry) : chimeLeads a a := .inr ⟨rfl, le_rfl⟩

theorem chimeLeads_trans {a b c : ChimeEntry} (hab : chimeLeads a b) (hbc : chimeLeads b c) : chimeLeads a c := by
  rcases hab with hab | ⟨hab, horder⟩ <;> rcases hbc with hbc | ⟨hbc, horder'⟩
  · exact .inl (hbc.trans hab)
  · exact .inl (by rwa [hbc])
  · exact .inl (by rwa [← hab])
  · exact .inr ⟨hbc.trans hab, horder.trans horder'⟩

theorem chimeLeads_of_ahead {a b : ChimeEntry} (h : a.ahead b = true) : chimeLeads a b := by
  simp only [ChimeEntry.ahead, Bool.or_eq_true, Bool.and_eq_true, decide_eq_true_eq] at h
  exact h.imp_right fun ⟨hgroup, horder⟩ => ⟨hgroup.symm, horder.le⟩

theorem chimeLeads_of_not_ahead {a b : ChimeEntry} (h : a.ahead b = false) : chimeLeads b a := by
  simp only [ChimeEntry.ahead, Bool.or_eq_false_iff, Bool.and_eq_false_iff, decide_eq_false_iff_not, not_lt] at h
  obtain ⟨hrank, horder⟩ := h
  rcases hrank.lt_or_eq with hlt | heq
  · exact .inl hlt
  · have hgroup := grade_eq_of_rank_eq heq
    exact .inr ⟨hgroup, horder.resolve_left fun h => h hgroup⟩

/-- An entry competes where it SOUNDS or can be chosen (R70). -/
theorem competes_iff (e : ChimeEntry) : e.competes = true ↔ e.state = .sounding ∨ e.selectable = true := by
  unfold ChimeEntry.competes ChimeEntry.selectable
  cases e.state <;> simp

/-- Where none is chosen, none can be (R70). -/
theorem chosenChime_none {es : List ChimeEntry} (h : chosenChime es = none) : ∀ f ∈ es, f.selectable = false := by
  induction es with
  | nil => simp
  | cons e es ih =>
    simp only [chosenChime] at h
    split at h
    · split at h
      · split at h <;> cases h
      · cases h
    · next he => exact List.forall_mem_cons.mpr ⟨by simpa using he, ih h⟩

/-- The entry chosen can be chosen, and stands before all that can (R70). -/
theorem chosenChime_leads {es : List ChimeEntry} {m : ChimeEntry} (h : chosenChime es = some m) :
    m ∈ es ∧ m.selectable = true ∧ ∀ f ∈ es, f.selectable = true → chimeLeads m f := by
  induction es generalizing m with
  | nil => cases h
  | cons e es ih =>
    simp only [chosenChime] at h
    split at h
    · next he =>
      split at h
      · next n hn =>
        obtain ⟨hmem, hsel, hlead⟩ := ih hn
        split at h <;> cases h
        · next hahead =>
          refine ⟨List.mem_cons_of_mem _ hmem, hsel, List.forall_mem_cons.mpr ⟨fun _ => ?_, hlead⟩⟩
          exact chimeLeads_of_ahead hahead
        · next hahead =>
          have hfirst : chimeLeads e n := chimeLeads_of_not_ahead (by simpa using hahead)
          refine ⟨List.mem_cons_self, he, List.forall_mem_cons.mpr ⟨fun _ => chimeLeads_refl e, fun f hf hfs => ?_⟩⟩
          exact chimeLeads_trans hfirst (hlead f hf hfs)
      · next hn =>
        cases h
        refine ⟨List.mem_cons_self, he, List.forall_mem_cons.mpr ⟨fun _ => chimeLeads_refl e, fun f hf hfs => ?_⟩⟩
        exact absurd hfs (by simp [chosenChime_none hn f hf])
    · next he =>
      obtain ⟨hmem, hsel, hlead⟩ := ih h
      exact ⟨List.mem_cons_of_mem _ hmem, hsel, List.forall_mem_cons.mpr ⟨fun k => absurd k he, hlead⟩⟩

/-! ## Lists to which a selection gives the law -/

/-- The law of the chime list but for what a selection sees to: each SOUNDING entry stands to those that compete as
`led` says, and the pattern timer runs while one SOUNDS. -/
structure ChimesUnder (led : ChimeEntry → ChimeEntry → Prop) (c : Chime) : Prop where
  room : c.entries.length ≤ 16
  ids : (c.entries.map (fun e => e.id)).Nodup
  orders : ∀ e ∈ c.entries, e.order ≤ c.lastOrder
  one : (c.entries.filter (fun e => e.state == .sounding)).length ≤ 1
  led : ∀ e ∈ c.entries, e.state = .sounding → ∀ f ∈ c.entries, f.competes = true → led e f
  timed : ∀ e ∈ c.entries, e.state = .sounding → c.phaseDue.isSome = true

theorem chimesUnder_of_lawful {c : Chime} (h : chimesLawful c) : ChimesUnder chimeLeads c := by
  obtain ⟨hroom, hids, horders, hone, -, hled, htimed⟩ := h
  exact ⟨hroom, hids, horders, hone, hled, fun e he hsounds => htimed.mpr ⟨e, he, hsounds⟩⟩

/-- Entries may leave the list. -/
theorem ChimesUnder.sublist {led : ChimeEntry → ChimeEntry → Prop} {c : Chime} (h : ChimesUnder led c)
    {es : List ChimeEntry} (hes : es.Sublist c.entries) : ChimesUnder led { c with entries := es } where
  room := hes.length_le.trans h.room
  ids := h.ids.sublist (hes.map _)
  orders e he := h.orders e (hes.subset he)
  one := (hes.filter _).length_le.trans h.one
  led e he hsounds f hf := h.led e (hes.subset he) hsounds f (hes.subset hf)
  timed e he := h.timed e (hes.subset he)

/-- Entries may change where none begins to SOUND. -/
theorem ChimesUnder.map {led led' : ChimeEntry → ChimeEntry → Prop} {c : Chime} (h : ChimesUnder led c)
    (g : ChimeEntry → ChimeEntry) (n : Nat) (hid : ∀ e ∈ c.entries, (g e).id = e.id)
    (horder : ∀ e ∈ c.entries, (g e).order ≤ n)
    (hsounds : ∀ e, (g e).state = .sounding → e.state = .sounding)
    (hled : ∀ e ∈ c.entries, (g e).state = .sounding → ∀ f ∈ c.entries, (g f).competes = true → led' (g e) (g f)) :
    ChimesUnder led' { c with entries := c.entries.map g, lastOrder := n } where
  room := by simpa using h.room
  ids := by
    rw [List.map_map, List.map_congr_left (g := fun e => e.id) hid]
    exact h.ids
  orders := List.forall_mem_map.mpr horder
  one := by
    have hcount : c.entries.countP (fun e => (g e).state == .sounding)
        ≤ c.entries.countP (fun e => e.state == .sounding) :=
      List.countP_mono_left fun e _ k => by simpa using hsounds e (by simpa using k)
    rw [← List.countP_eq_length_filter, List.countP_map]
    exact hcount.trans (by simpa [List.countP_eq_length_filter] using h.one)
  led := List.forall_mem_map.mpr fun e he k => List.forall_mem_map.mpr (hled e he k)
  timed := List.forall_mem_map.mpr fun e he k => h.timed e he (hsounds e k)

/-- A new entry waits at the end of the list. -/
theorem ChimesUnder.append {c : Chime} (h : ChimesUnder chimeLeads c) {id : ChimeId} (g : Grade)
    (hroom : c.entries.length < 16) (hid : ∀ e ∈ c.entries, e.id ≠ id) :
    ChimesUnder (chimeLeadsOrPosted g)
      { c with entries := c.entries ++ [newChime id g (c.lastOrder + 1)], lastOrder := c.lastOrder + 1 } where
  room := by simpa using hroom
  ids := by
    rw [List.map_append, List.nodup_append]
    refine ⟨h.ids, by simp, ?_⟩
    simpa [newChime] using fun e he => hid e he
  orders := by
    simp only [List.forall_mem_append, List.forall_mem_singleton]
    exact ⟨fun e he => (h.orders e he).trans (Nat.le_succ _), le_rfl⟩
  one := by simpa [newChime] using h.one
  led := by
    simp only [List.forall_mem_append, List.forall_mem_singleton]
    refine ⟨fun e he k => ⟨fun f hf hc => .inl (h.led e he k f hf hc), fun _ => .inr ⟨rfl, ?_⟩⟩, fun k => ?_⟩
    · exact (h.orders e he).trans (Nat.le_succ _)
    · simp [newChime] at k
  timed := by
    simp only [List.forall_mem_append, List.forall_mem_singleton]
    exact ⟨h.timed, by simp [newChime]⟩

/-- An entry is armed again with the next order. -/
theorem ChimesUnder.rearm {c : Chime} (h : ChimesUnder chimeLeads c) (id : ChimeId) (g : Grade) :
    ChimesUnder (chimeLeadsOrPosted g)
      { c with
        entries := c.entries.map (fun e => if e.id = id then newChime id g (c.lastOrder + 1) else e)
        lastOrder := c.lastOrder + 1 } := by
  refine h.map _ _ (fun e _ => ?_) (fun e he => ?_) (fun e k => ?_) (fun e he k f hf hc => ?_)
  · split
    · next hid => exact hid.symm
    · rfl
  · split
    · exact le_rfl
    · exact (h.orders e he).trans (Nat.le_succ _)
  · split at k
    · simp [newChime] at k
    · exact k
  · split at k
    · simp [newChime] at k
    · next hide =>
      rw [if_neg hide]
      split at hc
      · next hidf =>
        rw [if_pos hidf]
        exact .inr ⟨rfl, (h.orders e he).trans (Nat.le_succ _)⟩
      · next hidf =>
        rw [if_neg hidf]
        exact .inl (h.led e he k f hf hc)

/-- What SOUNDS after a preemption SOUNDED before it, and its group is not below the posted one (R71). -/
theorem mem_preemptChime_sounding {g : Grade} {es : List ChimeEntry} {e : ChimeEntry} (he : e ∈ preemptChime g es)
    (hsounds : e.state = .sounding) : e ∈ es ∧ g.rank ≤ e.group.rank := by
  obtain ⟨x, hx, rfl⟩ := List.mem_map.mp he
  split at hsounds
  · cases hsounds
  · next hno =>
    rw [if_neg hno]
    exact ⟨List.mem_of_mem_filter hx, not_lt.mp fun hlt => hno ⟨hsounds, hlt⟩⟩

/-- A preemption puts the SOUNDING entry of a list with a posting in its place again (R71). -/
theorem ChimesUnder.preempt {g : Grade} {c : Chime} (h : ChimesUnder (chimeLeadsOrPosted g) c) :
    ChimesUnder chimeLeads { c with entries := preemptChime g c.entries } := by
  have hleft := h.sublist (List.filter_sublist (l := c.entries)
    (p := fun e => !(e.state == .sounding && e.group == .notice && decide (e.group.rank < g.rank))))
  refine hleft.map _ c.lastOrder (fun e _ => ?_) (fun e he => ?_) (fun e k => ?_) (fun e he k f hf hc => ?_)
  · split <;> rfl
  · split <;> exact hleft.orders e he
  · split at k
    · cases k
    · exact k
  · split at k
    · cases k
    · next hno =>
      have hrank : g.rank ≤ e.group.rank := not_lt.mp fun hlt => hno ⟨k, hlt⟩
      have hcompetes : f.competes = true := by
        split at hc
        · next hf' => exact (competes_iff f).mpr (.inl hf'.1)
        · exact hc
      have hleads : chimeLeads e f := by
        rcases hleft.led e he k f hf hcompetes with hleads | ⟨rfl, horder⟩
        · exact hleads
        · exact hrank.lt_or_eq.imp id fun heq => ⟨grade_eq_of_rank_eq heq, horder⟩
      rw [if_neg hno]
      split <;> exact hleads

/-! ## The selection -/

/-- What a selection can do (R70): nothing where an entry SOUNDS, else start the entry chosen, or stop the timer. -/
theorem selectChime_cases (now : Nat) (c : Chime) :
    (∃ e ∈ c.entries, e.state = .sounding) ∧ selectChime now c = c
    ∨ (∀ e ∈ c.entries, e.state ≠ .sounding) ∧
      ((∃ m, chosenChime c.entries = some m ∧ selectChime now c
          = { c with entries := putChimeState m.id .sounding c.entries, phase := 0,
                     phaseDue := some (now + chimePhaseMs m.group 0) })
        ∨ chosenChime c.entries = none ∧ selectChime now c = { c with phase := 0, phaseDue := none }) := by
  unfold selectChime soundingEntry
  split
  · next h =>
    obtain ⟨e, he, hsounds⟩ := List.find?_isSome.mp h
    exact .inl ⟨⟨e, he, by simpa using hsounds⟩, rfl⟩
  · next h =>
    refine .inr ⟨fun e he k => h (List.find?_isSome.mpr ⟨e, he, by simpa using k⟩), ?_⟩
    split
    · next m hm => exact .inl ⟨m, hm, rfl⟩
    · next hm => exact .inr ⟨hm, rfl⟩

/-- The entry that a selection starts: it alone SOUNDS. -/
theorem mem_putChimeState_sounding {es : List ChimeEntry} {m e : ChimeEntry}
    (hids : (es.map (fun e => e.id)).Nodup) (hm : m ∈ es) (hnone : ∀ e ∈ es, e.state ≠ .sounding) :
    (e ∈ putChimeState m.id .sounding es ∧ e.state = .sounding) ↔ e = { m with state := .sounding } := by
  constructor
  · rintro ⟨he, hsounds⟩
    obtain ⟨x, hx, rfl⟩ := List.mem_map.mp he
    split at hsounds
    · next hid =>
      rw [if_pos hid, List.inj_on_of_nodup_map hids hx hm hid]
    · exact absurd hsounds (hnone x hx)
  · rintro rfl
    exact ⟨List.mem_map.mpr ⟨m, hm, if_pos rfl⟩, rfl⟩

/-- Where none SOUNDS, the entry chosen leads every entry that competes once it is started (R70). -/
theorem chosenChime_leads_put {c : Chime} {m f : ChimeEntry} (h : ChimesUnder chimeLeads c)
    (hnone : ∀ e ∈ c.entries, e.state ≠ .sounding) (hm : chosenChime c.entries = some m)
    (hf : f ∈ putChimeState m.id .sounding c.entries) (hcompetes : f.competes = true) : chimeLeads m f := by
  obtain ⟨hmem, -, hleads⟩ := chosenChime_leads hm
  obtain ⟨x, hx, rfl⟩ := List.mem_map.mp hf
  by_cases hid : x.id = m.id
  · rw [if_pos hid, List.inj_on_of_nodup_map h.ids hx hmem hid]
    exact chimeLeads_refl m
  · rw [if_neg hid] at hcompetes ⊢
    exact hleads x hx (((competes_iff x).mp hcompetes).resolve_left (hnone x hx))

/-- A selection gives the list its law. -/
theorem selectChime_lawful {c : Chime} (h : ChimesUnder chimeLeads c) (now : Nat) :
    chimesLawful (selectChime now c) := by
  have hids : ((selectChime now c).entries.map (fun e => e.id)).Nodup := by
    rw [selectChime_ids]
    exact h.ids
  rcases selectChime_cases now c with ⟨⟨e, he, hsounds⟩, heq⟩ | ⟨hnone, ⟨m, hm, heq⟩ | ⟨hm, heq⟩⟩ <;>
    rw [heq] at hids ⊢
  · exact ⟨h.room, hids, h.orders, h.one, fun _ => ⟨e, he, hsounds⟩, h.led,
      fun _ => ⟨e, he, hsounds⟩, fun ⟨x, hx, k⟩ => h.timed x hx k⟩
  · have hmem := (chosenChime_leads hm).1
    have hput := fun e => mem_putChimeState_sounding (e := e) h.ids hmem hnone
    obtain ⟨hstarted, hsounds⟩ := (hput _).mpr rfl
    refine ⟨?_, hids, List.forall_mem_map.mpr fun e he => ?_, ?_, fun _ => ⟨_, hstarted, hsounds⟩,
      fun e he k f hf hcompetes => ?_, fun _ => ⟨_, hstarted, hsounds⟩, fun _ => rfl⟩
    · exact (List.length_map _).trans_le h.room
    · split <;> exact h.orders e he
    · have hsub : (putChimeState m.id .sounding c.entries).filter (fun e => e.state == .sounding)
          ⊆ [{ m with state := .sounding }] := fun e he => by
        obtain ⟨he, k⟩ := List.mem_filter.mp he
        exact List.mem_singleton.mpr ((hput e).mp ⟨he, by simpa using k⟩)
      exact (List.subperm_of_subset (hids.of_map.filter _) hsub).length_le
    · rw [(hput e).mp ⟨he, k⟩]
      exact (chosenChime_leads_put h hnone hm hf hcompetes : chimeLeads m f)
  · have hquiet : ∀ f ∈ c.entries, ¬ f.competes = true := fun f hf hcompetes =>
      ((competes_iff f).mp hcompetes).elim (hnone f hf) (by simp [chosenChime_none hm f hf])
    exact ⟨h.room, hids, h.orders, h.one, fun ⟨f, hf, k⟩ => absurd k (hquiet f hf),
      fun e he k => absurd k (hnone e he), fun k => by simp at k, fun ⟨e, he, k⟩ => absurd k (hnone e he)⟩

/-! ## What an operation leaves SOUNDING -/

/-- The entry stands at the first beep of its pattern, begun at the moment `now` (R68). -/
def firstBeep (now : Nat) (c : Chime) (e : ChimeEntry) : Prop :=
  c.phase = 0 ∧ c.phaseDue = some (now + chimePhaseMs e.group 0)

/-- From `c` to `d` at the moment `now`: the law holds, and an entry that SOUNDS did so before, its pattern where it
was, or has been selected. -/
structure ChimeFollows (now : Nat) (c d : Chime) : Prop where
  lawful : chimesLawful d
  sounding : ∀ e ∈ d.entries, e.state = .sounding →
    (e ∈ c.entries ∧ d.phase = c.phase ∧ d.phaseDue = c.phaseDue) ∨ firstBeep now d e

theorem chimeFollows_refl {c : Chime} (h : chimesLawful c) (now : Nat) : ChimeFollows now c c :=
  ⟨h, fun _ he _ => .inl ⟨he, rfl, rfl⟩⟩

/-- A selection among entries of which none has begun to SOUND. -/
theorem selectChime_follows {c d : Chime} (h : ChimesUnder chimeLeads d) (hphase : d.phase = c.phase)
    (hdue : d.phaseDue = c.phaseDue) (hsounds : ∀ e ∈ d.entries, e.state = .sounding → e ∈ c.entries) (now : Nat) :
    ChimeFollows now c (selectChime now d) := by
  refine ⟨selectChime_lawful h now, fun e he k => ?_⟩
  rcases selectChime_cases now d with ⟨-, heq⟩ | ⟨hnone, ⟨m, hm, heq⟩ | ⟨-, heq⟩⟩ <;> rw [heq] at he ⊢
  · exact .inl ⟨hsounds e he k, hphase, hdue⟩
  · obtain rfl := (mem_putChimeState_sounding h.ids (chosenChime_leads hm).1 hnone).mp ⟨he, k⟩
    exact .inr ⟨rfl, rfl⟩
  · exact absurd k (hnone e he)

/-- A preemption and a selection after a posting. -/
theorem settleChime_follows {c d : Chime} {g : Grade} (h : ChimesUnder (chimeLeadsOrPosted g) d)
    (hphase : d.phase = c.phase) (hdue : d.phaseDue = c.phaseDue)
    (hsounds : ∀ e ∈ d.entries, e.state = .sounding → e ∈ c.entries) (now : Nat) :
    ChimeFollows now c (settleChime now g d) :=
  selectChime_follows h.preempt hphase hdue
    (fun e he k => hsounds e (mem_preemptChime_sounding he k).1 k) now

/-! ## Postings -/

theorem lowestGroup_mem {es : List ChimeEntry} (h : es ≠ []) : ∃ e ∈ es, e.group.rank = lowestGroup es := by
  induction es with
  | nil => exact absurd rfl h
  | cons e es ih =>
    by_cases hes : es = []
    · subst hes
      refine ⟨e, List.mem_cons_self, ?_⟩
      cases hg : e.group <;> simp [lowestGroup, Grade.rank, hg]
    · obtain ⟨x, hx, hrank⟩ := ih hes
      rw [lowestGroup, ← hrank]
      rcases min_choice e.group.rank x.group.rank with hmin | hmin <;> rw [hmin]
      · exact ⟨e, List.mem_cons_self, rfl⟩
      · exact ⟨x, List.mem_cons_of_mem _ hx, rfl⟩

theorem newestOfGroup_eq_zero {rank : Nat} {es : List ChimeEntry} (h : ∀ e ∈ es, e.group.rank ≠ rank) :
    newestOfGroup rank es = 0 := by
  induction es with
  | nil => rfl
  | cons e es ih =>
    rw [newestOfGroup, if_neg (h e List.mem_cons_self)]
    exact ih fun x hx => h x (List.mem_cons_of_mem _ hx)

theorem newestOfGroup_mem {rank : Nat} {es : List ChimeEntry} (h : ∃ e ∈ es, e.group.rank = rank) :
    ∃ e ∈ es, e.group.rank = rank ∧ e.order = newestOfGroup rank es := by
  induction es with
  | nil => simp at h
  | cons e es ih =>
    rw [newestOfGroup]
    by_cases hrest : ∃ x ∈ es, x.group.rank = rank
    · obtain ⟨x, hx, hrank, horder⟩ := ih hrest
      have hlater := List.mem_cons_of_mem e hx
      split
      · next he =>
        rcases max_choice e.order (newestOfGroup rank es) with hmax | hmax <;> rw [hmax]
        · exact ⟨e, List.mem_cons_self, he, rfl⟩
        · exact ⟨x, hlater, hrank, horder⟩
      · exact ⟨x, hlater, hrank, horder⟩
    · have he : e.group.rank = rank := by simpa [hrest] using h
      rw [if_pos he, newestOfGroup_eq_zero fun x hx hrank => hrest ⟨x, hx, hrank⟩, Nat.max_zero]
      exact ⟨e, List.mem_cons_self, he, rfl⟩

/-- The overflow makes room: an entry of the height is dropped (R74). -/
theorem dropNewestChime_length {rank : Nat} {es : List ChimeEntry} (h : ∃ e ∈ es, e.group.rank = rank) :
    (dropNewestChime rank es).length < es.length := by
  obtain ⟨e, he, hrank, horder⟩ := newestOfGroup_mem h
  exact List.length_filter_lt_length_iff_exists.mpr ⟨e, he, by simp [hrank, horder]⟩

/-- A new entry is admitted among entries of the list (R69, R74). -/
theorem admitChime_follows {c : Chime} (h : chimesLawful c) {es : List ChimeEntry} (hes : es.Sublist c.entries)
    (hroom : es.length < 16) {id : ChimeId} (hid : ∀ e ∈ c.entries, e.id ≠ id) (g : Grade) (now : Nat) :
    ChimeFollows now c (admitChime now id g es c) := by
  have hunder := (chimesUnder_of_lawful h).sublist hes
  refine settleChime_follows (c := c) (hunder.append g hroom fun e he => hid e (hes.subset he)) rfl rfl ?_ now
  simp only [List.forall_mem_append, List.forall_mem_singleton]
  exact ⟨fun e he _ => hes.subset he, fun k => by simp [newChime] at k⟩

theorem rearmChime_follows {c : Chime} (h : chimesLawful c) (id : ChimeId) (g : Grade) (now : Nat) :
    ChimeFollows now c (rearmChime now id g c) := by
  refine settleChime_follows (c := c) ((chimesUnder_of_lawful h).rearm id g) rfl rfl (List.forall_mem_map.mpr ?_) now
  intro e he k
  split at k
  · simp [newChime] at k
  · next hid => rwa [if_neg hid]

/-- A posting (R69, R74). -/
theorem postChime_follows {s : State} (h : ChimeLaw s) (id : ChimeId) (g : Grade) :
    ChimeFollows s.now s.chime (postChime id g s).chime := by
  have hfull : ∀ rank, (∃ e ∈ s.chime.entries, e.group.rank = rank) →
      (dropNewestChime rank s.chime.entries).length < 16 :=
    fun rank hrank => (dropNewestChime_length hrank).trans_le h.1
  have hcount : ∀ t, (count 9 t).chime = t.chime := fun t => by simp
  simp only [postChime]
  split
  · exact chimeFollows_refl h _
  split
  · exact rearmChime_follows h id g _
  next hnew =>
  have hid : ∀ e ∈ s.chime.entries, e.id ≠ id := by simpa using hnew
  split
  · next hroom => exact admitChime_follows h (List.Sublist.refl _) hroom hid g _
  next hnoRoom =>
  split
  · rw [hcount]
    exact chimeFollows_refl h _
  split
  · next hnotice =>
    rw [hcount, State.setChime_chime]
    refine admitChime_follows h List.filter_sublist (hfull 0 ?_) hid g _
    obtain ⟨e, he, hgroup⟩ := List.any_eq_true.mp hnotice
    exact ⟨e, he, by rw [beq_iff_eq.mp hgroup]; rfl⟩
  split
  · rw [hcount]
    exact chimeFollows_refl h _
  · rw [hcount, State.setChime_chime]
    refine admitChime_follows h List.filter_sublist (hfull _ (lowestGroup_mem ?_)) hid g _
    intro hempty
    simp [hempty] at hnoRoom

/-! ## The other operations -/

theorem leaveChime_follows {s : State} (h : ChimeLaw s) (id : ChimeId) :
    ChimeFollows s.now s.chime (leaveChime id s).chime := by
  unfold leaveChime
  split
  · exact selectChime_follows (c := s.chime) ((chimesUnder_of_lawful h).sublist List.filter_sublist) rfl rfl
      (fun _ he _ => List.mem_of_mem_filter he) _
  · exact chimeFollows_refl h _

theorem ackChime_follows {s : State} (h : ChimeLaw s) : ChimeFollows s.now s.chime (ackChime s).chime := by
  have hleft := (chimesUnder_of_lawful h).sublist (List.filter_sublist (l := s.chime.entries)
    (p := fun e => e.group != .notice))
  have hsilenced := hleft.map (led' := chimeLeads) (fun e => { e with state := .silenced }) s.chime.lastOrder
    (fun _ _ => rfl) hleft.orders (fun _ k => by cases k) (fun _ _ k => by cases k)
  exact selectChime_follows (c := s.chime) hsilenced rfl rfl (List.forall_mem_map.mpr fun _ _ k => by cases k) _

theorem clearChime_follows (accepting : Bool) (s : State) :
    ChimeFollows s.now s.chime (clearChime accepting s).chime := by
  refine ⟨?_, ?_⟩ <;> simp [clearChime, chimesLawful]

end Sys2Proof.Proofs

/-! Proofs. The pattern timer of the chime list (R68); O51. -/

namespace Sys2Proof.Proofs

open Sys2Proof Sys2Proof.Machine Sys2Proof.Claims

/-! ## The pattern timer -/

/-- The SOUNDING entry is in the list. -/
theorem soundingEntry_some {es : List ChimeEntry} {e : ChimeEntry} (h : soundingEntry es = some e) :
    e ∈ es ∧ e.state = .sounding :=
  ⟨List.mem_of_find?_eq_some h, by simpa using List.find?_some h⟩

theorem soundingEntry_none {es : List ChimeEntry} (h : soundingEntry es = none) : ∀ e ∈ es, e.state ≠ .sounding :=
  fun e he k => List.find?_eq_none.mp h e he (by simpa using k)

/-- The list with a burst of `e` counted (R68). -/
def withBurst (e : ChimeEntry) (c : Chime) : Chime :=
  { c with entries := c.entries.map (fun x => if x.id = e.id then { x with bursts := e.bursts + 1 } else x) }

/-- The list with the last burst of `e` counted: the entry is FINISHED (R68). -/
def withFinished (e : ChimeEntry) (c : Chime) : Chime :=
  { c with entries := c.entries.map (fun x =>
      if x.id = e.id then { x with bursts := e.bursts + 1, state := .finished } else x) }

/-- What the pattern timer does at the end of a phase, by the group of the SOUNDING entry (R68). -/
structure ChimeMarked (due : Nat) (s : State) (e : ChimeEntry) (d : Chime) : Prop where
  urgent : e.group = .urgent → d = chimePhaseTo due .urgent ((s.chime.phase + 1) % 6) s.chime
  beep : e.group = .caution → s.chime.phase ≠ 2 → d = chimePhaseTo due .caution ((s.chime.phase + 1) % 4) s.chime
  burst : e.group = .caution → s.chime.phase = 2 → e.bursts < 2 →
    d = chimePhaseTo due .caution 3 (withBurst e s.chime)
  finished : e.group = .caution → s.chime.phase = 2 → 2 ≤ e.bursts → d = selectChime s.now (withFinished e s.chime)
  notice : e.group = .notice →
    d = selectChime s.now { s.chime with entries := s.chime.entries.filter (fun x => x.id != e.id) }

theorem chimeMark_marked {s : State} {e : ChimeEntry} (he : soundingEntry s.chime.entries = some e) (due : Nat) :
    ChimeMarked due s e (chimeMark due s).chime := by
  constructor <;> intro hgroup
  case urgent | notice => simp only [chimeMark, he, hgroup, State.setChime_chime]
  case beep =>
    intro hphase
    simp only [chimeMark, he, hgroup, if_neg hphase, State.setChime_chime]
  case burst =>
    intro hphase hbursts
    have hmore : e.bursts + 1 < 3 := by omega
    simp only [chimeMark, he, hgroup, if_pos hphase, State.setChime_chime, endBurst, if_pos hmore, withBurst]
  case finished =>
    intro hphase hbursts
    have hlast : ¬ e.bursts + 1 < 3 := by omega
    simp only [chimeMark, he, hgroup, if_pos hphase, State.setChime_chime, endBurst, if_neg hlast, withFinished]

/-- The count of a burst changes nothing else of an entry. -/
theorem burst_only (e x : ChimeEntry) : ∃ b, (if x.id = e.id then { x with bursts := e.bursts + 1 } else x)
    = { x with bursts := b } := by
  split
  · exact ⟨_, rfl⟩
  · exact ⟨x.bursts, rfl⟩

theorem ChimesUnder.withBurst {c : Chime} (h : ChimesUnder chimeLeads c) (e : ChimeEntry) :
    ChimesUnder chimeLeads (withBurst e c) := by
  refine h.map _ c.lastOrder (fun x _ => ?_) (fun x hx => ?_) (fun x k => ?_) (fun x hx k f hf hc => ?_)
  all_goals obtain ⟨b, hb⟩ := burst_only e x
  · rw [hb]
  · rw [hb]
    exact h.orders x hx
  · rwa [hb] at k
  · obtain ⟨b', hb'⟩ := burst_only e f
    rw [hb] at k ⊢
    rw [hb'] at hc ⊢
    exact h.led x hx k f hf hc

/-- A finished entry neither SOUNDS nor competes. -/
theorem mem_withFinished {e x : ChimeEntry} {c : Chime} (hx : x ∈ (withFinished e c).entries)
    (hcompetes : x.competes = true) : x ∈ c.entries := by
  obtain ⟨y, hy, rfl⟩ := List.mem_map.mp hx
  split at hcompetes
  · cases hcompetes
  · next hid => rwa [if_neg hid]

theorem ChimesUnder.withFinished {c : Chime} (h : ChimesUnder chimeLeads c) (e : ChimeEntry) :
    ChimesUnder chimeLeads (withFinished e c) := by
  refine h.map _ c.lastOrder (fun x _ => ?_) (fun x hx => ?_) (fun x k => ?_) (fun x hx k f hf hc => ?_)
  · split <;> rfl
  · split <;> exact h.orders x hx
  · split at k
    · cases k
    · exact k
  · have hmem := fun y hy => mem_withFinished (e := e) (c := c) (List.mem_map_of_mem (a := y) hy)
    exact h.led _ (hmem x hx ((competes_iff _).mpr (.inl k))) k _ (hmem f hf hc) hc

/-- Since the chime list was `b`: the law holds, and an entry that SOUNDS did so then, or stands at the first beep of a
selection made now. -/
structure ChimesGoOn (b : Chime) (t : State) : Prop where
  lawful : ChimeLaw t
  sounding : ∀ e ∈ t.chime.entries, e.state = .sounding →
    (∃ x ∈ b.entries, x.id = e.id ∧ x.order = e.order ∧ x.state = .sounding) ∨ firstBeep t.now t.chime e

/-- Operations on the list follow one another in one command. -/
theorem ChimesGoOn.follow {b : Chime} {s t : State} (h : ChimesGoOn b s) (hnow : t.now = s.now)
    (hfollows : ChimeFollows s.now s.chime t.chime) : ChimesGoOn b t := by
  refine ⟨hfollows.lawful, fun e he k => ?_⟩
  rw [hnow]
  rcases hfollows.sounding e he k with ⟨hmem, hphase, hdue⟩ | hbeep
  · exact (h.sounding e hmem k).imp_right fun ⟨hphase', hdue'⟩ => ⟨hphase.trans hphase', hdue.trans hdue'⟩
  · exact .inr hbeep

/-- A list that is as it was, whatever time has passed. -/
theorem chimesGoOn_of_eq {b : Chime} {t : State} (h : chimesLawful b) (heq : t.chime = b) : ChimesGoOn b t := by
  refine ⟨by rwa [ChimeLaw, heq], fun e he k => .inl ⟨e, heq ▸ he, rfl, rfl, k⟩⟩

/-- The pattern of an entry that SOUNDS goes on, in a list with the same SOUNDING entries. -/
theorem chimePhaseTo_goesOn {b c : Chime} {t : State} (h : ChimesUnder chimeLeads c)
    (hsame : ∀ e ∈ c.entries, e.state = .sounding →
      ∃ x ∈ b.entries, x.id = e.id ∧ x.order = e.order ∧ x.state = .sounding)
    (hsounds : ∃ e ∈ c.entries, e.state = .sounding) {due phase : Nat} {g : Grade}
    (ht : t.chime = chimePhaseTo due g phase c) : ChimesGoOn b t := by
  refine ⟨?_, ?_⟩
  · rw [ChimeLaw, ht]
    exact ⟨h.room, h.ids, h.orders, h.one, fun _ => hsounds, h.led, fun _ => hsounds, fun _ => rfl⟩
  · rw [ht]
    exact fun e he k => .inl (hsame e he k)

/-- The end of a phase (R68, R70). -/
theorem chimeMark_goesOn {s : State} (h : ChimeLaw s) (due : Nat) : ChimesGoOn s.chime (chimeMark due s) := by
  have hunder := chimesUnder_of_lawful h
  have hbegin : ChimesGoOn s.chime s := chimesGoOn_of_eq h rfl
  have hnow : (chimeMark due s).now = s.now := by simp
  cases hsounding : soundingEntry s.chime.entries with
  | none =>
    have hnone := soundingEntry_none hsounding
    obtain ⟨hroom, hids, horders, hone, hcompete, hled, -⟩ := h
    have hmark : (chimeMark due s).chime = { s.chime with phaseDue := none } := by
      simp only [chimeMark, hsounding, State.setChime_chime]
    refine ⟨?_, ?_⟩
    · rw [ChimeLaw, hmark]
      exact ⟨hroom, hids, horders, hone, hcompete, hled, fun k => by simp at k, fun ⟨e, he, k⟩ => absurd k (hnone e he)⟩
    · rw [hmark]
      exact fun e he k => absurd k (hnone e he)
  | some e =>
    obtain ⟨hmem, hsounds⟩ := soundingEntry_some hsounding
    obtain ⟨hurgent, hbeep, hburst, hfinished, hnotice⟩ := chimeMark_marked hsounding due
    have hself : ∀ x ∈ s.chime.entries, x.state = .sounding →
        ∃ y ∈ s.chime.entries, y.id = x.id ∧ y.order = x.order ∧ y.state = .sounding :=
      fun x hx k => ⟨x, hx, rfl, rfl, k⟩
    cases hgroup : e.group with
    | urgent => exact chimePhaseTo_goesOn hunder hself ⟨e, hmem, hsounds⟩ (hurgent hgroup)
    | caution =>
      by_cases hphase : s.chime.phase = 2
      · by_cases hbursts : e.bursts < 2
        · refine chimePhaseTo_goesOn (hunder.withBurst e) (List.forall_mem_map.mpr fun x hx k => ⟨x, hx, ?_⟩)
            ⟨_, List.mem_map_of_mem hmem, ?_⟩ (hburst hgroup hphase hbursts)
          · obtain ⟨b, hb⟩ := burst_only e x
            rw [hb] at k ⊢
            exact ⟨rfl, rfl, k⟩
          · rwa [if_pos rfl]
        · refine hbegin.follow hnow ?_
          rw [hfinished hgroup hphase (not_lt.mp hbursts)]
          exact selectChime_follows (c := s.chime) (hunder.withFinished e) rfl rfl
            (fun x hx k => mem_withFinished hx ((competes_iff x).mpr (.inl k))) _
      · exact chimePhaseTo_goesOn hunder hself ⟨e, hmem, hsounds⟩ (hbeep hgroup hphase)
    | notice =>
      refine hbegin.follow hnow ?_
      rw [hnotice hgroup]
      exact selectChime_follows (c := s.chime) (hunder.sublist List.filter_sublist) rfl rfl
        (fun _ hx _ => List.mem_of_mem_filter hx) _

/-- A FINISHED entry is still in the list after a selection (R70). -/
theorem finished_after_selectChime {now : Nat} {c : Chime} {x : ChimeEntry} (hx : x ∈ c.entries)
    (hfinished : ∀ y ∈ c.entries, y.id = x.id → y.state = .finished) : x ∈ (selectChime now c).entries := by
  rcases selectChime_cases now c with ⟨-, heq⟩ | ⟨-, ⟨m, hm, heq⟩ | ⟨-, heq⟩⟩ <;> rw [heq]
  · exact hx
  · obtain ⟨hmem, hselectable, -⟩ := chosenChime_leads hm
    refine List.mem_map.mpr ⟨x, hx, if_neg fun hid => ?_⟩
    simp [ChimeEntry.selectable, hfinished m hmem hid.symm] at hselectable
  · exact hx

/-- Settles O51: the work of the pattern timer, by the group of the SOUNDING entry. -/
theorem chimePatternRunsOn : Obligations.ChimePatternRunsOn := by
  intro s d ⟨hdue, hnow⟩ _ hawake
  have hexec := exec_of_due (c := .chimePatternTimer) (s := s) (by simp) rfl (Option.some.inj hdue) hnow
  have hkept : Kept [.chime] s (chimeMark d (s.setReports [])) := by
    intro b hb
    cases b <;> simp [agree] at hb ⊢
  have hreports : (chimeMark d (s.setReports [])).reports = [] := by simp
  have hstays := awake_of_kept hawake hkept (by simp)
  refine ⟨_, hexec, (kept_finish_idle hkept hreports hstays).1, fun e he => ?_⟩
  have hchime : (finish (chimeMark d (s.setReports []))).chime = (chimeMark d (s.setReports [])).chime := by
    rw [finish_idle hreports hstays]
    simp
  rw [hchime]
  obtain ⟨hurgent, hbeep, hburst, hfinished, hnotice⟩ := chimeMark_marked (s := s.setReports []) he d
  refine ⟨fun hgroup => ?_, fun hgroup hphase => ?_, fun hgroup hphase hbursts => ?_, fun hgroup hphase hbursts => ?_,
    fun hgroup => ?_⟩
  · rw [hurgent hgroup]
    exact ⟨rfl, rfl, rfl⟩
  · rw [hbeep hgroup hphase]
    exact ⟨rfl, rfl, rfl⟩
  · rw [hburst hgroup hphase hbursts]
    exact ⟨rfl, rfl, rfl⟩
  · rw [hfinished hgroup hphase hbursts]
    refine ⟨{ e with bursts := e.bursts + 1, state := .finished }, ?_, rfl, rfl, rfl⟩
    refine finished_after_selectChime (List.mem_map.mpr ⟨e, (soundingEntry_some he).1, if_pos rfl⟩)
      (List.forall_mem_map.mpr fun y _ hid => ?_)
    split at hid
    · next hy => rw [if_pos hy]
    · next hy => exact absurd hid hy
  · rw [hnotice hgroup, selectChime_ids]
    rfl

end Sys2Proof.Proofs

/-! Proofs. O10: what every step keeps of the chime list. -/

namespace Sys2Proof.Proofs

open Sys2Proof Sys2Proof.Machine Sys2Proof.Claims

namespace ChimesGoOn

variable {b : Chime} {s t : State}

/-! ## Operations that leave the list, and those of the Chime Unit -/

/-- What leaves the list and the time base. -/
theorem idle (h : ChimesGoOn b s) (hchime : t.chime = s.chime) (hnow : t.now = s.now) : ChimesGoOn b t :=
  h.follow hnow (hchime ▸ chimeFollows_refl h.lawful s.now)

theorem leaves (f : State → State) (hf : ∀ t, (f t).chime = t.chime ∧ (f t).now = t.now) (h : ChimesGoOn b s) :
    ChimesGoOn b (f s) :=
  h.idle (hf s).1 (hf s).2

theorem post (h : ChimesGoOn b s) (id : ChimeId) (g : Grade) : ChimesGoOn b (postChime id g s) :=
  h.follow (by simp) (postChime_follows h.lawful id g)

theorem leave (h : ChimesGoOn b s) (id : ChimeId) : ChimesGoOn b (leaveChime id s) :=
  h.follow (by simp) (leaveChime_follows h.lawful id)

theorem ack (h : ChimesGoOn b s) : ChimesGoOn b (ackChime s) := h.follow (by simp) (ackChime_follows h.lawful)

theorem clear (h : ChimesGoOn b s) (accepting : Bool) : ChimesGoOn b (clearChime accepting s) :=
  h.follow (by simp) (clearChime_follows accepting s)

/-! ## Reports and postings of the Telltale Unit -/

theorem postDemand (output : Fin 32) (cls : LampClass) (index : Nat) (r : DemandRecord) (h : ChimesGoOn b s) :
    ChimesGoOn b (postDemand output cls index r s) := by
  cases hchime : r.chime <;> cases hmessage : r.message <;> simp only [Machine.postDemand, hchime, hmessage]
  case none.none => exact h
  case none.some => exact h.idle (by simp) (by simp)
  case some.none => exact h.post _ _
  case some.some g m => exact (h.post (.demand output index) g).idle (by simp) (by simp)

theorem leaveDemand (output : Fin 32) (index : Nat) (r : DemandRecord) (h : ChimesGoOn b s) :
    ChimesGoOn b (leaveDemand output index r s) := by
  have hleft : ChimesGoOn b (if r.chime.isSome then leaveChime (.demand output index) s else s) := by
    split
    · exact h.leave _
    · exact h
  simp only [Machine.leaveDemand]
  generalize (if r.chime.isSome then leaveChime (.demand output index) s else s) = u at hleft ⊢
  split
  · split
    · exact hleft
    · exact hleft.idle (by simp) (by simp)
  · exact hleft

theorem announce (c : DemandChange) (h : ChimesGoOn b s) : ChimesGoOn b (announce c s) := by
  unfold Machine.announce
  split
  · split
    · exact h.postDemand _ _ _ _
    · exact h
  · exact h.leaveDemand _ _ _

theorem applyConditions (f : Demand → Bool) (h : ChimesGoOn b s) : ChimesGoOn b (applyConditions f s) := by
  simp only [Machine.applyConditions]
  exact foldl_inv (ChimesGoOn b) _ (fun t c => announce c) _ _ (h.idle (by simp) (by simp))

theorem takeSource (src : Source) (on : Bool) (h : ChimesGoOn b s) : ChimesGoOn b (takeSource src on s) :=
  applyConditions _ (h.idle (by simp) (by simp))

theorem finish (h : ChimesGoOn b s) : ChimesGoOn b (finish s) :=
  finish_inv (ChimesGoOn b) (fun t x ht => ht.idle (by simp) (by simp)) (fun src on t => takeSource src on)
    (fun t ht => ht.idle (by simp) (by simp)) (fun t ht => ht.idle (by simp) (by simp)) s h

theorem postActiveDemands (l : Lamp) (i : Nat) (ds : List Demand) (h : ChimesGoOn b s) :
    ChimesGoOn b (postActiveDemands l i ds s) := by
  induction ds generalizing i s with
  | nil => exact h
  | cons d ds ih =>
    refine ih (i + 1) ?_
    split
    · exact h.postDemand _ _ _ _
    · exact h

theorem endProving (h : ChimesGoOn b s) : ChimesGoOn b (endProving s) := by
  have hposted : ∀ (lamps : List Lamp) (t : State), ChimesGoOn b t →
      ChimesGoOn b (lamps.foldl (fun u l => Machine.postActiveDemands l 0 l.demands u) t) :=
    foldl_inv (ChimesGoOn b) _ fun t l => postActiveDemands l 0 l.demands
  exact leaves (fun t => reportProvingEnd (List.foldl postLoadFault t _)) (by simp)
    (hposted _ _ (h.idle (by simp) (by simp)))

/-! ## Frames and requests -/

theorem notifyConsumers (slot : Fin 64) (ev : SlotEvent) (h : ChimesGoOn b s) :
    ChimesGoOn b (notifyConsumers slot ev s) :=
  leaves (rosterSlot slot _ _) (by simp) (applyConditions _ (leaves (gaugeSlot slot ev _) (by simp) h))

theorem treatDescriptor (sender limit : Nat) (payload : List Byte) (d : Descriptor) (h : ChimesGoOn b s) :
    ChimesGoOn b (treatDescriptor sender limit payload s d) := by
  simp only [Machine.treatDescriptor]
  split
  · exact h.idle (by simp) (by simp)
  · split
    · exact notifyConsumers _ _ (h.idle (by simp) (by simp))
    · exact h

theorem treatEntry (sender : Nat) (payload : List Byte) (e : IntakeEntry) (h : ChimesGoOn b s) :
    ChimesGoOn b (treatEntry sender payload s e) := by
  unfold Machine.treatEntry
  split
  · exact foldl_inv (ChimesGoOn b) _ (fun t d => treatDescriptor _ _ _ d) _ _ h
  all_goals exact h.idle (by simp) (by simp)

theorem startOverride (p : Pattern) (fraction : Nat) (beep : Bool) (h : ChimesGoOn b s) :
    ChimesGoOn b (startOverride p fraction beep s) := by
  simp only [Machine.startOverride]
  split
  · exact post (h.idle (by simp) (by simp)) _ _
  · exact h.idle (by simp) (by simp)

theorem executeRequest (code : Nat) (args : List Byte) (h : ChimesGoOn b s) :
    ChimesGoOn b (executeRequest code args s).2 :=
  executeRequest_inv (ChimesGoOn b) (fun t ht => ht.idle (by simp) (by simp))
    (fun p n beep t _ => startOverride p n beep) (fun t ht => ht.idle (by simp) (by simp))
    (fun t ht => ht.idle (by simp) (by simp)) code args s h

theorem goodFrame (key : Key) (payload : List Byte) (h : ChimesGoOn b s) : ChimesGoOn b (goodFrame key payload s) :=
  goodFrame_inv (ChimesGoOn b) (fun _ t ht => ht.idle (by simp) (by simp)) (fun t ht => ht.idle (by simp) (by simp))
    (fun _ t ht => ht.idle (by simp) (by simp)) (fun _ _ _ t ht => ht.idle (by simp) (by simp))
    (fun _ n p t => foldl_inv (ChimesGoOn b) _ (fun t e => treatEntry n p e) _ t)
    (takeRequest_inv (ChimesGoOn b) (fun t ht => ht.idle (by simp) (by simp)) (fun c a t => executeRequest c a)
      (fun _ _ _ t ht => ht.idle (by simp) (by simp))) key payload s h

theorem judgeFrame (f : Frame) (h : ChimesGoOn b s) : ChimesGoOn b (judgeFrame f s) := by
  unfold Machine.judgeFrame
  split
  · exact h.goodFrame _ _
  · exact h.idle (by simp) (by simp)

theorem receive {f : State → State} (hf : ∀ t, ChimesGoOn b t → ChimesGoOn b (f t)) (h : ChimesGoOn b s) :
    ChimesGoOn b (receive f s) :=
  receive_inv (ChimesGoOn b) (fun t ht => ht.idle (by simp) (by simp)) f hf s h

/-! ## Part states and buttons -/

theorem enterStart (h : ChimesGoOn b s) : ChimesGoOn b (enterStart s) :=
  leaves (fun t => restartStatus statusFastMs (startRoster (startReadout t))) (by simp)
    (clear (leaves (fun t => startTelltale (startGauges (startControl t))) (by simp) h) true)

theorem enterAfterRun (h : ChimesGoOn b s) : ChimesGoOn b (enterAfterRun s) :=
  leaves (fun t => endOverride (pageHome t)) (by simp) (clear (h.idle (by simp) (by simp)) false)

theorem ignitionChanged (h : ChimesGoOn b s) :
    ChimesGoOn b (if s.control.ignition then ignitionOn s else ignitionOff s) := by
  split
  · unfold ignitionOn
    split
    case h_1 | h_2 => exact h.enterStart
    case h_3 => exact leaves restartDistanceReport (by simp) (enterStart (leaves wakeLine (by simp) h))
    all_goals exact h
  · unfold ignitionOff
    split
    case h_1 | h_2 => exact h.enterAfterRun
    all_goals exact h

theorem tryEndLoading (h : ChimesGoOn b s) : ChimesGoOn b (tryEndLoading s) :=
  tryEndLoading_inv (ChimesGoOn b) (fun t ht => ht.idle (by simp) (by simp)) (fun t => enterStart)
    (fun t ht => ht.idle (by simp) (by simp)) (fun t ht => ht.idle (by simp) (by simp)) s h

theorem restoreDone (readable : Bool) (h : ChimesGoOn b s) : ChimesGoOn b (restoreDone readable s) :=
  tryEndLoading (h.idle (by simp) (by simp))

theorem restoreSlot (bytes : List Byte) (h : ChimesGoOn b s) : ChimesGoOn b (restoreSlot bytes s) := by
  simp only [Machine.restoreSlot]
  repeat' split
  · exact restoreDone true (h.idle (by simp) (by simp))
  · exact h.idle (by simp) (by simp)
  · exact h

theorem loadingReadFailed (h : ChimesGoOn b s) : ChimesGoOn b (loadingReadFailed s) := by
  unfold Machine.loadingReadFailed
  repeat' split
  · exact h.idle (by simp) (by simp)
  · exact h.restoreDone false
  · exact h

theorem debounceIgnition (h : ChimesGoOn b s) : ChimesGoOn b (debounceIgnition s) := by
  simp only [Machine.debounceIgnition]
  split
  · exact tryEndLoading (h.idle (by simp) (by simp))
  · exact tryEndLoading (ignitionChanged (h.idle (by simp) (by simp)))

theorem ackEvent (h : ChimesGoOn b s) : ChimesGoOn b (ackEvent s) :=
  (ack (h.idle (t := ackPopup s) (by simp) (by simp))).idle (by simp [Machine.ackEvent]) (by simp [Machine.ackEvent])

theorem shortPress (button : Button) (h : ChimesGoOn b s) : ChimesGoOn b (shortPress button s) := by
  cases button with
  | ack =>
    simp only [Machine.shortPress, ackShort]
    repeat' split
    case h_1 | h_2 | h_3 => exact h.ackEvent
    case h_4.isTrue => exact h.ackEvent.idle (by simp) (by simp)
    all_goals exact h
  | page => exact h.idle (by simp [Machine.shortPress]) (by simp [Machine.shortPress])
  | trip => exact h

theorem debounceButton (button : Button) (h : ChimesGoOn b s) : ChimesGoOn b (debounceButton button s) := by
  simp only [Machine.debounceButton, buttonReleased]
  repeat' split
  · exact h.idle (by simp) (by simp)
  · exact h.idle (by simp) (by simp)
  · exact shortPress button (h.idle (by simp) (by simp))
  · exact h.idle (by simp) (by simp)

/-! ## Commands -/

/-- A timer's command, whatever time passes before its work. -/
theorem timer {due : Option Nat} {f : Nat → State → State} (hlaw : ChimeLaw s)
    (hf : ∀ d t, ChimesGoOn s.chime t → ChimesGoOn s.chime (f d t)) : ChimesGoOn s.chime (onExpiry due f s) := by
  unfold onExpiry
  split
  · exact hf _ _ (chimesGoOn_of_eq hlaw (by simp))
  · exact chimesGoOn_of_eq hlaw rfl

/-- The pattern timer's command (R68). -/
theorem patternTimer (hlaw : ChimeLaw s) : ChimesGoOn s.chime (onExpiry s.chime.phaseDue chimeMark s) := by
  unfold onExpiry
  split
  · next due _ =>
    have hreach : (reach due s).chime = s.chime := by simp
    exact hreach ▸ chimeMark_goesOn (s := reach due s) (by rwa [ChimeLaw, hreach]) due
  · exact chimesGoOn_of_eq hlaw rfl

/-- Every command but POWER_ON, before its end. -/
theorem effectOf (c : Instr) (hlaw : ChimeLaw s) : ChimesGoOn s.chime (effectOf c s) := by
  have hbegin : ChimesGoOn s.chime s := chimesGoOn_of_eq hlaw rfl
  cases c
  case chimePatternTimer => exact patternTimer hlaw
  case restoreSlotRead bytes => exact hbegin.restoreSlot bytes
  case memoryReadTimeout => exact timer hlaw fun _ _ => loadingReadFailed
  case ignitionDebounceExpiry => exact timer hlaw fun _ _ => debounceIgnition
  case provingExpiry => exact timer hlaw fun _ _ => endProving
  case staleExpiry slot =>
    refine timer hlaw fun _ t ht => notifyConsumers slot .staled ?_
    exact leaves (putSlot slot _) (by simp) ht
  case buttonDebounceExpiry button => exact timer hlaw fun _ _ => debounceButton button
  case frameReceived f => exact hbegin.receive fun _ => judgeFrame f
  case timeMark | presence | readState | readSlot | readRoster | readHealth | clearHealth | readDistance
      | testOverride | endOverride | ackErrorIndication | unknownRequest =>
    exact hbegin.receive fun _ => goodFrame _ _
  case afterRunExpiry | presenceReplyDelayEnd | overrideExpiry
      | mutingExpiry | peerSilenceExpiry | clusterStatusTimer | distanceReportTimer | motionPeriod
      | holdExpiry | standstillExpiry | neverGraceExpiry | persistenceExpiry | lampPhaseExpiry
      | longPressExpiry | listeningWindowExpiry | driverStaleExpiry
      | secondMark | driverSpeedSample | slewStep | holdoverExpiry | distanceSample | writeAttemptTimeout
      | silenceMark | lossMark | censusClose =>
    exact timer hlaw fun _ _ ht => ht.idle (by simp) (by simp)
  all_goals exact chimesGoOn_of_eq hlaw (by simp [Machine.effectOf])

end ChimesGoOn

/-- What a step makes of the chime list: at power-on it is empty, a tick leaves it. -/
theorem step_chimesGoOn {s t : State} (hlaw : ChimeLaw s) (hstep : step s = .next t) : ChimesGoOn s.chime t := by
  rcases step_cases hstep with ⟨-, rfl⟩ | ⟨c, rest, -, hexec⟩
  · exact chimesGoOn_of_eq hlaw (by simp)
  · rcases exec_cases hexec with ⟨l, -, rfl⟩ | ⟨-, rfl⟩
    · constructor <;> simp [State.powerOn, ChimeLaw, chimesLawful]
    · exact (ChimesGoOn.effectOf (s := (s.setPending rest).setReports []) c hlaw).finish

/-- Settles O10: what SOUNDS after a step did so before it, or stands at its first beep. -/
theorem stepKeepsChimeLaw : Obligations.StepKeepsChimeLaw := by
  refine ⟨fun s t hlaw hstep => (step_chimesGoOn hlaw hstep).lawful, fun s t hlaw hstep e he hsounds => ?_⟩
  refine ((step_chimesGoOn hlaw hstep).sounding e he hsounds).imp_right fun ⟨hphase, hdue⟩ => ⟨hphase, ?_⟩
  rw [hdue]
  cases e.group <;> rfl

end Sys2Proof.Proofs

/-! Proofs. The pop-up queue under postings, removals, preemption and selection (R83, R84, R87). -/

namespace Sys2Proof.Proofs

open Sys2Proof Sys2Proof.Machine Sys2Proof.Claims

/-! ## The order of selection -/

theorem grade_eq_iff_rank (a b : Grade) : a = b ↔ a.rank = b.rank :=
  ⟨congrArg Grade.rank, grade_eq_of_rank_eq⟩

/-- `a` stands at or before `b` in the order of selection (R84): its class is higher, or the same and `a` no younger. -/
def popupLeads (a b : PopupEntry) : Prop :=
  b.cls.rank < a.cls.rank ∨ b.cls = a.cls ∧ a.order ≤ b.order

theorem popupLeads_iff (a b : PopupEntry) :
    popupLeads a b ↔ b.cls.rank < a.cls.rank ∨ b.cls.rank = a.cls.rank ∧ a.order ≤ b.order := by
  rw [popupLeads, grade_eq_iff_rank]

theorem popup_ahead_iff (a b : PopupEntry) :
    a.ahead b = true ↔ b.cls.rank < a.cls.rank ∨ a.cls.rank = b.cls.rank ∧ a.order < b.order := by
  simp [PopupEntry.ahead, grade_eq_iff_rank]

/-- Where none is chosen, none is QUEUED (R84). -/
theorem chosenPopup_none {q : List PopupEntry} (h : chosenPopup q = none) : ∀ f ∈ q, f.state ≠ .queued := by
  induction q with
  | nil => simp
  | cons e es ih =>
    simp only [chosenPopup] at h
    split at h
    · split at h
      · split at h <;> cases h
      · cases h
    · next he => exact List.forall_mem_cons.mpr ⟨he, ih h⟩

/-- The entry chosen is QUEUED, and stands before all that are (R84). -/
theorem chosenPopup_leads {q : List PopupEntry} {m : PopupEntry} (h : chosenPopup q = some m) :
    m ∈ q ∧ m.state = .queued ∧ ∀ f ∈ q, f.state = .queued → popupLeads m f := by
  simp only [popupLeads_iff]
  induction q generalizing m with
  | nil => cases h
  | cons e es ih =>
    simp only [chosenPopup] at h
    split at h
    case isFalse he =>
      obtain ⟨hmem, hqueued, hleads⟩ := ih h
      exact ⟨List.mem_cons_of_mem _ hmem, hqueued, List.forall_mem_cons.mpr ⟨fun k => absurd k he, hleads⟩⟩
    case isTrue he =>
      split at h
      · next n hn =>
        obtain ⟨hmem, hqueued, hleads⟩ := ih hn
        simp only [popup_ahead_iff] at h
        split at h <;> cases h
        · exact ⟨List.mem_cons_of_mem _ hmem, hqueued, List.forall_mem_cons.mpr ⟨fun _ => by omega, hleads⟩⟩
        · refine ⟨List.mem_cons_self, he, List.forall_mem_cons.mpr ⟨fun _ => by omega, fun f hf hfq => ?_⟩⟩
          have hbefore := hleads f hf hfq
          omega
      · next hn =>
        cases h
        refine ⟨List.mem_cons_self, he, List.forall_mem_cons.mpr ⟨fun _ => by omega, fun f hf hfq => ?_⟩⟩
        exact absurd hfq (chosenPopup_none hn f hf)

/-! ## Preemption and selection -/

theorem isShowing_iff (e : PopupEntry) : e.isShowing = true ↔ e.state ≠ .queued := by
  unfold PopupEntry.isShowing
  split <;> simp [*]

/-- Of a queue with at most one SHOWING entry two such entries are one. -/
theorem showing_unique {q : List PopupEntry} (hone : (q.filter PopupEntry.isShowing).length ≤ 1) {e f : PopupEntry}
    (he : e ∈ q) (hf : f ∈ q) (hes : e.isShowing = true) (hfs : f.isShowing = true) : e = f := by
  have he' := List.mem_filter.mpr ⟨he, hes⟩
  have hf' := List.mem_filter.mpr ⟨hf, hfs⟩
  obtain ⟨x, hx⟩ | hnil := (Nat.le_one_iff_eq_zero_or_eq_one.mp hone).symm.imp List.length_eq_one_iff.mp id
  · rw [hx, List.mem_singleton] at he' hf'
    rw [he', hf']
  · rw [List.length_eq_zero_iff.mp hnil] at he'
    cases he'

theorem showingPopup_some {q : List PopupEntry} {e : PopupEntry} (h : showingPopup q = some e) :
    e ∈ q ∧ e.isShowing = true :=
  ⟨List.mem_of_find?_eq_some h, List.find?_some h⟩

theorem showingPopup_none {q : List PopupEntry} (h : showingPopup q = none) : ∀ f ∈ q, f.state = .queued := by
  intro f hf
  have := List.find?_eq_none.mp h f hf
  simpa [isShowing_iff] using this

/-- A SHOWING entry that no entry exceeds stays, and so does the queue (R84). -/
theorem settlePopups_of_highest {q : List PopupEntry} (hone : (q.filter PopupEntry.isShowing).length ≤ 1)
    {e : PopupEntry} (he : e ∈ q) (hes : e.isShowing = true) (hhigh : ∀ f ∈ q, f.cls.rank ≤ e.cls.rank) :
    settlePopups q = q := by
  unfold settlePopups
  cases hshown : showingPopup q with
  | none => exact absurd (showingPopup_none hshown e he) ((isShowing_iff e).mp hes)
  | some x =>
    obtain ⟨hx, hxs⟩ := showingPopup_some hshown
    obtain rfl := showing_unique hone he hx hes hxs
    cases hchosen : chosenPopup q with
    | none => rfl
    | some m => exact if_neg (Nat.not_lt.mpr (hhigh m (chosenPopup_leads hchosen).1))

/-- Where none is SHOWING, or one that a QUEUED entry exceeds, the entry chosen shows: no entry is of a higher
class (R84). -/
theorem settlePopups_of_exceeded {q : List PopupEntry} (hone : (q.filter PopupEntry.isShowing).length ≤ 1)
    (hne : q ≠ []) (hexceeded : ∀ e ∈ q, e.isShowing = true → ∃ f ∈ q, e.cls.rank < f.cls.rank) :
    ∃ m, chosenPopup q = some m ∧ settlePopups q = showPopup m.message q ∧ ∀ f ∈ q, f.cls.rank ≤ m.cls.rank := by
  have hqueued : ∀ e ∈ q, e.isShowing = true → ∃ f ∈ q, f.state = .queued ∧ e.cls.rank < f.cls.rank := by
    intro e he hes
    obtain ⟨f, hf, hrank⟩ := hexceeded e he hes
    refine ⟨f, hf, by_contra fun hfs => ?_, hrank⟩
    obtain rfl := showing_unique hone he hf hes ((isShowing_iff f).mpr hfs)
    exact absurd hrank (lt_irrefl _)
  have hsome : ∃ f ∈ q, f.state = .queued := by
    obtain ⟨e, he⟩ := List.exists_mem_of_ne_nil q hne
    by_cases hes : e.isShowing = true
    · obtain ⟨f, hf, hfq, -⟩ := hqueued e he hes
      exact ⟨f, hf, hfq⟩
    · exact ⟨e, he, by simpa [isShowing_iff] using hes⟩
  cases hchosen : chosenPopup q with
  | none =>
    obtain ⟨f, hf, hfq⟩ := hsome
    exact absurd hfq (chosenPopup_none hchosen f hf)
  | some m =>
    obtain ⟨-, -, hleads⟩ := chosenPopup_leads hchosen
    simp only [popupLeads_iff] at hleads
    refine ⟨m, rfl, ?_, fun f hf => ?_⟩
    · unfold settlePopups
      rw [hchosen]
      cases hshown : showingPopup q with
      | none => rfl
      | some x =>
        obtain ⟨hx, hxs⟩ := showingPopup_some hshown
        obtain ⟨f, hf, hfq, hrank⟩ := hqueued x hx hxs
        have := hleads f hf hfq
        exact if_pos (by omega)
    · by_cases hfq : f.state = .queued
      · have := hleads f hf hfq
        omega
      · obtain ⟨x, hx, hxq, hrank⟩ := hqueued f hf ((isShowing_iff f).mpr hfq)
        have := hleads x hx hxq
        omega

/-- What preemption and selection make of a queue with at most one SHOWING entry (R84). -/
theorem settledFrom_settlePopups {q : List PopupEntry} (hone : (q.filter PopupEntry.isShowing).length ≤ 1) :
    settledFrom q (settlePopups q) := by
  refine ⟨fun hnil => by rw [hnil]; rfl, fun e he hes => settlePopups_of_highest hone he hes, fun hne hexceeded => ?_⟩
  obtain ⟨m, hchosen, hsettled, -⟩ := settlePopups_of_exceeded hone hne hexceeded
  obtain ⟨hm, hqueued, hleads⟩ := chosenPopup_leads hchosen
  exact ⟨m, hm, hqueued, hleads, hsettled⟩

/-- The entries of one message in a queue in which no two have one message are at most one. -/
theorem length_le_one_of_message {q : List PopupEntry} (hids : (q.map (fun e => e.message)).Nodup) {n : Nat}
    (h : ∀ e ∈ q, e.message = n) : q.length ≤ 1 := by
  have hsub : q.map (fun e => e.message) ⊆ [n] := by
    intro x hx
    obtain ⟨e, he, rfl⟩ := List.mem_map.mp hx
    exact List.mem_singleton.mpr (h e he)
  simpa using (hids.subperm hsub).length_le

theorem showPopup_messages (n : Nat) (q : List PopupEntry) :
    (showPopup n q).map (fun e => e.message) = q.map (fun e => e.message) := by
  simp [showPopup, Function.comp_def]

/-- The queue in which one entry shows and none exceeds it is lawful (R84). -/
theorem showPopup_lawful {q : List PopupEntry} (hlen : q.length ≤ 8) (hids : (q.map (fun e => e.message)).Nodup)
    {m : PopupEntry} (hm : m ∈ q) (hhigh : ∀ f ∈ q, f.cls.rank ≤ m.cls.rank) :
    popupsLawful (showPopup m.message q) := by
  have hids' : ((showPopup m.message q).map (fun e => e.message)).Nodup := by rwa [showPopup_messages]
  have hshows : ∀ x : PopupEntry, PopupEntry.isShowing
      { x with state := if x.message = m.message then .showing 0 else .queued } = true → x.message = m.message := by
    intro x hx
    by_contra hne
    rw [isShowing_iff, if_neg hne] at hx
    exact hx rfl
  refine ⟨by simpa [showPopup] using hlen, hids', ?_, fun _ => ⟨_, List.mem_map_of_mem hm, ?_⟩, ?_⟩
  · refine length_le_one_of_message (n := m.message) (hids'.sublist (List.filter_sublist.map _)) fun e he => ?_
    obtain ⟨he, hes⟩ := List.mem_filter.mp he
    obtain ⟨x, -, rfl⟩ := List.mem_map.mp he
    exact hshows x hes
  · rw [isShowing_iff, if_pos rfl]
    simp
  · simp only [showPopup, List.forall_mem_map]
    intro x hx hxs f hf
    rw [List.inj_on_of_nodup_map hids hx hm (hshows x hxs)]
    exact hhigh f hf

/-- Preemption and selection give a queue its law (R84). -/
theorem settlePopups_lawful {q : List PopupEntry} (hlen : q.length ≤ 8) (hids : (q.map (fun e => e.message)).Nodup)
    (hone : (q.filter PopupEntry.isShowing).length ≤ 1) : popupsLawful (settlePopups q) := by
  by_cases hhigh : ∃ e ∈ q, e.isShowing = true ∧ ∀ f ∈ q, f.cls.rank ≤ e.cls.rank
  · obtain ⟨e, he, hes, hhigh⟩ := hhigh
    rw [settlePopups_of_highest hone he hes hhigh]
    refine ⟨hlen, hids, hone, fun _ => ⟨e, he, hes⟩, fun x hx hxs => ?_⟩
    rwa [showing_unique hone hx he hxs hes]
  · rcases eq_or_ne q [] with rfl | hne
    · exact ⟨by decide, by decide, by decide, fun h => absurd rfl h, by simp [settlePopups, showingPopup, chosenPopup]⟩
    · obtain ⟨m, hchosen, hsettled, hhighest⟩ := settlePopups_of_exceeded hone hne fun e he hes => by
        by_contra hno
        push Not at hno hhigh
        obtain ⟨f, hf, hrank⟩ := hhigh e he hes
        exact absurd (hno f hf) (not_le.mpr hrank)
      rw [hsettled]
      exact showPopup_lawful hlen hids (chosenPopup_leads hchosen).1 hhighest

/-! ## Operations on a lawful queue -/

/-- Entries may leave a lawful queue; the selection follows (R84). -/
theorem settlePopups_lawful_of_sublist {q q' : List PopupEntry} (h : popupsLawful q) (hsub : q'.Sublist q) :
    popupsLawful (settlePopups q') := by
  obtain ⟨hlen, hids, hone, -⟩ := h
  exact settlePopups_lawful (hsub.length_le.trans hlen) (hids.sublist (hsub.map _))
    ((hsub.filter _).length_le.trans hone)

/-- What changes neither messages nor which entry shows. -/
theorem map_keeps_showing {f : PopupEntry → PopupEntry} (hmessage : ∀ e, (f e).message = e.message)
    (hshowing : ∀ e, (f e).isShowing = e.isShowing) (q : List PopupEntry) :
    (q.map f).map (fun e => e.message) = q.map (fun e => e.message)
      ∧ ((q.map f).filter PopupEntry.isShowing).length = (q.filter PopupEntry.isShowing).length := by
  constructor
  · simp [Function.comp_def, hmessage]
  · rw [List.filter_map, List.length_map]
    congr 2
    funext e
    exact hshowing e

/-- The queue of a posting that raises an entry, before the selection (R83). -/
def raisedQueue (m : Nat) (cls : Grade) (nonLatched : Bool) (q : List PopupEntry) : List PopupEntry :=
  q.map (fun e => if e.message = m then
    { e with cls := higherGrade e.cls cls, nonLatched := e.nonLatched && nonLatched } else e)

theorem raisedQueue_keeps (m : Nat) (cls : Grade) (nonLatched : Bool) (q : List PopupEntry) :
    (raisedQueue m cls nonLatched q).map (fun e => e.message) = q.map (fun e => e.message)
      ∧ ((raisedQueue m cls nonLatched q).filter PopupEntry.isShowing).length
        = (q.filter PopupEntry.isShowing).length :=
  map_keeps_showing (fun e => by split <;> rfl) (fun e => by split <;> rfl) q

/-- The entry of a new posting (R82, R83). -/
def newPopup (m : Nat) (cls : Grade) (nonLatched : Bool) (order : Nat) : PopupEntry :=
  { message := m, cls := cls, nonLatched := nonLatched, order := order, state := .queued }

/-- A new entry joins entries of a lawful queue; preemption and selection follow (R83). -/
theorem settlePopups_lawful_append {q q' : List PopupEntry} (h : popupsLawful q) (hsub : q'.Sublist q)
    (hroom : q'.length < 8) {m : Nat} (hnew : ∀ e ∈ q, e.message ≠ m) (cls : Grade) (nonLatched : Bool) (order : Nat) :
    popupsLawful (settlePopups (q' ++ [newPopup m cls nonLatched order])) := by
  obtain ⟨-, hids, hone, -⟩ := h
  refine settlePopups_lawful (by simpa using hroom) ?_ ?_
  · rw [List.map_append, List.nodup_append]
    refine ⟨hids.sublist (hsub.map _), by simp, ?_⟩
    simpa [newPopup] using fun e he => hnew e (hsub.subset he)
  · simpa [newPopup, PopupEntry.isShowing] using (hsub.filter PopupEntry.isShowing).length_le.trans hone

/-- The time shown may grow (R85). -/
theorem popupsLawful_age {q : List PopupEntry} (h : popupsLawful q) (d : Nat) :
    popupsLawful (q.map (PopupEntry.age d)) := by
  have hmessage : ∀ e, (PopupEntry.age d e).message = e.message := fun ⟨_, _, _, _, st⟩ => by cases st <;> rfl
  have hcls : ∀ e, (PopupEntry.age d e).cls = e.cls := fun ⟨_, _, _, _, st⟩ => by cases st <;> rfl
  have hshowing : ∀ e, (PopupEntry.age d e).isShowing = e.isShowing := fun ⟨_, _, _, _, st⟩ => by cases st <;> rfl
  obtain ⟨hmessages, hshows⟩ := map_keeps_showing hmessage hshowing q
  obtain ⟨hlen, hids, hone, hsome, hhigh⟩ := h
  refine ⟨by simpa using hlen, by rwa [hmessages], by rwa [hshows], fun hne => ?_, ?_⟩
  · obtain ⟨e, he, hes⟩ := hsome (by simpa using hne)
    exact ⟨_, List.mem_map_of_mem he, by rwa [hshowing]⟩
  · simpa only [List.forall_mem_map, hshowing, hcls] using hhigh

/-! ## The overflow of the queue (R87) -/

theorem lowestClass_le {q : List PopupEntry} {e : PopupEntry} (he : e ∈ q) : lowestClass q ≤ e.cls.rank := by
  induction q with
  | nil => cases he
  | cons x xs ih =>
    rw [lowestClass]
    rcases List.mem_cons.mp he with rfl | he
    · exact min_le_left _ _
    · exact (min_le_right _ _).trans (ih he)

theorem lowestClass_mem {q : List PopupEntry} (hne : q ≠ []) : ∃ e ∈ q, e.cls.rank = lowestClass q := by
  induction q with
  | nil => exact absurd rfl hne
  | cons x xs ih =>
    rw [lowestClass]
    rcases eq_or_ne xs [] with rfl | hxs
    · refine ⟨x, List.mem_cons_self, ?_⟩
      cases hx : x.cls <;> rfl
    · obtain ⟨e, he, hrank⟩ := ih hxs
      rw [← hrank]
      rcases min_choice x.cls.rank e.cls.rank with hmin | hmin <;> rw [hmin]
      · exact ⟨x, List.mem_cons_self, rfl⟩
      · exact ⟨e, List.mem_cons_of_mem _ he, rfl⟩

theorem le_newestOfClass {q : List PopupEntry} {e : PopupEntry} (he : e ∈ q) :
    e.order ≤ newestOfClass e.cls.rank q := by
  induction q with
  | nil => cases he
  | cons x xs ih =>
    rw [newestOfClass]
    rcases List.mem_cons.mp he with rfl | he
    · rw [if_pos rfl]
      exact le_max_left _ _
    · split
      · exact (ih he).trans (le_max_right _ _)
      · exact ih he

theorem newestOfClass_mem {q : List PopupEntry} {e : PopupEntry} (he : e ∈ q) :
    ∃ x ∈ q, x.cls.rank = e.cls.rank ∧ x.order = newestOfClass e.cls.rank q := by
  suffices hall : ∀ (xs : List PopupEntry) (rank : Nat), (∀ x ∈ xs, x.cls.rank ≠ rank) ∧ newestOfClass rank xs = 0
      ∨ ∃ x ∈ xs, x.cls.rank = rank ∧ x.order = newestOfClass rank xs from
    (hall q e.cls.rank).resolve_left fun ⟨hnone, _⟩ => hnone e he rfl
  intro xs rank
  induction xs with
  | nil => exact .inl ⟨by simp, rfl⟩
  | cons x xs ih =>
    rw [newestOfClass]
    split
    · next hx =>
      rcases ih with ⟨-, hzero⟩ | ⟨y, hy, hrank, horder⟩
      · exact .inr ⟨x, List.mem_cons_self, hx, by simp [hzero]⟩
      · rw [← horder]
        rcases max_choice x.order y.order with hmax | hmax <;> rw [hmax]
        · exact .inr ⟨x, List.mem_cons_self, hx, rfl⟩
        · exact .inr ⟨y, List.mem_cons_of_mem _ hy, hrank, rfl⟩
    · next hx =>
      refine ih.imp (fun ⟨hnone, hzero⟩ => ⟨List.forall_mem_cons.mpr ⟨hx, hnone⟩, hzero⟩) fun ⟨y, hy, hfound⟩ => ?_
      exact ⟨y, List.mem_cons_of_mem _ hy, hfound⟩

/-- The newest entry of a class is dropped. -/
theorem dropNewestPopup_length {q : List PopupEntry} {e : PopupEntry} (he : e ∈ q) :
    (dropNewestPopup e.cls.rank q).length < q.length := by
  obtain ⟨x, hx, hrank, horder⟩ := newestOfClass_mem he
  exact List.length_filter_lt_length_iff_exists.mpr ⟨x, hx, by simp [hrank, horder]⟩

/-- No other entry is dropped with it, where no two have one order (R82). -/
theorem dropNewestPopup_eq {q : List PopupEntry} (hids : (q.map (fun e => e.message)).Nodup)
    (horders : (q.map (fun e => e.order)).Nodup) {x : PopupEntry} (hx : x ∈ q)
    (hnewest : ∀ y ∈ q, y.cls.rank = x.cls.rank → y.order ≤ x.order) :
    dropNewestPopup x.cls.rank q = q.filter (fun y => y.message != x.message) := by
  have horder : newestOfClass x.cls.rank q = x.order := by
    obtain ⟨y, hy, hrank, hyorder⟩ := newestOfClass_mem hx
    exact le_antisymm (hyorder ▸ hnewest y hy hrank) (le_newestOfClass hx)
  refine List.filter_congr fun y hy => ?_
  rw [horder, Bool.eq_iff_iff]
  simp only [Bool.not_eq_true', Bool.and_eq_false_iff, decide_eq_false_iff_not, bne_iff_ne, ne_eq]
  rw [← not_and_or, not_iff_not]
  constructor
  · rintro ⟨-, hyorder⟩
    rw [List.inj_on_of_nodup_map horders hy hx hyorder]
  · intro hmessage
    rw [List.inj_on_of_nodup_map hids hy hx hmessage]
    exact ⟨rfl, rfl⟩

/-- A posting of a new message at a full queue: it is dropped itself, where its class is no higher than the lowest
present, or takes the place of the newest entry of that class (R87). -/
theorem postPopup_full {m : Nat} {s : State} (hnew : ∀ e ∈ s.readout.queue, e.message ≠ m)
    (hfull : s.readout.queue.length = 8) (cls : Grade) (nonLatched : Bool) :
    (∃ e ∈ s.readout.queue, cls.rank ≤ e.cls.rank ∧ (∀ f ∈ s.readout.queue, e.cls.rank ≤ f.cls.rank)
        ∧ postPopup m cls nonLatched s = count 9 s)
      ∨ ∃ e ∈ s.readout.queue, e.cls.rank < cls.rank ∧ (∀ f ∈ s.readout.queue, e.cls.rank ≤ f.cls.rank)
        ∧ postPopup m cls nonLatched s = count 9 (s.setReadout
            (admitPopup m cls nonLatched (dropNewestPopup e.cls.rank s.readout.queue) s.readout)) := by
  obtain ⟨e, he, hlowest⟩ := lowestClass_mem (q := s.readout.queue) (fun hnil => by simp [hnil] at hfull)
  have hleast : ∀ f ∈ s.readout.queue, e.cls.rank ≤ f.cls.rank := fun f hf => hlowest ▸ lowestClass_le hf
  have hany : s.readout.queue.any (fun e => e.message == m) = false := by simpa using hnew
  have hnotice : s.readout.queue.any (fun e => e.cls == .notice) = true ↔ e.cls.rank = 0 := by
    have hzero : ∀ g : Grade, g = .notice ↔ g.rank = 0 := fun g => grade_eq_iff_rank g .notice
    simp only [List.any_eq_true, beq_iff_eq, hzero]
    exact ⟨fun ⟨f, hf, hrank⟩ => Nat.le_zero.mp (hrank ▸ hleast f hf), fun h => ⟨e, he, h⟩⟩
  simp only [postPopup, hany, hfull, Bool.false_eq_true, if_false, lt_irrefl]
  split
  · next hcls => exact .inl ⟨e, he, by simp [hcls, Grade.rank], hleast, rfl⟩
  next hcls =>
  rw [grade_eq_iff_rank] at hcls
  split
  · next hpresent =>
    have hzero := hnotice.mp hpresent
    exact .inr ⟨e, he, hzero ▸ Nat.pos_of_ne_zero hcls, hleast, by rw [hzero]⟩
  split
  · next hle => exact .inl ⟨e, he, hlowest ▸ hle, hleast, rfl⟩
  · next hlt => exact .inr ⟨e, he, hlowest ▸ not_le.mp hlt, hleast, by rw [hlowest]⟩

/-! ## Postings and removals -/

/-- A posting keeps the law of the queue (R83, R87). -/
theorem popupLaw_postPopup {s : State} (h : PopupLaw s) (m : Nat) (cls : Grade) (nonLatched : Bool) :
    PopupLaw (postPopup m cls nonLatched s) := by
  by_cases hpresent : ∃ e ∈ s.readout.queue, e.message = m
  · have hany : s.readout.queue.any (fun e => e.message == m) = true := by simpa using hpresent
    obtain ⟨hlen, hids, hone, -⟩ := h
    obtain ⟨hmessages, hshows⟩ := raisedQueue_keeps m cls nonLatched s.readout.queue
    simp only [postPopup, hany, if_true]
    exact settlePopups_lawful (by simpa using hlen) (hmessages ▸ hids) (hshows ▸ hone)
  · push Not at hpresent
    rcases Nat.lt_or_eq_of_le h.1 with hroom | hfull
    · have hany : s.readout.queue.any (fun e => e.message == m) = false := by simpa using hpresent
      simp only [postPopup, hany, hroom, Bool.false_eq_true, if_false, if_true]
      exact settlePopups_lawful_append h (List.Sublist.refl _) hroom hpresent _ _ _
    · have hcount : ∀ t, (count 9 t).readout = t.readout := fun t => by simp
      rcases postPopup_full hpresent hfull cls nonLatched with ⟨-, -, -, -, heq⟩ | ⟨e, he, -, -, heq⟩ <;>
        rw [heq, PopupLaw, hcount]
      · exact h
      · exact settlePopups_lawful_append h List.filter_sublist (hfull ▸ dropNewestPopup_length he) hpresent _ _ _

theorem popupLaw_removePopup {s : State} (h : PopupLaw s) (m : Nat) : PopupLaw (removePopup m s) :=
  settlePopups_lawful_of_sublist h List.filter_sublist

end Sys2Proof.Proofs

/-! Proofs. O9: what every step keeps of the pop-up queue. -/

namespace Sys2Proof.Proofs

open Sys2Proof Sys2Proof.Machine Sys2Proof.Claims

/-! ## Operations of the blocks on the queue -/

/-- What leaves the queue keeps its law. -/
theorem popupLaw_of_queue {s t : State} (h : t.readout.queue = s.readout.queue) (hs : PopupLaw s) : PopupLaw t := by
  rwa [PopupLaw, h]

theorem popupLaw_causeCleared {s : State} (h : PopupLaw s) (m : Nat) : PopupLaw (causeCleared m s) := by
  unfold causeCleared
  split
  · exact popupLaw_removePopup h m
  · exact h

theorem popupLaw_retirePopup {s : State} (h : PopupLaw s) (m : Nat) : PopupLaw (retirePopup m s) := by
  unfold retirePopup
  split
  · exact popupLaw_of_queue (by simp) (popupLaw_removePopup h m)
  · exact popupLaw_removePopup h m

theorem popupLaw_ackPopup {s : State} (h : PopupLaw s) : PopupLaw (ackPopup s) := by
  unfold ackPopup
  repeat' split
  · exact popupLaw_retirePopup h _
  all_goals exact h

theorem popupLaw_advance {s : State} (h : PopupLaw s) (d : Nat) : PopupLaw (advance d s) := by
  simp only [advance]
  split
  · exact popupsLawful_age h d
  · exact h

theorem popupLaw_reach {s : State} (h : PopupLaw s) (due : Nat) : PopupLaw (reach due s) := by
  unfold reach
  split
  · exact popupLaw_advance h _
  · exact h

theorem popupLaw_popupMark {s : State} (h : PopupLaw s) (m : PopupMark) : PopupLaw (popupMark m s) := by
  simp only [popupMark]
  repeat' split
  · exact popupLaw_retirePopup (popupLaw_advance h _) _
  · exact popupLaw_advance h _
  all_goals exact h

theorem popupLaw_passSecond {s : State} (h : PopupLaw s) : PopupLaw (passSecond s) := by
  unfold passSecond
  repeat' split
  · exact h
  · exact popupLaw_advance h _
  · exact h

/-- A posting that is made on a condition. -/
theorem popupLaw_postPopup_if {s : State} (h : PopupLaw s) (c : Prop) [Decidable c] (m : Nat) (cls : Grade)
    (nonLatched : Bool) : PopupLaw (if c then postPopup m cls nonLatched s else s) := by
  split
  · exact popupLaw_postPopup h _ _ _
  · exact h

/-- START entry clears the queue before it posts (R82). -/
theorem popupLaw_startPopups (s : State) : PopupLaw (startPopups s) := by
  have hempty : PopupLaw (s.setReadout { s.readout with queue := [], lastOrder := 0 }) :=
    ⟨by simp, by simp, by simp, fun h => absurd rfl h, by simp⟩
  have hposted := popupLaw_postPopup_if (popupLaw_postPopup_if hempty (s.control.fallback = true) 56 .urgent false)
    (s.store.state ≠ .good) 61 .caution false
  cases hmailbox : s.driver.mailbox <;> simp only [startPopups, hmailbox]
  case full => exact popupLaw_postPopup hposted _ _ _
  all_goals exact hposted

theorem popupLaw_startReadout (s : State) : PopupLaw (startReadout s) :=
  popupLaw_startPopups (s.setReadout { s.readout with windowDue := none })

/-! ## Record Store and Distance Unit: pop-up 61 (R124) -/

theorem popupLaw_changeStoreState {s : State} (h : PopupLaw s) (st : StoreState) :
    PopupLaw (changeStoreState st s) := by
  simp only [changeStoreState]
  repeat' split
  · exact h
  · exact popupLaw_of_queue (by simp) h
  · exact popupLaw_of_queue (by simp) h
  · exact popupLaw_postPopup (popupLaw_of_queue (by simp) h) _ _ _
  · exact popupLaw_postPopup (popupLaw_of_queue (by simp) h) _ _ _

theorem popupLaw_startWrite {s : State} (h : PopupLaw s) : PopupLaw (startWrite s) := by
  unfold startWrite
  repeat' split
  · exact popupLaw_changeStoreState h _
  · exact popupLaw_of_queue (by simp) h
  · exact h

theorem popupLaw_requestWrite {s : State} (h : PopupLaw s) : PopupLaw (requestWrite s) := by
  unfold requestWrite
  repeat' split
  · exact h
  · exact h
  · exact popupLaw_startWrite h

theorem popupLaw_endWrite {s : State} (h : PopupLaw s) : PopupLaw (endWrite s) := by
  simp only [endWrite]
  split
  · exact popupLaw_startWrite h
  · exact h

theorem popupLaw_rewrite {s : State} (h : PopupLaw s) (w : Write) : PopupLaw (rewrite w s) := by
  unfold rewrite
  split
  · exact popupLaw_of_queue (by simp) h
  · exact popupLaw_endWrite h

theorem popupLaw_failAttempt {s : State} (h : PopupLaw s) (w : Write) : PopupLaw (failAttempt w s) := by
  simp only [failAttempt, retireSlot]
  repeat' split
  · exact popupLaw_endWrite (popupLaw_changeStoreState (popupLaw_of_queue (by simp) h) _)
  · exact popupLaw_rewrite (popupLaw_changeStoreState (popupLaw_of_queue (by simp) h) _) w
  · exact popupLaw_of_queue (by simp) h

theorem popupLaw_readBack {s : State} (h : PopupLaw s) (attempt : Nat) (bytes : List Byte) :
    PopupLaw (readBack attempt bytes s) := by
  unfold readBack
  repeat' split
  · exact popupLaw_endWrite h
  · exact popupLaw_failAttempt h _
  all_goals exact h

theorem popupLaw_attemptTimedOut {s : State} (h : PopupLaw s) : PopupLaw (attemptTimedOut s) := by
  unfold attemptTimedOut
  split
  · exact popupLaw_failAttempt h _
  · exact h

theorem popupLaw_putDistance {s : State} (h : PopupLaw s) (d : Distance) : PopupLaw (putDistance d s) := by
  have hshown : PopupLaw (refreshScreen (s.setDistance d)) := popupLaw_of_queue (by simp) h
  simp only [putDistance, storeTrigger]
  repeat' split
  · exact hshown
  · exact popupLaw_requestWrite hshown
  · exact hshown

theorem popupLaw_distanceSampleAt {s : State} (h : PopupLaw s) (due : Nat) : PopupLaw (distanceSampleAt due s) := by
  simp only [distanceSampleAt]
  split
  · exact popupLaw_putDistance h _
  · exact h

theorem popupLaw_recorderDistance {s : State} (h : PopupLaw s) (payload : List Byte) :
    PopupLaw (recorderDistance payload s) := by
  have hcount : ∀ a, PopupLaw (count a s) := fun a => popupLaw_of_queue (by simp) h
  simp only [recorderDistance, reconcile]
  repeat' split
  · exact hcount 4
  · exact popupLaw_putDistance h _
  · exact popupLaw_putDistance (hcount 7) _
  · exact h
  · exact hcount 7

/-! ## Driver Time Unit: pop-up 64 (R105) -/

theorem popupLaw_settleAssembly {s : State} (h : PopupLaw s) (a : Assembly) : PopupLaw (settleAssembly a s) := by
  unfold settleAssembly
  repeat' split
  · exact popupLaw_postPopup (popupLaw_of_queue (by rfl) h) _ _ _
  · exact h
  · exact h

theorem popupLaw_recorderNotice {s : State} (h : PopupLaw s) (payload : List Byte) :
    PopupLaw (recorderNotice payload s) := by
  simp only [recorderNotice, takePart]
  repeat' split
  · exact popupLaw_of_queue (by simp) h
  · exact h
  · exact popupLaw_settleAssembly h _
  · exact popupLaw_settleAssembly h _
  · exact h
  · exact popupLaw_settleAssembly h _
  · exact h

@[simp] theorem driverStatus_queue (d : Fin 2) (payload : List Byte) (s : State) :
    (driverStatus d payload s).readout.queue = s.readout.queue := by
  simp only [driverStatus]
  repeat' split
  all_goals simp

@[simp] theorem takeMark_queue (sender : Nat) (payload : List Byte) (s : State) :
    (takeMark sender payload s).readout.queue = s.readout.queue := by
  simp only [takeMark, acceptMark]
  repeat' split
  all_goals simp

@[simp] theorem staleDriver_queue (d : Fin 2) (s : State) : (staleDriver d s).readout.queue = s.readout.queue := by
  simp [staleDriver]

@[simp] theorem takeSecondMark_queue (d : Fin 2) (s : State) :
    (takeSecondMark d s).readout.queue = s.readout.queue := by
  simp only [takeSecondMark]
  split <;> simp

/-! ## Telltale Unit: the pop-ups of demands and pop-up 57 (R55, R56, R66) -/

theorem popupLaw_postDemand {s : State} (h : PopupLaw s) (output : Fin 32) (cls : LampClass) (index : Nat)
    (r : DemandRecord) : PopupLaw (postDemand output cls index r s) := by
  unfold postDemand
  split <;> split
  · exact popupLaw_postPopup (popupLaw_of_queue (by simp) h) _ _ _
  · exact popupLaw_of_queue (by simp) h
  · exact popupLaw_postPopup h _ _ _
  · exact h

theorem popupLaw_leaveDemand {s : State} (h : PopupLaw s) (output : Fin 32) (index : Nat) (r : DemandRecord) :
    PopupLaw (leaveDemand output index r s) := by
  have hchime : PopupLaw (if r.chime.isSome then leaveChime (.demand output index) s else s) := by
    split
    · exact popupLaw_of_queue (by simp) h
    · exact h
  simp only [leaveDemand]
  generalize (if r.chime.isSome then leaveChime (.demand output index) s else s) = u at hchime ⊢
  repeat' split
  · exact hchime
  · exact popupLaw_causeCleared hchime _
  · exact hchime

theorem popupLaw_announce {s : State} (h : PopupLaw s) (c : DemandChange) : PopupLaw (announce c s) := by
  unfold announce
  repeat' split
  · exact popupLaw_postDemand h _ _ _ _
  · exact h
  · exact popupLaw_leaveDemand h _ _ _

theorem popupLaw_applyConditions {s : State} (h : PopupLaw s) (f : Demand → Bool) :
    PopupLaw (applyConditions f s) := by
  simp only [applyConditions]
  exact foldl_inv PopupLaw _ (fun _ c ht => popupLaw_announce ht c) _ _ (popupLaw_of_queue (by simp) h)

theorem popupLaw_takeSource {s : State} (h : PopupLaw s) (src : Source) (on : Bool) : PopupLaw (takeSource src on s) :=
  popupLaw_applyConditions (popupLaw_of_queue (by rfl) h) _

theorem popupLaw_finish {s : State} (h : PopupLaw s) : PopupLaw (finish s) :=
  finish_inv PopupLaw (fun _ _ ht => ht) (fun src on _ ht => popupLaw_takeSource ht src on)
    (fun _ => popupLaw_of_queue (by simp)) (fun _ => popupLaw_of_queue (by simp)) s h

theorem popupLaw_postActiveDemands {s : State} (h : PopupLaw s) (l : Lamp) (i : Nat) (ds : List Demand) :
    PopupLaw (postActiveDemands l i ds s) := by
  induction ds generalizing i s with
  | nil => exact h
  | cons d ds ih =>
    refine ih ?_ (i + 1)
    split
    · exact popupLaw_postDemand h _ _ _ _
    · exact h

theorem popupLaw_postLoadFault {s : State} (h : PopupLaw s) (l : Lamp) : PopupLaw (postLoadFault s l) := by
  unfold postLoadFault
  split
  · exact popupLaw_postPopup h _ _ _
  · exact h

theorem popupLaw_endProving {s : State} (h : PopupLaw s) : PopupLaw (endProving s) := by
  simp only [endProving]
  refine popupLaw_of_queue (by simp; rfl) ?_
  exact foldl_inv PopupLaw _ (fun _ l ht => popupLaw_postLoadFault ht l) _ _
    (foldl_inv PopupLaw _ (fun _ l ht => popupLaw_postActiveDemands ht l 0 _) _ _ (popupLaw_of_queue (by simp) h))

theorem popupLaw_loadFault {s : State} (h : PopupLaw s) (output : Fin 32) (kind : LoadKind) :
    PopupLaw (loadFault output kind s) := by
  simp only [loadFault]
  repeat' split
  · exact h
  · exact popupLaw_postPopup (popupLaw_of_queue (by simp) h) _ _ _
  · exact popupLaw_of_queue (by simp) h

/-! ## Frames and requests -/

theorem popupLaw_notifyConsumers {s : State} (h : PopupLaw s) (slot : Fin 64) (ev : SlotEvent) :
    PopupLaw (notifyConsumers slot ev s) := by
  have htold := popupLaw_applyConditions (s := gaugeSlot slot ev s.slots[slot].value s) (popupLaw_of_queue (by simp) h)
    (slotCondition slot s.slots[slot].value s.slots[slot].quality)
  exact popupLaw_of_queue (by simp [notifyConsumers, telltaleSlot]) htold

theorem popupLaw_staleSlot {s : State} (h : PopupLaw s) (slot : Fin 64) : PopupLaw (staleSlot slot s) := by
  simp only [staleSlot]
  exact popupLaw_notifyConsumers (popupLaw_of_queue (by simp) h) slot .staled

theorem popupLaw_treatDescriptor {s : State} (h : PopupLaw s) (sender limit : Nat) (payload : List Byte)
    (d : Descriptor) : PopupLaw (treatDescriptor sender limit payload s d) := by
  simp only [treatDescriptor]
  repeat' split
  · exact popupLaw_of_queue (by simp) h
  · exact popupLaw_notifyConsumers (popupLaw_of_queue (by simp) h) _ _
  · exact h

theorem popupLaw_treatEntry {s : State} (h : PopupLaw s) (sender : Nat) (payload : List Byte) (e : IntakeEntry) :
    PopupLaw (treatEntry sender payload s e) := by
  unfold treatEntry
  split
  · exact foldl_inv PopupLaw _ (fun _ d ht => popupLaw_treatDescriptor ht _ _ _ d) _ _ h
  · exact popupLaw_of_queue (by simp) h
  · exact popupLaw_of_queue (by simp) h
  · exact popupLaw_recorderNotice h _
  · exact popupLaw_recorderDistance h _

theorem popupLaw_takeRequest {s : State} (h : PopupLaw s) (sender : Nat) (payload : List Byte) :
    PopupLaw (takeRequest sender payload s) :=
  takeRequest_inv PopupLaw (fun _ => popupLaw_of_queue (by simp))
    (executeRequest_inv PopupLaw (fun _ ht => popupLaw_requestWrite (popupLaw_of_queue (by simp) ht))
      (fun _ _ _ _ _ => popupLaw_of_queue (by simp)) (fun _ => popupLaw_of_queue (by simp)) fun _ ht => ht)
    (fun _ _ _ _ => popupLaw_of_queue (by simp)) sender payload s h

theorem popupLaw_deliverSystem {s : State} (h : PopupLaw s) (topic sender : Nat) (payload : List Byte) :
    PopupLaw (deliverSystem topic sender payload s) := by
  unfold deliverSystem
  repeat' split
  · exact popupLaw_of_queue (by simp) h
  · exact popupLaw_of_queue (by simp) h
  · exact h

theorem popupLaw_goodFrame {s : State} (h : PopupLaw s) (key : Key) (payload : List Byte) :
    PopupLaw (goodFrame key payload s) :=
  goodFrame_inv PopupLaw (fun _ _ => popupLaw_of_queue (by simp)) (fun _ => popupLaw_of_queue (by simp))
    (fun _ _ => popupLaw_of_queue (by simp)) (fun _ _ _ _ ht => popupLaw_deliverSystem ht _ _ _)
    (fun _ n p _ ht => foldl_inv PopupLaw _ (fun _ e hu => popupLaw_treatEntry hu n p e) _ _ ht)
    (fun _ _ _ ht => popupLaw_takeRequest ht _ _) key payload s h

theorem popupLaw_judgeFrame {s : State} (h : PopupLaw s) (f : Frame) : PopupLaw (judgeFrame f s) := by
  unfold judgeFrame
  split
  · exact popupLaw_goodFrame h _ _
  · exact popupLaw_of_queue (by simp) h

theorem popupLaw_receive {s : State} (h : PopupLaw s) {f : State → State}
    (hf : ∀ t, PopupLaw t → PopupLaw (f t)) : PopupLaw (receive f s) :=
  receive_inv PopupLaw (fun _ => popupLaw_of_queue (by simp)) f hf s h

/-! ## Part states and buttons -/

theorem popupLaw_enterStart (s : State) : PopupLaw (enterStart s) :=
  popupLaw_of_queue (by simp [enterStart])
    (popupLaw_startReadout (clearChime true (startTelltale (startGauges (startControl s)))))

theorem popupLaw_finishLoading {s : State} (h : PopupLaw s) : PopupLaw (finishLoading s) := by
  have hend : ∀ t, PopupLaw t → PopupLaw (pageHome (firstWrite
      (if t.control.fallback = true ∨ t.store.state = .failed then setErrorIndication t else t))) := by
    intro t ht
    refine popupLaw_of_queue ?_ ht
    split <;> simp
  exact hend _ (popupLaw_postPopup_if (popupLaw_of_queue (by simp) h) _ 56 .urgent false)

theorem popupLaw_tryEndLoading {s : State} (h : PopupLaw s) : PopupLaw (tryEndLoading s) :=
  tryEndLoading_inv PopupLaw (fun _ => popupLaw_finishLoading) (fun t _ => popupLaw_enterStart t)
    (fun _ => popupLaw_of_queue (by simp [enterListening])) (fun _ => popupLaw_of_queue (by simp)) s h

theorem popupLaw_restoreDone {s : State} (h : PopupLaw s) (readable : Bool) : PopupLaw (restoreDone readable s) :=
  popupLaw_tryEndLoading (popupLaw_of_queue (by simp) h)

theorem popupLaw_restoreSlot {s : State} (h : PopupLaw s) (bytes : List Byte) : PopupLaw (restoreSlot bytes s) := by
  simp only [restoreSlot]
  repeat' split
  · exact popupLaw_restoreDone (popupLaw_of_queue (by rfl) h) true
  · exact h
  · exact h

theorem popupLaw_loadingReadFailed {s : State} (h : PopupLaw s) : PopupLaw (loadingReadFailed s) := by
  unfold loadingReadFailed
  repeat' split
  · exact popupLaw_of_queue (by simp) h
  · exact popupLaw_restoreDone h false
  · exact h

theorem popupLaw_ignitionOn {s : State} (h : PopupLaw s) : PopupLaw (ignitionOn s) := by
  unfold ignitionOn
  split
  case h_1 | h_2 => exact popupLaw_enterStart s
  case h_3 => exact popupLaw_of_queue (by simp [wakeByIgnition]) (popupLaw_enterStart (wakeLine s))
  all_goals exact h

theorem popupLaw_ignitionOff {s : State} (h : PopupLaw s) : PopupLaw (ignitionOff s) := by
  unfold ignitionOff
  split
  case h_1 | h_2 => exact popupLaw_of_queue (by simp [enterAfterRun]) h
  all_goals exact h

theorem popupLaw_debounceIgnition {s : State} (h : PopupLaw s) : PopupLaw (debounceIgnition s) := by
  simp only [debounceIgnition]
  repeat' split
  · exact popupLaw_tryEndLoading h
  · exact popupLaw_tryEndLoading (popupLaw_ignitionOn h)
  · exact popupLaw_tryEndLoading (popupLaw_ignitionOff h)

theorem popupLaw_endAfterRun {s : State} (h : PopupLaw s) : PopupLaw (endAfterRun s) :=
  popupLaw_of_queue (by simp [endAfterRun, enterListening]) (popupLaw_requestWrite h)

theorem popupLaw_supplyLowEvent {s : State} (h : PopupLaw s) : PopupLaw (supplyLowEvent s) := by
  simp only [supplyLowEvent]
  split
  · exact popupLaw_requestWrite h
  · exact h

theorem popupLaw_ackEvent {s : State} (h : PopupLaw s) : PopupLaw (ackEvent s) :=
  popupLaw_of_queue (by simp [ackEvent]) (popupLaw_ackPopup h)

theorem popupLaw_shortPress {s : State} (h : PopupLaw s) (b : Button) : PopupLaw (shortPress b s) := by
  cases b with
  | ack =>
    simp only [shortPress, ackShort]
    repeat' split
    case h_1 | h_2 | h_3 => exact popupLaw_ackEvent h
    case h_4.isTrue => exact popupLaw_of_queue (by simp) (popupLaw_ackEvent h)
    all_goals exact h
  | page => exact popupLaw_of_queue (by simp [shortPress]) h
  | trip => exact h

theorem popupLaw_debounceButton {s : State} (h : PopupLaw s) (b : Button) : PopupLaw (debounceButton b s) := by
  simp only [debounceButton, buttonReleased]
  repeat' split
  · exact popupLaw_of_queue (by simp) h
  · exact popupLaw_of_queue (by simp) h
  · exact popupLaw_shortPress (popupLaw_of_queue (by simp) h) b
  · exact popupLaw_of_queue (by simp) h

/-! ## Commands -/

theorem popupLaw_effectOf (c : Instr) {s : State} (h : PopupLaw s) : PopupLaw (effectOf c s) := by
  have htimer : ∀ (due : Option Nat) (f : Nat → State → State), (∀ d t, PopupLaw t → PopupLaw (f d t)) →
      PopupLaw (onExpiry due f s) := fun due f hf =>
    onExpiry_inv PopupLaw due f hf (fun d _ ht => popupLaw_reach ht d) s h
  cases c
  case restoreSlotRead bytes => exact popupLaw_restoreSlot h bytes
  case memoryReadTimeout => exact htimer _ _ fun _ _ => popupLaw_loadingReadFailed
  case ignitionDebounceExpiry => exact htimer _ _ fun _ _ => popupLaw_debounceIgnition
  case afterRunExpiry => exact htimer _ _ fun _ _ => popupLaw_endAfterRun
  case supplyLow => exact popupLaw_supplyLowEvent h
  case provingExpiry => exact htimer _ _ fun _ _ => popupLaw_endProving
  case lampLoadFault output kind => exact popupLaw_loadFault h output kind
  case staleExpiry slot => exact htimer _ _ fun _ _ ht => popupLaw_staleSlot ht slot
  case popupTimeMark mark => exact popupLaw_popupMark h mark
  case buttonDebounceExpiry button => exact htimer _ _ fun _ _ ht => popupLaw_debounceButton ht button
  case clockSecond => exact popupLaw_passSecond h
  case distanceSample => exact htimer _ _ fun d _ ht => popupLaw_distanceSampleAt ht d
  case readBackComplete bytes attempt => exact popupLaw_readBack h attempt bytes
  case writeAttemptTimeout => exact htimer _ _ fun _ _ => popupLaw_attemptTimedOut
  case frameReceived f => exact popupLaw_receive h fun _ ht => popupLaw_judgeFrame ht f
  case timeMark | presence | readState | readSlot | readRoster | readHealth | clearHealth | readDistance
      | testOverride | endOverride | ackErrorIndication | unknownRequest =>
    exact popupLaw_receive h fun _ ht => popupLaw_goodFrame ht _ _
  case presenceReplyDelayEnd | overrideExpiry | mutingExpiry | peerSilenceExpiry | clusterStatusTimer
      | distanceReportTimer | motionPeriod | holdExpiry | standstillExpiry | neverGraceExpiry | persistenceExpiry
      | lampPhaseExpiry | chimePatternTimer | longPressExpiry | listeningWindowExpiry | driverStaleExpiry | secondMark
      | driverSpeedSample | slewStep
      | holdoverExpiry | silenceMark | lossMark | censusClose =>
    exact htimer _ _ fun _ _ => popupLaw_of_queue (by simp)
  all_goals exact popupLaw_of_queue (by simp [effectOf]) h

theorem step_keeps_popupLaw {s t : State} (hs : PopupLaw s) (hstep : step s = .next t) : PopupLaw t :=
  step_inv PopupLaw (fun _ _ ht => ht) (fun _ _ ht => ht) (fun _ _ ht => ht) (fun _ d ht => popupLaw_advance ht d)
    (fun _ => ⟨by simp [State.powerOn], by simp [State.powerOn], by simp [State.powerOn],
      fun h => absurd rfl h, by simp [State.powerOn]⟩)
    (fun _ => popupLaw_finish) (fun c _ _ => popupLaw_effectOf c) hstep hs

/-! ## O9 -/

/-- A posting for a message in the queue (R83). -/
theorem postPopup_raises {m : Nat} {s : State} (hpresent : ∃ e ∈ s.readout.queue, e.message = m) (cls : Grade)
    (nonLatched : Bool) : postPopup m cls nonLatched s
      = s.setReadout { s.readout with queue := settlePopups (raisedQueue m cls nonLatched s.readout.queue) } := by
  have hany : s.readout.queue.any (fun e => e.message == m) = true := by simpa using hpresent
  simp only [postPopup, hany, if_true]
  rfl

/-- A posting of a new message with room in the queue (R83). -/
theorem postPopup_joins {m : Nat} {s : State} (hnew : ∀ e ∈ s.readout.queue, e.message ≠ m)
    (hroom : s.readout.queue.length < 8) (cls : Grade) (nonLatched : Bool) : postPopup m cls nonLatched s
      = s.setReadout { s.readout with
          queue := settlePopups (s.readout.queue ++ [newPopup m cls nonLatched (s.readout.lastOrder + 1)])
          lastOrder := s.readout.lastOrder + 1 } := by
  have hany : s.readout.queue.any (fun e => e.message == m) = false := by simpa using hnew
  simp only [postPopup, hany, hroom, Bool.false_eq_true, if_false, if_true]
  rfl

/-- Settles O9: the law, and what the selection makes of the queue that a posting leaves it. -/
theorem stepKeepsPopupLaw : Obligations.StepKeepsPopupLaw := by
  refine ⟨fun s t => step_keeps_popupLaw, fun q _ => settledFrom_settlePopups, fun m cls nonLatched s hs => ?_⟩
  obtain ⟨-, -, hone, -⟩ := hs
  refine ⟨fun hpresent => ⟨_, postPopup_raises hpresent cls nonLatched, ?_⟩,
    fun hnew hroom => ⟨_, postPopup_joins hnew hroom cls nonLatched, ?_⟩⟩
  · exact settledFrom_settlePopups (q := raisedQueue m cls nonLatched s.readout.queue)
      ((raisedQueue_keeps m cls nonLatched s.readout.queue).2.trans_le hone)
  · refine settledFrom_settlePopups (q := s.readout.queue ++ [newPopup m cls nonLatched _]) ?_
    simpa [newPopup, PopupEntry.isShowing] using hone

end Sys2Proof.Proofs

/-! Proofs. The buttons and the page: what a command of the Readout Unit leaves of it (O21, O54). -/

namespace Sys2Proof.Proofs

open Sys2Proof Sys2Proof.Machine Sys2Proof.Claims

/-! ## The end of a command that reports nothing -/

/-- A command that leaves no report and the part awake is its work and the composition of the screen. -/
theorem exec_idle {c : Instr} {s u : State} (hc : ∀ l, c ≠ .powerOn l) (heffect : effectOf c (s.setReports []) = u)
    (hreports : u.reports = []) (hawake : sleepReady u = false) : exec c s = .next (refreshScreen u) := by
  rw [exec_eq_complete c hc, complete, heffect, finish_idle hreports hawake]

/-- The composition changes of the Readout Unit the screen contents alone (R76). -/
theorem refreshScreen_readout (s : State) : (refreshScreen s).readout = { s.readout with
    composed := (refreshScreen s).readout.composed, writing := (refreshScreen s).readout.writing,
    again := (refreshScreen s).readout.again } := by
  simp only [refreshScreen]
  repeat' split
  all_goals rfl

@[simp] theorem refreshScreen_page (s : State) : (refreshScreen s).readout.page = s.readout.page := by
  rw [refreshScreen_readout]

@[simp] theorem refreshScreen_windowDue (s : State) :
    (refreshScreen s).readout.windowDue = s.readout.windowDue := by rw [refreshScreen_readout]

@[simp] theorem refreshScreen_ackCount (s : State) : (refreshScreen s).readout.ackCount = s.readout.ackCount := by
  rw [refreshScreen_readout]

@[simp] theorem refreshScreen_lastOrder (s : State) :
    (refreshScreen s).readout.lastOrder = s.readout.lastOrder := by rw [refreshScreen_readout]

@[simp] theorem refreshScreen_moduleScreen (s : State) :
    (refreshScreen s).readout.moduleScreen = s.readout.moduleScreen := by rw [refreshScreen_readout]

@[simp] theorem buttonOf_refreshScreen (s : State) (b : Button) : buttonOf (refreshScreen s) b = buttonOf s b := by
  cases b <;> simp only [buttonOf] <;> rw [refreshScreen_readout]

/-! ## The input of a button -/

@[simp] theorem buttonOf_putButton_same (b : Button) (x : ButtonInput) (s : State) :
    buttonOf (putButton b x s) b = x := by
  cases b <;> rfl

theorem buttonOf_putButton_other {b b' : Button} (h : b' ≠ b) (x : ButtonInput) (s : State) :
    buttonOf (putButton b x s) b' = buttonOf s b' := by
  cases b <;> cases b' <;> simp [buttonOf, putButton] at h ⊢

@[simp] theorem putButton_page (b : Button) (x : ButtonInput) (s : State) :
    (putButton b x s).readout.page = s.readout.page := by cases b <;> rfl

@[simp] theorem putButton_windowDue (b : Button) (x : ButtonInput) (s : State) :
    (putButton b x s).readout.windowDue = s.readout.windowDue := by cases b <;> rfl

@[simp] theorem putButton_ackCount (b : Button) (x : ButtonInput) (s : State) :
    (putButton b x s).readout.ackCount = s.readout.ackCount := by cases b <;> rfl

@[simp] theorem putButton_lastOrder (b : Button) (x : ButtonInput) (s : State) :
    (putButton b x s).readout.lastOrder = s.readout.lastOrder := by cases b <;> rfl

@[simp] theorem putButton_moduleScreen (b : Button) (x : ButtonInput) (s : State) :
    (putButton b x s).readout.moduleScreen = s.readout.moduleScreen := by cases b <;> rfl

theorem kept_putButton (b : Button) (x : ButtonInput) (s : State) : Kept [.readout] s (putButton b x s) := by
  intro k hk
  cases k
  case readout => exact absurd (by decide) hk
  all_goals simp [agree]

/-- The buttons are no condition of SLEEP. -/
theorem sleepReady_putButton (b : Button) (x : ButtonInput) (s : State) :
    sleepReady (putButton b x s) = sleepReady s :=
  sleepReady_congr (by simp) (by simp) (by simp) (by simp)

/-! ## O21 -/

theorem kept_ignitionInput (level : Bool) (s : State) : Kept [.control] s (ignitionInput level s) := by
  intro k hk
  cases k
  case control => exact absurd (by decide) hk
  all_goals simp [agree]

theorem ignitionInput_control (level : Bool) (s : State) : (ignitionInput level s).control
    = if level = s.control.ignitionRaw then s.control
      else { s.control with ignitionRaw := level, ignitionDue := some (s.now + 50) } := by
  unfold ignitionInput
  split <;> rfl

/-- The first part of O21: the ignition input (R159). -/
theorem ignitionInputChange_spec {s : State} (hawake : AwakeLaw s) (level : Bool) :
    ∃ t, exec (.ignitionInputChange level) s = .next t ∧ Kept [.control] s t
      ∧ t.control = if level = s.control.ignitionRaw then s.control
          else { s.control with ignitionRaw := level, ignitionDue := some (s.now + 50) } := by
  have hcontrol := ignitionInput_control level (s.setReports [])
  have hpart : (ignitionInput level (s.setReports [])).control.part = s.control.part := by
    rw [hcontrol]
    split <;> simp
  have hstay : sleepReady (ignitionInput level (s.setReports [])) = false :=
    (sleepReady_congr hpart (by simp) (by simp) (by simp)).trans hawake
  have hreports : (ignitionInput level (s.setReports [])).reports = [] := by simp
  have hcomposed : ∀ u : State, (refreshScreen u).control = u.control := fun u => by simp
  refine ⟨_, exec_idle (by simp) rfl hreports hstay, ?_, (hcomposed _).trans hcontrol⟩
  exact Kept.trans (Kept.trans (kept_setReports _ s []) (kept_ignitionInput level _)) (kept_refreshScreen _ _)

/-- Settles O21: the input is the ignition's or a button's, whose own item changes alone. -/
theorem inputChangeRestartsDebounce : Obligations.InputChangeRestartsDebounce := by
  refine fun s hawake => ⟨ignitionInputChange_spec hawake, fun b raw => ?_⟩
  by_cases hraw : raw = (buttonOf s b).raw
  · refine ⟨_, exec_idle (u := s.setReports []) (by simp) (if_pos hraw) rfl hawake, ?_, ?_, fun b' _ => ?_, ?_⟩
    · exact Kept.trans (kept_setReports _ s []) (kept_refreshScreen _ _)
    · rw [if_pos hraw, buttonOf_refreshScreen]
      rfl
    · rw [buttonOf_refreshScreen]
      rfl
    · simp
  · have hwork : effectOf (.buttonInputChange b raw) (s.setReports []) = putButton b
        { buttonOf s b with raw := raw, debounceDue := some (s.now + 20) } (s.setReports []) := if_neg hraw
    have hstay := (sleepReady_putButton b { buttonOf s b with raw := raw, debounceDue := some (s.now + 20) }
      (s.setReports [])).trans hawake
    refine ⟨_, exec_idle (by simp) hwork (by simp) hstay, ?_, ?_, fun b' hb' => ?_, ?_⟩
    · exact Kept.trans (Kept.trans (kept_setReports _ s []) (kept_putButton _ _ _)) (kept_refreshScreen _ _)
    · simp [hraw]
    · rw [buttonOf_refreshScreen, buttonOf_putButton_other hb']
      rfl
    · simp

/-! ## The ring of pages (R79) -/

/-- The ring, from the DRIVER-1 page on. -/
def pageRing : List Page := [.driver1, .driver2, .distance, .tripB, .clock]

theorem pageRing_succ {i : Nat} {p : Page} (h : pageRing[i]? = some p) : pageRing[(i + 1) % 5]? = some p.succ := by
  obtain ⟨hi, -⟩ := List.getElem?_eq_some_iff.mp h
  have hi : i < 5 := hi
  interval_cases i <;> cases h <;> rfl

/-- The search goes round the ring up to the first enabled page. -/
theorem nextPageWithin_eq {en : PageEnables} (home : Page) {n i k : Nat} {p q : Page} (hp : pageRing[i]? = some p)
    (hq : pageRing[(i + k) % 5]? = some q) (hpos : 1 ≤ k) (hn : k ≤ n)
    (hbefore : ∀ j x, 1 ≤ j → j < k → pageRing[(i + j) % 5]? = some x → pageEnabled en x = false)
    (henabled : pageEnabled en q = true) : nextPageWithin n en p home = q := by
  have hsucc := pageRing_succ hp
  induction n generalizing i k p with
  | zero => omega
  | succ n ih =>
    rw [nextPageWithin]
    rcases hpos.lt_or_eq with hfar | rfl
    · rw [if_neg (by simp [hbefore 1 p.succ le_rfl hfar hsucc])]
      have hshift : ∀ j, ((i + 1) % 5 + j) % 5 = (i + (j + 1)) % 5 := fun j => by omega
      refine ih (i := (i + 1) % 5) (k := k - 1) hsucc ?_ (by omega) (by omega) (fun j x hj hjk hx => ?_)
        (pageRing_succ hsucc)
      · rwa [hshift, Nat.sub_add_cancel hpos]
      · rw [hshift] at hx
        exact hbefore (j + 1) x (by omega) (by omega) hx
    · obtain rfl : p.succ = q := Option.some.inj (hsucc.symm.trans hq)
      exact if_pos henabled

theorem homePage_eq (t : Tables) : homePage t
    = (if (∃ e ∈ t.intake, e.sink = .driverStatus1 ∨ e.sink = .driverStatus2) ∧ t.pages.driver1 = true then .driver1
      else .distance) := by
  simp only [homePage, Bool.and_eq_true, List.any_eq_true, Bool.or_eq_true, beq_iff_eq]

/-! ## A PAGE short press (R92, Table 5-5) -/

theorem pageCovered_iff (s : State) : pageCovered s = true ↔ coveredPage s := by
  simp [pageCovered, coveredPage, isShowing_iff]

/-- PAGE advances an uncovered page (R79, R91). -/
theorem advancePage_readout (s : State) : (advancePage s).readout = { s.readout with
    page := if coveredPage s then s.readout.page else nextPage s.tables.pages s.readout.page } := by
  unfold advancePage
  by_cases h : coveredPage s
  · rw [if_pos ((pageCovered_iff s).mpr h), if_pos h]
  · rw [if_neg (mt (pageCovered_iff s).mp h), if_neg h]
    rfl

/-- A PAGE short press changes page and window alone. -/
theorem pageShort_readout (s : State) : (pageShort s).readout = { s.readout with
    page := (pageShort s).readout.page, windowDue := (pageShort s).readout.windowDue } := by
  unfold pageShort
  repeat' split
  all_goals simp only [restartWindow, pageHome, State.setReadout_readout, advancePage_readout]

theorem buttonOf_pageShort (s : State) (b : Button) : buttonOf (pageShort s) b = buttonOf s b := by
  cases b <;> simp only [buttonOf] <;> rw [pageShort_readout]

theorem kept_pageShort (s : State) : Kept [.readout] s (pageShort s) := by
  intro k hk
  cases k
  case readout => exact absurd (by decide) hk
  all_goals simp [agree]

/-- A PAGE short press leaves no part ready for SLEEP: in LISTENING the readout is lit by it. -/
theorem awake_pageShort (s : State) : sleepReady (pageShort s) = false := by
  by_cases hlistening : s.control.part = .listening
  · have hwindow : (pageShort s).readout.windowDue.isSome = true := by
      simp only [pageShort, hlistening]
      split <;> rfl
    simp [sleepReady, readoutLit, hlistening, hwindow]
  · simp [sleepReady, hlistening]

/-- The page and the window after a PAGE short press, by part state. -/
theorem pageShort_spec (s : State) :
    (s.control.part = .run ∨ s.control.part = .afterRun →
        (pageShort s).readout.windowDue = s.readout.windowDue
        ∧ (pageShort s).readout.page = (if coveredPage s then s.readout.page
            else nextPage s.tables.pages s.readout.page))
      ∧ (s.control.part = .listening → s.readout.windowDue.isSome = true →
        (pageShort s).readout.windowDue = some (s.now + 30000)
        ∧ (pageShort s).readout.page = (if coveredPage s then s.readout.page
            else nextPage s.tables.pages s.readout.page))
      ∧ (s.control.part = .listening → s.readout.windowDue = none →
        (pageShort s).readout.windowDue = some (s.now + 30000) ∧ (pageShort s).readout.page = homePage s.tables)
      ∧ (s.control.part = .start ∨ s.control.part = .sleep ∨ s.control.part = .loading →
        (pageShort s).readout.windowDue = s.readout.windowDue ∧ (pageShort s).readout.page = s.readout.page) := by
  refine ⟨?_, fun hpart hwindow => ?_, fun hpart hwindow => ?_, ?_⟩
  · rintro (hpart | hpart) <;> simp [pageShort, hpart, advancePage_readout]
  · simp only [pageShort, hpart, hwindow, if_true, restartWindow, State.setReadout_readout, advancePage_readout]
    simp [listeningWindowMs]
  · simp only [pageShort, hpart, hwindow]
    exact ⟨rfl, rfl⟩
  · rintro (hpart | hpart | hpart) <;> simp [pageShort, hpart]

/-- The input of a button whose debounced state has become RELEASED (R89). -/
def releasedInput (x : ButtonInput) : ButtonInput :=
  { x with debounceDue := none, pressed := false, longDue := none, held := false }

/-- The release that ends a PAGE short press. -/
theorem exec_pageShortPress {s : State} {d : Nat} (hdue : cameDue (.buttonDebounceExpiry .page) d s)
    (hraw : (buttonOf s .page).raw = false) (hpressed : (buttonOf s .page).pressed = true)
    (hheld : (buttonOf s .page).held = false) (hlong : (buttonOf s .page).longDue.isSome = true) :
    exec (.buttonDebounceExpiry .page) s = .next (refreshScreen (pageShort
      (putButton .page (releasedInput (buttonOf s .page)) (s.setReports [])))) := by
  obtain ⟨htimer, hnow⟩ := hdue
  refine exec_idle (by simp) ?_ (by simp) (awake_pageShort _)
  refine (onExpiry_due (s := s.setReports []) (Option.some.inj htimer) hnow fun _ => debounceButton .page).trans ?_
  have hbutton : buttonOf (s.setReports []) .page = buttonOf s .page := rfl
  simp [debounceButton, buttonReleased, hbutton, hraw, hpressed, hheld, hlong, shortPress, releasedInput]

/-! ## A TRIP long press (R93, Table 5-5) -/

/-- The distances after a long press (R93, R116). -/
theorem tripLong_distance (s : State) : (tripLong s).distance
    = if (s.control.part = .run ∨ s.control.part = .afterRun) ∧ ¬ coveredPage s then
        match s.readout.page with
        | .distance => { s.distance with tripA := 0 }
        | .tripB => { s.distance with tripB := 0 }
        | _ => s.distance
      else s.distance := by
  have hshown : (resetShownTrip s).distance = if ¬ coveredPage s then
      match s.readout.page with
      | .distance => { s.distance with tripA := 0 }
      | .tripB => { s.distance with tripB := 0 }
      | _ => s.distance
      else s.distance := by
    by_cases h : coveredPage s
    · rw [resetShownTrip, if_pos ((pageCovered_iff s).mpr h), if_neg (not_not.mpr h)]
    · rw [resetShownTrip, if_neg (mt (pageCovered_iff s).mp h), if_pos h]
      cases s.readout.page <;> rfl
  cases hpart : s.control.part <;> simp [tripLong, hpart, hshown]

/-- At the Readout Unit a long press changes the timer of its button alone. -/
theorem longPressExpired_readout (b : Button) (s : State) : (longPressExpired b s).readout
    = (putButton b { buttonOf s b with longDue := none } s).readout := by
  simp only [longPressExpired]
  split
  · cases b <;> simp [longPress]
  · rfl

/-- Of the long presses that of TRIP alone has an effect (R89, R93). -/
theorem longPressExpired_distance (b : Button) (s : State) : (longPressExpired b s).distance
    = if b = .trip ∧ (buttonOf s b).pressed = true ∧ (buttonOf s b).held = false
          ∧ (s.control.part = .run ∨ s.control.part = .afterRun) ∧ ¬ coveredPage s then
        match s.readout.page with
        | .distance => { s.distance with tripA := 0 }
        | .tripB => { s.distance with tripB := 0 }
        | _ => s.distance
      else s.distance := by
  simp only [longPressExpired]
  by_cases hgiven : (buttonOf s b).pressed = true ∧ (buttonOf s b).held = false
  · rw [if_pos hgiven]
    cases b
    case trip =>
      have htrip := tripLong_distance (putButton .trip { buttonOf s .trip with longDue := none } s)
      simpa [hgiven, longPress] using htrip
    all_goals simp [longPress]
  · rw [if_neg hgiven, if_neg fun h => hgiven ⟨h.2.1, h.2.2.1⟩]
    simp

theorem kept_longPressExpired (b : Button) (s : State) : Kept [.readout, .distance] s (longPressExpired b s) := by
  intro k hk
  cases k
  case readout | distance => exact absurd (by decide) hk
  all_goals simp [agree]

theorem buttonOf_congr {s t : State} (h : t.readout = s.readout) (b : Button) : buttonOf t b = buttonOf s b := by
  cases b <;> simp only [buttonOf, h]

/-- The long-press timer expires: no condition of SLEEP changes. -/
theorem exec_longPress {b : Button} {s : State} {d : Nat} (hdue : cameDue (.longPressExpiry b) d s)
    (hawake : AwakeLaw s) :
    exec (.longPressExpiry b) s = .next (refreshScreen (longPressExpired b (s.setReports []))) := by
  obtain ⟨htimer, hnow⟩ := hdue
  refine exec_idle (by simp) (onExpiry_due (s := s.setReports []) (Option.some.inj htimer) hnow
    fun _ => longPressExpired b) (by simp) ?_
  refine (sleepReady_congr (by simp) (by simp) (by simp) ?_).trans hawake
  rw [longPressExpired_readout, putButton_windowDue]
  rfl

/-- Settles O54: a press is its work on page, window or trips, and the composition of the screen. -/
theorem pageAndTripActOnAnUncoveredPage : Obligations.PageAndTripActOnAnUncoveredPage := by
  refine ⟨fun s d hdue _ hraw hpressed hheld hlong => ?_, fun b s d hdue hawake => ?_, homePage_eq,
    fun en ring i k p q hring hp hq hpos hk hbefore henabled => ?_⟩
  · have hspec := pageShort_spec (putButton .page (releasedInput (buttonOf s .page)) (s.setReports []))
    refine ⟨_, exec_pageShortPress hdue hraw hpressed hheld hlong, ?_, ?_, ?_, ?_, ?_⟩
    · exact Kept.trans (Kept.trans (Kept.trans (kept_setReports _ s []) (kept_putButton _ _ _)) (kept_pageShort _))
        (kept_refreshScreen _ _)
    · simp [buttonOf_pageShort, releasedInput]
    · simp
    · rw [refreshScreen_ackCount, pageShort_readout]
      rfl
    · rw [refreshScreen_windowDue, refreshScreen_page]
      exact hspec
  · refine ⟨_, exec_longPress hdue hawake, ?_, ?_, ?_, ?_, ?_⟩
    · exact Kept.trans (Kept.trans (kept_setReports _ s []) (kept_longPressExpired b _)) (kept_refreshScreen _ _)
    · rw [buttonOf_refreshScreen, buttonOf_congr (longPressExpired_readout b _), buttonOf_putButton_same]
      rfl
    · simp
    · rw [refreshScreen_page, longPressExpired_readout, putButton_page]
      rfl
    · have hcomposed : ∀ u : State, (refreshScreen u).distance = u.distance := fun u => by simp
      exact (hcomposed _).trans (longPressExpired_distance b _)
  · subst hring
    exact nextPageWithin_eq p hp hq hpos hk hbefore henabled

end Sys2Proof.Proofs

/-! Proofs. The texts of the screen: what is composed, as the characters that the module shows (R76 to R81, R85). -/

namespace Sys2Proof.Proofs

open Sys2Proof Sys2Proof.Machine Sys2Proof.Claims

/-! ## Characters -/

/-- A character of the module's set (R76). -/
abbrev Printable (c : Char) : Prop := 32 ≤ c.toNat ∧ c.toNat ≤ 126

/-- The codes of characters of the set are shown as these characters. -/
theorem map_glyphOf_codesOf {cs : List Char} (h : ∀ c ∈ cs, Printable c) : (codesOf cs).map glyphOf = shown cs := by
  rw [codesOf, shown, List.map_map]
  refine List.map_congr_left fun c hc => ?_
  obtain ⟨hlow, hhigh⟩ := h c hc
  have hcode : (BitVec.ofNat 7 c.toNat).toNat = c.toNat := by
    rw [BitVec.toNat_ofNat]
    omega
  exact if_pos ⟨hcode.symm ▸ hlow, hcode.symm ▸ hhigh⟩

theorem lastDigit_toNat (n : Nat) : (lastDigit n).toNat = 48 + n % 10 := by
  have hdigit : n % 10 < 10 := Nat.mod_lt _ (by decide)
  rw [lastDigit, Char.toNat_ofNat, if_pos (.inl (by omega))]

theorem printable_lastDigit (n : Nat) : Printable (lastDigit n) := by
  rw [Printable, lastDigit_toNat]
  omega

theorem digitCode_eq (n : Nat) : digitCode n = BitVec.ofNat 7 (lastDigit n).toNat := by
  rw [lastDigit_toNat, digitCode]

theorem codesOf_append (a b : List Char) : codesOf (a ++ b) = codesOf a ++ codesOf b := List.map_append

theorem codesOf_spaces (n : Nat) : codesOf (spaces n) = List.replicate n 0x20 := by
  rw [codesOf, spaces, List.map_replicate]
  rfl

theorem printable_spaces (n : Nat) : ∀ c ∈ spaces n, Printable c := by
  intro c hc
  obtain rfl := List.eq_of_mem_replicate hc
  decide

/-- A mark that is shown on a condition. -/
theorem printable_ite (p : Prop) [Decidable p] {c : Char} (h : Printable c) : Printable (if p then c else ' ') := by
  split
  · exact h
  · decide

/-! ## Numbers -/

theorem twoDigits_eq (n : Nat) : twoDigits n = codesOf (pair n) := by
  simp only [twoDigits, pair, codesOf, List.map_cons, List.map_nil, digitCode_eq]

theorem printable_pair (n : Nat) : ∀ c ∈ pair n, Printable c := by
  simpa only [pair, List.forall_mem_cons] using
    ⟨printable_lastDigit _, printable_lastDigit _, fun _ h => absurd h List.not_mem_nil⟩

theorem digitChar_eq {n : Nat} (h : n < 10) : n.digitChar = lastDigit n := by
  apply Char.toNat_inj.mp
  rw [Nat.toNat_digitChar_of_lt_ten h, lastDigit_toNat, Nat.mod_eq_of_lt h]

/-- A number of up to `n` digits (R81). -/
theorem decimalCodes_eq {n x : Nat} (h : x < 10 ^ n) (hn : 0 < n) :
    decimalCodes n x = codesOf (Nat.toDigits 10 x) := by
  induction n generalizing x with
  | zero => cases hn
  | succ n ih =>
    rw [decimalCodes]
    split
    · next hx => rw [Nat.toDigits_of_lt_base hx, digitChar_eq hx, digitCode_eq]; rfl
    · next hx =>
      have hbase : 10 ≤ x := Nat.not_lt.mp hx
      have hn : 0 < n := Nat.pos_of_ne_zero fun hzero => by simp [hzero] at h; omega
      have hlast : lastDigit (x % 10) = lastDigit x := by rw [lastDigit, lastDigit, Nat.mod_mod]
      rw [Nat.toDigits_of_base_le (by decide) hbase, codesOf_append, ih (by rw [pow_succ] at h; omega) hn,
        digitChar_eq (Nat.mod_lt _ (by decide)), hlast, digitCode_eq]
      rfl

theorem printable_toDigits (x : Nat) : ∀ c ∈ Nat.toDigits 10 x, Printable c := by
  intro c hc
  have hdigit := Nat.isDigit_of_mem_toDigits (by decide) (by decide) hc
  obtain ⟨hlow, hhigh⟩ := Char.isDigit_iff_toNat.mp hdigit
  have hzero : '0'.toNat = 48 := rfl
  have hnine : '9'.toNat = 57 := rfl
  exact ⟨by omega, by omega⟩

/-! ## Lines -/

/-- A text written over a part of a line of its own length. -/
theorem writeAt_over {column : Nat} (a text b c : List CharCode) (hcolumn : a.length + 1 = column)
    (hlength : b.length = text.length) : writeAt column text (a ++ (b ++ c)) = a ++ (text ++ c) := by
  have hbefore : column - 1 = a.length := by omega
  rw [writeAt, hbefore, List.take_left, List.append_assoc, ← List.append_assoc a b c, ← hlength, ← List.length_append,
    List.drop_left]

/-- A distance line (R81). -/
theorem distanceLine_eq {name : List Char} {d : Nat} (hname : name.length ≤ 6) (hd : d ≤ 999999999) :
    distanceLine name d = codesOf (kilometreLine name d) := by
  have hdigits : (Nat.toDigits 10 (d / 100)).length ≤ 8 :=
    (Nat.length_toDigits_le_iff (by decide) (by decide)).mpr (by omega)
  have hcodes : distanceCodes d = codesOf (kilometres d) := by
    rw [distanceCodes, kilometres, codesOf_append, decimalCodes_eq (by omega) (by decide), digitCode_eq]
    exact List.append_assoc _ _ _
  have hlength : (codesOf (kilometres d)).length = (kilometres d).length := List.length_map _
  have hkilometres : (kilometres d).length ≤ 10 := by simpa [kilometres] using hdigits
  rw [kilometreLine, distanceLine, hcodes, hlength]
  generalize kilometres d = k at hlength hkilometres
  have hsplit : ∀ {n a b : Nat}, a + b = n → List.replicate n (0x20 : CharCode)
      = List.replicate a 0x20 ++ List.replicate b 0x20 := by
    rintro n a b rfl
    rw [List.replicate_append_replicate]
  have hnamed : writeAt 1 (codesOf name) blankLine
      = codesOf name ++ List.replicate (17 - name.length - k.length) 0x20
          ++ (List.replicate k.length 0x20 ++ List.replicate 3 0x20) := by
    rw [blankLine, hsplit (a := name.length) (b := 20 - name.length) (by omega)]
    refine (writeAt_over [] (codesOf name) _ _ rfl (by simp [codesOf])).trans ?_
    rw [List.nil_append, List.append_assoc, ← hsplit rfl, ← hsplit (n := 20 - name.length) (by omega)]
  have hplaced := writeAt_over (column := 18 - k.length)
    (codesOf name ++ List.replicate (17 - name.length - k.length) 0x20) (codesOf k) (List.replicate k.length 0x20)
    (List.replicate 3 0x20) (by simp [codesOf]; omega) (by simp [codesOf])
  rw [hnamed, hplaced]
  have hunit := writeAt_over (column := 19) (codesOf name ++ List.replicate (17 - name.length - k.length) 0x20
    ++ codesOf k ++ [0x20]) (codesOf ['k', 'm']) [0x20, 0x20] [] (by simp [codesOf]; omega) rfl
  simp only [List.append_assoc, codesOf_append, codesOf_spaces] at hunit ⊢
  exact hunit

/-- A figure of a driver's page has five characters (R80). -/
theorem hourMinute_five (f : Option Nat) : ∃ a b c d e, hourMinute f = [a, b, c, d, e] := by
  cases f <;> exact ⟨_, _, _, _, _, rfl⟩

theorem figureCodes_eq (f : Option Nat) : figureCodes f = codesOf (hourMinute f) := by
  cases f with
  | none => rfl
  | some m => simp only [figureCodes, hourMinute, twoDigits_eq, codesOf_append]

theorem printable_hourMinute (f : Option Nat) : ∀ c ∈ hourMinute f, Printable c := by
  cases f with
  | none => simp [hourMinute, Printable]
  | some m =>
    simp only [hourMinute, List.forall_mem_append]
    exact ⟨⟨printable_pair _, by simp [Printable]⟩, printable_pair _⟩

/-- The two lines of a driver's page (R80). -/
theorem driverLines_eq (n : Char) (r : DriverRecord) :
    driverLines n r = (codesOf (driverPage n r).1, codesOf (driverPage n r).2) := by
  obtain ⟨a1, b1, c1, d1, e1, h1⟩ := hourMinute_five (displayed r).continuous
  obtain ⟨a2, b2, c2, d2, e2, h2⟩ := hourMinute_five (displayed r).toBreak
  obtain ⟨a3, b3, c3, d3, e3, h3⟩ := hourMinute_five (displayed r).daily
  obtain ⟨a4, b4, c4, d4, e4, h4⟩ := hourMinute_five (displayed r).toDaily
  simp only [driverLines, driverPage, figureCodes_eq, h1, h2, h3, h4]
  cases r.snapshot with
  | none => simp [writeAt, codesOf, blankLine, List.replicate]
  | some p =>
    by_cases hfault : r.state = .current ∧ p.card = .fault <;>
      simp [hfault, writeAt, codesOf, blankLine, List.replicate]

theorem printable_driverPage {n : Char} (hn : Printable n) (r : DriverRecord) :
    (∀ c ∈ (driverPage n r).1, Printable c) ∧ ∀ c ∈ (driverPage n r).2, Printable c := by
  simp only [driverPage, List.forall_mem_append]
  refine ⟨⟨⟨⟨?_, printable_hourMinute _⟩, by simp [Printable]⟩, printable_hourMinute _⟩,
    ⟨⟨by simp [Printable], printable_hourMinute _⟩, by simp [Printable]⟩, printable_hourMinute _⟩
  simp only [List.forall_mem_cons]
  exact ⟨by simp [Printable], hn, printable_ite _ (by decide), by simp [Printable], by simp [Printable],
    by simp [Printable], fun _ h => absurd h List.not_mem_nil⟩

/-- The time of day (R81, R111). -/
theorem timeCodes_eq (c : Clock) : timeCodes c = codesOf (dayTime c) := by
  simp only [timeCodes, dayTime, timeOfDay]
  split
  · rfl
  · rw [mul_comm c.offset 900]
    generalize (((c.seconds : Int) + 900 * c.offset) % 86400).toNat = t
    simp only [codesOf_append, twoDigits_eq]
    have hminutes : t % 3600 / 60 = t / 60 % 60 := by omega
    rw [hminutes]

theorem dayTime_eight (c : Clock) : ∃ h1 h2 s1 m1 m2 s2 x1 x2, dayTime c = [h1, h2, s1, m1, m2, s2, x1, x2] := by
  simp only [dayTime]
  split <;> exact ⟨_, _, _, _, _, _, _, _, rfl⟩

theorem printable_dayTime (c : Clock) : ∀ x ∈ dayTime c, Printable x := by
  simp only [dayTime]
  split
  · simp [Printable]
  · simp only [List.forall_mem_append]
    exact ⟨⟨⟨⟨printable_pair _, by simp [Printable]⟩, printable_pair _⟩, by simp [Printable]⟩, printable_pair _⟩

theorem printable_kilometreLine {name : List Char} (hname : ∀ c ∈ name, Printable c) (d : Nat) :
    ∀ c ∈ kilometreLine name d, Printable c := by
  simp only [kilometreLine, kilometres, List.forall_mem_append]
  refine ⟨⟨⟨hname, printable_spaces _⟩, printable_toDigits _, ?_⟩, by simp [Printable]⟩
  simp only [List.forall_mem_cons]
  exact ⟨by simp [Printable], printable_lastDigit _, fun _ h => absurd h List.not_mem_nil⟩

theorem blankLine_eq : blankLine = codesOf (spaces 20) := (codesOf_spaces 20).symm

/-- The two lines of a page (R80, R81). -/
theorem pageLines_eq {s : State} (h : DistanceLaw s) (p : Page) :
    pageLines s p = (codesOf (pageShown s p).1, codesOf (pageShown s p).2) := by
  obtain ⟨htotal, htripA, htripB, -⟩ := h
  simp only [totalMax, tripMax] at htotal htripA htripB
  cases p with
  | driver1 => exact driverLines_eq '1' _
  | driver2 => exact driverLines_eq '2' _
  | distance =>
    exact Prod.ext (distanceLine_eq (by simp) htotal) (distanceLine_eq (by simp) (by omega))
  | tripB => exact Prod.ext (distanceLine_eq (by simp) (by omega)) blankLine_eq
  | clock =>
    obtain ⟨h1, h2, s1, m1, m2, s2, x1, x2, htime⟩ := dayTime_eight s.driver.clock
    simp only [pageLines, pageShown, timeCodes_eq, htime]
    exact Prod.ext (by simp [writeAt, codesOf, blankLine, spaces, List.replicate]) blankLine_eq

theorem printable_pageShown (s : State) (p : Page) :
    (∀ c ∈ (pageShown s p).1, Printable c) ∧ ∀ c ∈ (pageShown s p).2, Printable c := by
  cases p with
  | driver1 => exact printable_driverPage (by simp [Printable]) _
  | driver2 => exact printable_driverPage (by simp [Printable]) _
  | distance => exact ⟨printable_kilometreLine (by simp [Printable]) _, printable_kilometreLine (by simp [Printable]) _⟩
  | tripB => exact ⟨printable_kilometreLine (by simp [Printable]) _, printable_spaces 20⟩
  | clock =>
    refine ⟨?_, printable_spaces 20⟩
    simp only [pageShown, List.forall_mem_append]
    refine ⟨⟨⟨by simp [Printable], printable_spaces 6⟩, printable_dayTime _⟩, ?_⟩
    simp only [List.forall_mem_cons]
    exact ⟨by decide, printable_ite _ (by decide), fun _ h => absurd h List.not_mem_nil⟩

end Sys2Proof.Proofs

/-! Proofs. O52: the marks of the time shown, the overflow of the queue, the composition of the screen. -/

namespace Sys2Proof.Proofs

open Sys2Proof Sys2Proof.Machine Sys2Proof.Claims

/-! ## The marks of the time shown (R85, Table 5-2) -/

/-- Where no time passes nothing changes. -/
theorem advance_zero {s : State} (h : ClockLaw s) : advance 0 s = s := by
  have hclock : s.driver.clock.pass s.now 0 = s.driver.clock := by rw [Clock.pass, Nat.zero_sub, addMs_zero h]
  have hage : s.readout.queue.map (PopupEntry.age 0) = s.readout.queue := by
    refine (List.map_congr_left fun e _ => ?_).trans (List.map_id _)
    obtain ⟨_, _, _, _, st⟩ := e
    cases st <;> rfl
  simp only [advance, hclock]
  split
  · exact congrArg (fun q => s.setReadout { s.readout with queue := q }) hage
  · rfl

/-- A mark that the time shown has reached ends the life of an entry of a lit readout to which it applies, or
changes nothing. -/
theorem popupMark_reached {m : PopupMark} {e : PopupEntry} {time : Nat} {s : State} (hclock : ClockLaw s)
    (hshowing : showingPopup s.readout.queue = some e) (hstate : e.state = .showing time)
    (hreached : popupMarkMs m ≤ time) : popupMark m s
      = if readoutLit s = true ∧ markApplies m e = true ∧ markEnds m = true then retirePopup e.message s else s := by
  have hnone : popupMarkMs m - e.timeShown = 0 := by
    rw [PopupEntry.timeShown, hstate]
    exact Nat.sub_eq_zero_of_le hreached
  simp only [popupMark, hshowing, hnone, advance_zero hclock]
  by_cases htaken : readoutLit s = true ∧ markApplies m e = true
  · simp [htaken]
  · rw [if_neg htaken, if_neg fun h => htaken ⟨h.1, h.2.1⟩]

theorem retirePopup_readout (m : Nat) (s : State) : (retirePopup m s).readout
    = { s.readout with queue := settlePopups (s.readout.queue.filter (fun e => e.message != m)) } := by
  unfold retirePopup
  split
  · rw [(consumeNotice_frame _).2.2.2.2.2.2.2.2.1]
    rfl
  · rfl

theorem sleepReady_retirePopup (m : Nat) (s : State) : sleepReady (retirePopup m s) = sleepReady s :=
  sleepReady_congr (by simp) (by simp) (by simp) (by rw [retirePopup_readout])

/-- The removal of an entry changes the queue alone, that of entry 64 the notice mailbox besides (R88). -/
theorem kept_retirePopup (m : Nat) (s : State) : Kept [.readout, .driver] s (retirePopup m s)
    ∧ (m ≠ 64 → Kept [.readout] s (retirePopup m s)) := by
  have hboth : Kept [.readout, .driver] s (retirePopup m s) := by
    intro k hk
    cases k
    case readout | driver => exact absurd (by decide) hk
    all_goals simp [agree]
  refine ⟨hboth, fun hm k hk => ?_⟩
  by_cases hdriver : k = .driver
  · subst hdriver
    simp [agree, retirePopup, hm]
  · exact hboth k (by simpa [hdriver] using hk)

/-- The removal of entry 64 is a consumption (R88, R106). -/
theorem retirePopup_notice {s : State} {id : Nat} {cls : Grade} {text : List CharCode}
    (h : s.driver.mailbox = .full id cls text) :
    (retirePopup 64 s).driver = { s.driver with mailbox := .empty, lastConsumed := id } := by
  have hmailbox : (removePopup 64 s).driver.mailbox = .full id cls text := by simp [h]
  simp only [retirePopup, if_true, consumeNotice, hmailbox]
  rfl

/-- The first part of O52. -/
theorem popupTimeMark_spec {m : PopupMark} {e : PopupEntry} {time : Nat} {s : State} (hawake : AwakeLaw s)
    (hclock : ClockLaw s) (hshowing : showingPopup s.readout.queue = some e) (hstate : e.state = .showing time)
    (hreached : popupMarkMs m ≤ time) : ∃ t, exec (.popupTimeMark m) s = .next t
       ∧ (readoutLit s = false ∨ markApplies m e = false → Kept [] s t)
       ∧ (m = .ms1000 → Kept [] s t)
       ∧ (readoutLit s = true → markApplies m e = true → m = .ms5000 →
           t.readout.queue = settlePopups (s.readout.queue.filter (fun x => x.message != e.message))
           ∧ Kept [.readout] s t)
       ∧ (readoutLit s = true → markApplies m e = true → m = .ms10000 →
           t.readout.queue = settlePopups (s.readout.queue.filter (fun x => x.message != 64))
           ∧ (∀ id cls text, s.driver.mailbox = .full id cls text →
               t.driver = { s.driver with mailbox := .empty, lastConsumed := id })
           ∧ Kept [.readout, .driver] s t) := by
  have hmark := popupMark_reached (s := s.setReports []) hclock hshowing hstate hreached
  by_cases hends : readoutLit s = true ∧ markApplies m e = true ∧ markEnds m = true
  · have hwork : effectOf (.popupTimeMark m) (s.setReports []) = retirePopup e.message (s.setReports []) :=
      hmark.trans (if_pos hends)
    obtain ⟨hlit, happlies, hend⟩ := hends
    have hexec := exec_idle (by simp) hwork (by simp) ((sleepReady_retirePopup _ _).trans hawake)
    obtain ⟨hboth, hone⟩ := kept_retirePopup e.message (s.setReports [])
    have hqueue : (refreshScreen (retirePopup e.message (s.setReports []))).readout.queue
        = settlePopups (s.readout.queue.filter (fun x => x.message != e.message)) := by
      rw [refreshScreen_queue, retirePopup_readout]
      rfl
    refine ⟨_, hexec, fun h => ?_, fun h => ?_, fun _ _ h => ⟨hqueue, ?_⟩, fun _ _ h => ?_⟩
    · simp [hlit, happlies] at h
    · simp [h, markEnds] at hend
    · have hother : e.message ≠ 64 := by
        subst h
        simp only [markApplies, Bool.and_eq_true, bne_iff_ne] at happlies
        exact happlies.2
      exact Kept.trans (Kept.trans (kept_setReports _ s []) (hone hother)) (kept_refreshScreen _ _)
    · have hnotice : e.message = 64 := by
        subst h
        exact beq_iff_eq.mp happlies
      refine ⟨hnotice ▸ hqueue, fun id cls text hfull => ?_,
        Kept.trans (Kept.trans (kept_setReports _ s []) hboth) (kept_refreshScreen _ _)⟩
      rw [hnotice, (refreshScreen_frame _).2.2.2.2.2.2.2.2.1]
      exact retirePopup_notice (s := s.setReports []) hfull
  · have hwork : effectOf (.popupTimeMark m) (s.setReports []) = s.setReports [] := hmark.trans (if_neg hends)
    have hidle : Kept [] s (refreshScreen (s.setReports [])) :=
      Kept.trans (kept_setReports _ s []) (kept_refreshScreen _ _)
    refine ⟨_, exec_idle (by simp) hwork rfl hawake, fun _ => hidle, fun _ => hidle, ?_, ?_⟩
    all_goals
      rintro hlit happlies rfl
      exact absurd ⟨hlit, happlies, rfl⟩ hends

/-! ## Screen writes (R76) -/

theorem composeScreen_congr {s t : State} (htables : t.tables = s.tables) (hcontrol : t.control = s.control)
    (hdriver : t.driver = s.driver) (hdistance : t.distance = s.distance) (hservice : t.service = s.service)
    (hqueue : t.readout.queue = s.readout.queue) (hpage : t.readout.page = s.readout.page)
    (hwindow : t.readout.windowDue = s.readout.windowDue) : composeScreen t = composeScreen s := by
  have hpages : pageLines t s.readout.page = pageLines s s.readout.page := by
    cases s.readout.page <;> simp only [pageLines, hdriver, hdistance]
  have hpopups : ∀ e, popupLines t e = popupLines s e := fun e => by
    simp only [popupLines, popupText, htables, hdriver, hqueue]
  have hlines : composeLines t = composeLines s := by
    simp only [composeLines, hpages, hpopups, hservice, hqueue, hpage]
  have hicons : composeIcons t = composeIcons s := by simp only [composeIcons, hdriver]
  have hlit : readoutLit t = readoutLit s := by simp only [readoutLit, hcontrol, hwindow]
  simp only [composeScreen, hlines, hicons, hlit]

theorem composeScreen_refreshScreen (s : State) : composeScreen (refreshScreen s) = composeScreen s :=
  composeScreen_congr (by simp) (by simp) (by simp) (by simp) (by simp) (by simp) (by simp) (by simp)

theorem refreshScreen_composed (s : State) : (refreshScreen s).readout.composed = composeScreen s := by
  simp only [refreshScreen]
  repeat' split
  · next h => exact h.symm
  all_goals rfl

/-- Every command leaves the screen composed (R76). -/
theorem exec_composed {c : Instr} {s t : State} (h : exec c s = .next t) : t.readout.composed = composeScreen t := by
  rcases exec_cases h with ⟨l, -, rfl⟩ | ⟨-, rfl⟩
  · rfl
  · rw [finish, refreshScreen_composed, composeScreen_refreshScreen]

/-- The second part of O52: the screen stands composed, so that its composition starts no write. -/
theorem displayWriteComplete_spec {s : State} {w : Screen} (hawake : AwakeLaw s) (hwriting : s.readout.writing = some w)
    (hcomposed : s.readout.composed = composeScreen s) :
    ∃ t, exec .displayWriteComplete s = .next t ∧ Kept [.readout] s t
       ∧ t.readout = (if s.readout.again then
           { s.readout with moduleScreen := some w, writing := some s.readout.composed, again := false }
         else { s.readout with moduleScreen := some w, writing := none }) := by
  have hreadout : (screenWritten (s.setReports [])).readout = (if s.readout.again then
      { s.readout with moduleScreen := some w, writing := some s.readout.composed, again := false }
      else { s.readout with moduleScreen := some w, writing := none }) := by
    have hwriting' : (s.setReports []).readout.writing = some w := hwriting
    simp only [screenWritten, hwriting']
    split <;> simp_all
  have hkept : Kept [.readout] s (screenWritten (s.setReports [])) := by
    refine Kept.trans (kept_setReports _ s []) fun k hk => ?_
    cases k
    case readout => exact absurd (by decide) hk
    all_goals simp [agree]
  have hpage : (screenWritten (s.setReports [])).readout.page = s.readout.page := by
    rw [hreadout]
    split <;> rfl
  have hwindow : (screenWritten (s.setReports [])).readout.windowDue = s.readout.windowDue := by
    rw [hreadout]
    split <;> rfl
  have hcontents : (screenWritten (s.setReports [])).readout.composed = s.readout.composed := by
    rw [hreadout]
    split <;> rfl
  have hsame : composeScreen (screenWritten (s.setReports []))
      = (screenWritten (s.setReports [])).readout.composed := by
    rw [hcontents, hcomposed]
    exact composeScreen_congr (by simp) (by simp) (by simp) (by simp) (by simp) (by simp) hpage hwindow
  have hidle : refreshScreen (screenWritten (s.setReports [])) = screenWritten (s.setReports []) := if_pos hsame
  refine ⟨_, exec_idle (u := screenWritten (s.setReports [])) (by simp) rfl (by simp) ?_, ?_, ?_⟩
  · exact (sleepReady_congr (by simp) (by simp) (by simp) hwindow).trans hawake
  · rwa [hidle]
  · rw [hidle, hreadout]

/-! ## The overflow (R87) -/

/-- The third part of O52. -/
theorem postPopup_overflow {m : Nat} {cls : Grade} {nonLatched : Bool} {s : State}
    (hfull : s.readout.queue.length = 8) (hnew : ∀ y ∈ s.readout.queue, y.message ≠ m)
    (hids : (s.readout.queue.map (fun y => y.message)).Nodup)
    (horders : (s.readout.queue.map (fun y => y.order)).Nodup) :
    (postPopup m cls nonLatched s).monitor
        = s.monitor.set 9 (countedAttribute s.tables.health[(9 : Fin 10)] s.monitor[(9 : Fin 10)])
     ∧ Kept [.readout, .monitor] s (postPopup m cls nonLatched s)
     ∧ ((∀ y ∈ s.readout.queue, cls.rank ≤ y.cls.rank) → (postPopup m cls nonLatched s).readout = s.readout)
     ∧ ∀ x ∈ s.readout.queue, x.cls.rank < cls.rank →
        (∀ y ∈ s.readout.queue, y = x ∨ x.cls.rank < y.cls.rank ∨ x.cls = y.cls ∧ y.order < x.order) →
        (postPopup m cls nonLatched s).readout = { s.readout with
          lastOrder := s.readout.lastOrder + 1
          queue := settlePopups (s.readout.queue.filter (fun y => y.message != x.message)
            ++ [{ message := m, cls := cls, nonLatched := nonLatched, order := s.readout.lastOrder + 1,
                  state := .queued }]) } := by
  have hcount : ∀ t, (count 9 t).readout = t.readout := fun t => by simp
  rcases postPopup_full hnew hfull cls nonLatched with ⟨e, he, hle, hleast, heq⟩ | ⟨e, he, hlt, hleast, heq⟩ <;>
    rw [heq]
  · exact ⟨count_monitor 9 s, kept_count 9 s (by decide), fun _ => hcount s,
      fun x hx hrank _ => absurd (hle.trans (hleast x hx)) (not_le.mpr hrank)⟩
  · refine ⟨count_monitor 9 _, ?_, fun hall => absurd (hall e he) (not_le.mpr hlt), fun x hx _ hlast => ?_⟩
    · refine Kept.trans (fun k hk => ?_) (kept_count 9 _ (by decide))
      cases k
      case readout => exact absurd (by decide) hk
      all_goals simp [agree]
    · have hlowest : e.cls.rank = x.cls.rank := by
        refine le_antisymm (hleast x hx) ?_
        rcases hlast e he with rfl | hhigher | ⟨hsame, -⟩
        · exact le_rfl
        · exact hhigher.le
        · rw [hsame]
      have hdrop := dropNewestPopup_eq hids horders hx fun y hy hrank => by
        rcases hlast y hy with rfl | hhigher | ⟨-, horder⟩
        · exact le_rfl
        · omega
        · exact horder.le
      rw [hcount, hlowest, hdrop]
      rfl

/-! ## The composed screen (R76 to R81, R85) -/

theorem readoutLit_iff (s : State) : readoutLit s = true ↔ s.control.part = .start ∨ s.control.part = .run
    ∨ s.control.part = .afterRun ∨ s.control.part = .listening ∧ s.readout.windowDue.isSome = true := by
  cases hpart : s.control.part <;> simp [readoutLit, PartState.driving, hpart]

theorem composeScreen_dark {s : State} (h : readoutLit s = false) : composeScreen s = darkScreen := by
  rw [composeScreen, h]
  rfl

/-- The icons of a driver (R77). -/
theorem driverIcons_eq (r : DriverRecord) : driverIcons r (activityIcon r) (cardIcon r) := by
  constructor
  · intro a
    unfold activityIcon
    cases r.snapshot with
    | none => simp
    | some p =>
      simp only [Option.some.injEq, Option.ite_none_right_eq_some]
      grind
  · unfold cardIcon cardInserted
    cases r.snapshot <;> simp

/-- A text over the 20 columns of a line (R85). -/
theorem map_glyphOf_padTwenty (text : List CharCode) :
    (padTwenty text).map glyphOf = (List.range 20).map (fun i => codeShown (text.getD i 0x20)) := by
  refine List.ext_getElem (by simp [padTwenty]) fun i hi _ => ?_
  have hlt : i < 20 := by simp [padTwenty] at hi; omega
  simp only [padTwenty, List.getElem_map, List.getElem_take, List.getElem_range]
  by_cases htext : i < text.length
  · rw [List.getElem_append_left htext, List.getD_eq_getElem _ _ htext]
    rfl
  · rw [List.getElem_append_right (not_lt.mp htext), List.getElem_replicate,
      List.getD_eq_default _ _ (not_lt.mp htext)]
    rfl

/-- The text of a message number (R85, Table 5-3). -/
theorem popupText_eq {s : State} {message : Nat} {text : List CharCode}
    (h : message = 64 ∧ (∃ id cls, s.driver.mailbox = .full id cls text)
      ∨ (∃ x ∈ builtInTexts, message = x.1 ∧ text = x.2.map (fun c => BitVec.ofNat 7 c.toNat))
      ∨ message < 56 ∧ ∃ x : ConfigText, (s.tables.texts.filter (fun x => x.message == message)).getLast? = some x
          ∧ text = x.codes) : popupText s message = text := by
  rcases h with ⟨rfl, id, cls, hfull⟩ | ⟨x, hx, rfl, rfl⟩ | ⟨hlow, x, hx, rfl⟩
  · simp [popupText, hfull, mailboxText]
  · simp only [builtInTexts, List.mem_cons, List.not_mem_nil, or_false] at hx
    rcases hx with rfl | rfl | rfl | rfl | rfl | rfl | rfl | rfl <;> rfl
  · have hother : message ≠ noticeMessage := by simp only [noticeMessage]; omega
    rw [popupText, if_neg hother, if_neg (by omega), hx]

/-- The lines of a pop-up with its text (R85). -/
theorem popupLines_shown {s : State} {e : PopupEntry} {time : Nat} {text : List CharCode}
    (hstate : e.state = .showing time) (htext : popupText s e.message = text) :
    ((popupLines s e).1.map glyphOf, (popupLines s e).2.map glyphOf)
      = popupShown text time (s.readout.queue.filter (fun x => x.state == .queued)).length := by
  have htime : e.timeShown = time := by rw [PopupEntry.timeShown, hstate]
  simp only [popupLines, popupShown, htext, htime, queuedCount, map_glyphOf_padTwenty, digitCode_eq]
  generalize (s.readout.queue.filter (fun x => x.state == .queued)).length = n
  refine Prod.ext rfl ?_
  rw [← map_glyphOf_codesOf]
  · congr 1
    by_cases hack : 1000 ≤ time <;> by_cases hnone : n = 0 <;>
      simp [hack, hnone, writeAt, codesOf, blankLine, spaces, List.replicate]
  · simp only [List.forall_mem_append]
    refine ⟨⟨?_, printable_spaces 9⟩, ?_⟩
    · split
      · simp [Printable]
      · exact printable_spaces 9
    · split
      · exact printable_spaces 2
      · simp only [List.forall_mem_cons]
        exact ⟨by decide, printable_lastDigit _, fun _ h => absurd h List.not_mem_nil⟩

/-- Settles O52. -/
theorem popupMarksAndScreenWrites : Obligations.PopupMarksAndScreenWrites := by
  refine ⟨fun m e time s => popupTimeMark_spec, fun s w => displayWriteComplete_spec,
    fun m cls nonLatched s u hu => hu ▸ postPopup_overflow, fun c s t => exec_composed, fun s hchange => ?_,
    readoutLit_iff, fun s => composeScreen_dark, fun s w hlit hw => ?_⟩
  · rw [refreshScreen, if_neg hchange]
    rfl
  · obtain rfl := hw.trans (if_pos hlit)
    refine ⟨rfl, driverIcons_eq _, driverIcons_eq _, decide_eq_true_iff, fun e time text hshowing hstate htext => ?_,
      fun hnone hforce => ?_, fun hnone hforce hdistance => ?_⟩
    · simp only [composeLines, hshowing]
      exact popupLines_shown hstate (popupText_eq htext)
    · simp only [composeLines, hnone, hforce, if_true]
      exact ⟨by decide, by decide⟩
    · simp only [composeLines, hnone, hforce, Bool.false_eq_true, if_false, pageLines_eq hdistance]
      obtain ⟨hfirst, hsecond⟩ := printable_pageShown s s.readout.page
      exact ⟨map_glyphOf_codesOf hfirst, map_glyphOf_codesOf hsecond⟩

end Sys2Proof.Proofs
